-- ==== Sys2Proof/Word.lean ====
section
/-! DEFINITION. Word.lean: the word types of the model.

A register or a register field is a natural number below two to its width: the fields of the NM860 have every
width from 1 to 32 bits, and one type for all of them keeps proofs free of casts. -/

namespace Sys2Proof

/-- One byte of DRAM. -/
abbrev Byte := BitVec 8

/-- The value of a 32-bit register, or of a field of one. -/
abbrev Word := Nat

end Sys2Proof
end

