-- ==== Sys2Proof/Machine/Types.lean ====
section
/-! DEFINITION. Machine/Types.lean: the plain data that commands carry and State holds: bus masters, output channels,
the configuration image, queue words and the like. -/

namespace Sys2Proof.Machine

/-- The masters of the configuration bus (R16). Field cores are one master for every rule of the spec. -/
inductive Master where
  | core | shoit | loader
  deriving DecidableEq, Repr, Inhabited

/-- The gated output channels of R21. -/
inductive Chan where
  | ls (n : Nat) | vd (n : Nat) | io (n : Nat) | bl (n : Nat) | fc (n : Nat)
  deriving DecidableEq, Repr, Inhabited

/-- Who produces a process-image point (R28, R29): the field cores, a block by its number in Table 1.10, a remote CAN node
by its index, or a peer by its index. -/
inductive Producer where
  | cores | block (b : Nat) | node (n : Nat) | peer (p : Nat)
  deriving DecidableEq, Repr, Inhabited

/-- The value types of Table 1.5. -/
inductive PtType where
  | q15 | u16 | s32 | bool
  deriving DecidableEq, Repr, Inhabited

/-- What a scheduler class delivers to (R114): an output channel command, the look-ahead unit, the Sluice unit, a queue
item, or a process-image point; and the finer kinds the owning chapters name (a loop setpoint, the master section
switch of the look-ahead unit, an impact gate of an AI channel, and a valve with the profile slot an ON starts). -/
inductive Dest where
  | chan (c : Chan)
  | point (n : Nat)
  | lah
  | slu
  | queue (q : Nat)
  | loopSp (slot : Nat)
  | master
  | impact (ai : Nat)
  | valve (n slot : Nat)
  deriving DecidableEq, Repr, Inhabited

/-- A camera's short packet besides its virtual channel: the 16-bit frame number it carries, and what the ECC of its header gave: 0 good,
1 corrected, 2 uncorrectable (R236). -/
structure ShortPkt where
  fn : Nat
  hdr : Nat
  deriving DecidableEq, Repr, Inhabited

/-- What the 250 ns samples of a coil current showed since the last command: the latest and the highest, in mA (R312). -/
structure CoilSamples where
  last : Nat
  peak : Nat
  deriving DecidableEq, Repr, Inhabited

/-- The markers of a queue word (R380). -/
inductive Marker where
  | start | cont | stop | one
  deriving DecidableEq, Repr, Inhabited

/-- What the check codes say of an entry when it is presented (R390): no error, a corrected single-bit error, a data lane
or the tag beyond correction. -/
inductive EntryErr where
  | clean | corrected | lane | tag
  deriving DecidableEq, Repr, Inhabited

/-- A signal a GNSS antenna receives at an epoch (Tables 10.1 and 10.5): signal code, satellite, antenna, elevation in
degrees, C/N0 in 0.25 dB-Hz, whether its navigation data are decoded and current, and its measurements. -/
structure GnssSig where
  sig : Nat
  svid : Nat
  ant : Nat
  elev : Nat
  cn0 : Nat
  nav : Bool
  prValid : Bool
  cpValid : Bool
  half : Bool
  slip : Bool
  range : Nat
  carrier : Int
  doppler : Int
  lockMs : Nat
  deriving DecidableEq, Repr, Inhabited

/-- What the tracked signals solve to at an epoch, as the sky gives it: ANT0's position in 10^-9 degree, height in mm, velocity
in mm/s, the resolved baseline's length in mm and direction in 2^-16 revolution, accuracies, clock bias in ps, GNSS time in
ns, leap seconds, front-end gains and bias currents. -/
structure GnssSol where
  lat : Int
  lon : Int
  height : Int
  velN : Int
  velE : Int
  velD : Int
  baseLen : Nat
  baseDir : Nat
  hdgAcc : Nat
  hAcc : Nat
  vAcc : Nat
  sAcc : Nat
  pdop : Nat
  clkBias : Int
  gt : Nat
  leap : Nat
  agc0 : Nat
  agc1 : Nat
  ma0 : Nat
  ma1 : Nat
  deriving DecidableEq, Repr, Inhabited

/-- An action or compensation entry of a Sluice template (Table 6.2). -/
structure SlAct where
  kind : Nat
  node : Nat
  target : Nat
  value : Nat
  deriving DecidableEq, Repr, Inhabited

/-- A layer of an NPU program (R213): kernel size and stride of a convolution; the slope of a leaky ReLU as a power of two, where it is one. -/
inductive NpuLayer where
  | conv (kw kh stride : Nat)
  | pool
  | add
  | concat
  | resize2
  | relu
  | leakyRelu (slopeLog : Option Int)
  | other
  deriving DecidableEq, Repr, Inhabited

/-- What the sections of an image build besides register fields (R69, R72). The spec fixes the byte layout of the
PARAM-BLOCK section alone; the content of the others is held as these items (assumption 6). -/
inductive BuildItem where
  /-- CR0 MODE-TABLE: channel `c` may open in the modes whose bits are set: 0 SERVICE, 1 ROAD, 2 FIELD (R40). -/
  | gatePerm (c : Chan) (modes : Nat)
  /-- CR0: channel `c` is classed as implement or threshing (R40). -/
  | implChan (c : Chan)
  /-- CR0: block `b` is FIELD-required (R42). -/
  | fieldRequired (b : Nat)
  /-- CR0: the mode table admits FIELD (R42). -/
  | admitsField
  /-- CR6: what scheduler class `c` delivers to, the filers it admits (bit 0 look-ahead, 1 Sluice, 2 field cores), its
  report queue and its reservation (R114). -/
  | tmbClass (c : Nat) (dest : Dest) (filers : Nat) (report : Option Nat) (reserve : Nat)
  /-- CR6: the RA source: its pulses per revolution, the FI input it counts on, and whether that is the first of a quadrature pair
  (R105). -/
  | raSource (ppr fi : Nat) (pair : Bool)
  /-- CR6: a wheel source of one or two quadrature FI pairs, or another MD source, exists (R106). -/
  | mdSource (i : Nat) (pairs : Nat)
  /-- CR6: what FI input `fi` serves: 0 the first wheel pair, 1 the second, 2 GSS (R106). -/
  | fiUse (fi role : Nat)
  /-- CR1: the point of an input: kind 0 an IO pin, 1 an AI channel, 2 its impact count, 3 an FI input (R331 to R338). -/
  | ioPoint (kind n point : Nat)
  /-- CR4: the 17-point table that converts the AI code of blower `c`'s sensor to 0.1 °C (R340). -/
  | blwTable (c : Nat) (t : List Int)
  /-- CR7: reference point and drawbar length of implement `i`, in mm (Table 5.1). -/
  | implement (i : Nat) (refX refY : Int) (drawbar : Nat)
  /-- CR7: a section: its implement, centre, width, switch destination and rate destination (Table 5.2). -/
  | section_ (s : Nat) (impl : Nat) (x y : Int) (width : Nat) (sw : Dest) (rate : Option Nat)
  /-- CR7: the as-applied queue (R155). -/
  | asApplied (q : Nat)
  /-- CR7: the point that carries the measured curvature (R129). -/
  | curvature (point : Nat)
  /-- CR8: the report queue of template `t` (R158). -/
  | template (t : Nat) (report : Option Nat)
  /-- CR8: the next action of template `t`, or its next compensation entry (R158, R159). -/
  | tplEntry (t : Nat) (comp : Bool) (a : SlAct)
  /-- CR13: a window entry of a time-triggered CAN port (Table 14.3). -/
  | canWindow (port start len kind base rep slot : Nat)
  /-- CR13: the Carsil frames of the module that one Carsil window of a CAN port carries (R172). -/
  | carsilFrames (port frames : Nat)
  /-- CR13: a device of the node table: its CAN ports, its Ethernet port and IPv4 address, its Carsil address, and
  NODE_TMO_MS (R365). -/
  | netNode (n : Nat) (cans : List Nat) (eth : Option (Nat × Nat)) (carsil : Option Nat) (tmoMs : Nat)
  /-- CR13: an acceptance filter of a CAN port: identifiers equal to `id` under `mask`, 29-bit where `ext`, go to queue `q` (R349). -/
  | canFilter (port mask id : Nat) (ext : Bool) (q : Nat)
  /-- CR13: a receive map: `len` bits from bit `lo` of the frames with identifier `id` on a CAN port fill point `point` of node `n`
  (R365). Bit 31 of an identifier marks 29 bits. -/
  | rxMap (n port id lo len point : Nat)
  /-- CR13: a transmit map: point `point` takes `len` bits from bit `lo` of a frame of `size` bytes, in a message slot or
  event-triggered (R365). -/
  | txMap (point port id lo len size : Nat) (slot : Option Nat)
  /-- CR13: a message slot of the module on a CAN port: identifier, data bytes, and the queue that fills it, if one does (R349, R353). -/
  | canSlot (port slot id len : Nat) (q : Option Nat)
  /-- CR13: the queue a CAN port transmits event-triggered frames from (R349). -/
  | canTxQueue (port q : Nat)
  /-- CR13: a condensed group: port, destination address, device element, DDI and points (R364). -/
  | condGroup (g port dest elem ddi : Nat) (points : List Nat)
  /-- CR13: the queue that takes Actual Condensed Work State messages of a port (R364). -/
  | condQueue (port q : Nat)
  /-- CR13: preferred address of an ISO 11783 port, and the queue its part 3 messages go to (R363). -/
  | isoPort (port pref q : Nat)
  /-- CR15: point `n` is mirrored to the peers (R369). -/
  | mirrored (n : Nat)
  /-- CR11: what the NPU programs need: bytes of the working store, and worst-case µs of steps 3 to 6 of Table 8.4 (R213). -/
  | npuNeed (bytes us : Nat)
  /-- CR9: the output channel that consumes loop slot `s`'s output (R191). -/
  | loopConsumer (s : Nat) (c : Chan)
  /-- CR11: the camera network of camera `c`, and the head program, by program number (R213). -/
  | camNet (c prog : Nat)
  | headProgram (prog : Nat)
  /-- CR11: GAIN of camera `c`, BIAS and QM of every channel (R221, R223). -/
  | fusGain (c : Nat) (l : List Int)
  | fusBias (l : List Int)
  | fusQm (l : List Nat)
  /-- CR11: embeddings of point sensor `p` and its footprint: rows, then columns (R222). -/
  | fusPoint (p : Nat) (emb : List Int) (row0 row1 col0 col1 : Nat)
  /-- CR11: the feature tap buffer of camera `c` (R233). -/
  | fusTap (c addr : Nat)
  /-- CR12: the transform table of camera `c`: CAL_ID, TENSOR_W and TENSOR_H of its header, and entries of 32 bits in cell order (R220). -/
  | transform (c calId tw th : Nat) (entries : List Nat)
  /-- CR11: the grid's place: X of the near edge of row 0, Y of the right edge of column 0, in mm (Table 8.1). -/
  | gridPlace (x0 y0 : Int)
  /-- CR11: a layer of an NPU program (R213). -/
  | npuLayer (prog : Nat) (l : NpuLayer)
  /-- CR11: the buffers of camera `c`: frame buffers, the statistics slots' first address, the two tap buffers (R253 to R256). -/
  | camPlace (c : Nat) (bufs : List Nat) (stats : Nat) (taps : List Nat)
  /-- CR12: the static defect table of camera `c`: X in [11:0], Y in [27:16] (R246). -/
  | defects (c : Nat) (l : List Nat)
  /-- CR11: a frame, statistics or raw-tap buffer in DRAM: first address and bytes (R253, Table 1.11). -/
  | buffer (lo len : Nat)
  /-- CR14: the channels a fault's reaction closes (R437). -/
  | reaction (code : Nat) (chans : List Chan)
  /-- CR14: the recorder mode named: 0 two-area, 1 stop-when-full (R400). -/
  | recMode (m : Nat)
  /-- CR14: the writer of P-register `n`: 0 field cores, 1 Shoit, 2 + b block b (R93). -/
  | pregOwner (n : Nat) (w : Nat)
  /-- CR15 POINT-TABLE: type, producer and freshness limit in µs of a point (R27 to R29). -/
  | point (n : Nat) (ty : PtType) (prod : Producer) (freshUs : Nat)
  /-- CR15 PRESET-OVERRIDE: the value that selector value `v` of the selector register field `sel` gives the field
  `key` (R90); both fields by their keys. -/
  | presetCell (sel : Nat) (v : Nat) (key : Nat) (val : Nat)
  /-- ELEMENT-TABLE: block `b` builds `count` elements from the section's TARGET on (Table 3.2). -/
  | elements (b : Nat) (count : Nat)
  /-- KEY-ENROL: image-key slot and digest (R76). -/
  | keyEnrol (slot : Nat) (digest : Nat)
  deriving DecidableEq, Repr, Inhabited

/-- What the loader reads from the payload of one section where the spec gives its content and no byte layout: register field values by
field key, and structure (assumption 6). -/
structure SectRead where
  fields : List (Nat × Nat)
  items : List BuildItem
  deriving DecidableEq, Repr, Inhabited

/-- What comes with a load beside the bytes in DRAM: what the payloads of the sections say, region by region in ascending order
(assumption 6), and the number the signer used (assumption 4). -/
structure Reading where
  sects : List (List SectRead)
  k : Nat
  deriving DecidableEq, Repr, Inhabited

/-- A section of a region body (R69): its header, its payload, its offset in the image, and what its payload says. -/
structure Sect where
  type : Nat
  flags : Nat
  length : Nat
  target : Nat
  crc : Nat
  payload : List Nat
  at_ : Nat
  said : SectRead
  deriving DecidableEq, Repr, Inhabited

/-- A region of an image: its table entry, its bytes and its sections (R68). -/
structure Region where
  no : Nat
  offset : Nat
  length : Nat
  crc : Nat
  flags : Nat
  sections : Nat
  raw : List Nat
  body : List Sect
  deriving DecidableEq, Repr, Inhabited

/-- A configuration image as the loader reads it (R65 to R70): every byte of it, and the fields of the header, the table, the bodies and
the signature block. `k` is the number the signer used (assumption 4). -/
structure Image where
  bytes : List Nat
  magic : Nat
  format : Nat
  hdrLen : Nat
  kind : Nat
  cls : Nat
  startMode : Nat
  keyIndex : Nat
  totalLen : Nat
  imageId : Nat
  imageVer : Nat
  regionMask : Nat
  baseHash : Nat
  pleviaVer : Nat
  hdrCrc : Nat
  regions : List Region
  pubKey : List Nat
  sig : List Nat
  k : Nat
  deriving DecidableEq, Repr, Inhabited

/-- The registers of the local grid and the coverage map (R156). -/
inductive MapReg where
  | lat0 | lon0 | orgE | orgN | width | height | base
  deriving DecidableEq, Repr, Inhabited

/-- What a register write needs from outside the model beside its word: what the payloads of the image at CFG_LOAD_ADDR say (assumption 6),
the numbers the signers of the signatures the write leads to used (assumption 4), the mean of LOG over the last second in 10 mV, what the MRAM
cell reads back after the write and after the second one where it is not the value written (R94), and what the baseband
would put into the hot-start store (R274). -/
structure Aux where
  image : Reading
  k1 : Nat
  k2 : Nat
  avg : Nat
  cell1 : Option Nat
  cell2 : Option Nat
  eph : List (Nat × Nat)
  almanac : Nat
  osc : Int
  deriving DecidableEq, Repr, Inhabited

end Sys2Proof.Machine
end

