-- ==== Sys2Proof/Syntax.lean ====
section
/-! DEFINITION. Syntax.lean: the commands of the block, one constructor for each row of spec/opcode_table.json. -/

namespace Sys2Proof

open Machine

/-- The commands: register writes, bus and protocol operations, and happenings at the contacts or inside the block. -/
inductive Instr where
  /-- REGISTER_WRITE (R87): master, address, width in bits, value, outcomes. -/
  | registerWrite (mst : Master) (addr : Nat) (width : Nat) (w : Nat) (x : Aux)
  /-- SHADOWED_WRITE_APPLY (R87): block and element. -/
  | shadowedWriteApply (b : Nat) (e : Nat)
  /-- POINT_VALUE_WRITE (R30): address, width in bits, value. -/
  | pointValueWrite (addr : Nat) (width : Nat) (w : Nat)
  /-- FRESHNESS_EXPIRY (R29): point. -/
  | freshnessExpiry (n : Nat)
  /-- GATE_WRITE (R21): channel, open or closed. -/
  | gateWrite (c : Chan) (opened : Bool)
  /-- MODE_REQUEST (R43): REQ_MODE. -/
  | modeRequest (v : Nat)
  /-- TRANSITION_COMPLETE (R45). -/
  | transitionComplete
  /-- STATIONARY_CHANGE (R41). -/
  | stationaryChange
  /-- MOVE_IN_SERVICE (R46). -/
  | moveInService
  /-- WAKE_RISE (R42): LOG in 10 mV. -/
  | wakeRise (vlog : Nat)
  /-- WAKE_FALL (R62). -/
  | wakeFall
  /-- POWER_ON (R58): WAKE, LOG in 10 mV. -/
  | powerOn (wake : Bool) (vlog : Nat)
  /-- RTC_ALARM (R42): LOG in 10 mV. -/
  | rtcAlarm (vlog : Nat)
  /-- DORMANT_DAYS_EXPIRY (R55). -/
  | dormantDaysExpiry
  /-- SUPPLY_BAND_CHANGE (R50): 0 LOG, 1 PWR-A, 2 PWR-B; voltage and 5 s mean in 10 mV; LOG above 36 V for more than 400 ms. -/
  | supplyBandChange (input : Nat) (v : Int) (avg : Nat) (over36 : Bool)
  /-- CRANK_START (R52). -/
  | crankStart
  /-- CRANK_END (R52): LOG in 10 mV. -/
  | crankEnd (vlog : Nat)
  /-- BROWN_OUT (R53). -/
  | brownOut
  /-- RESET_REQUEST (R59): KIND, KEY. -/
  | resetRequest (kind : Nat) (key : Nat)
  /-- FCWD_KICK (R60): value. -/
  | fcwdKick (v : Nat)
  /-- FCWD_EXPIRY (R60). -/
  | fcwdExpiry
  /-- ISLAND_RESET (R58). -/
  | islandReset
  /-- SHUTDOWN_START (R61). -/
  | shutdownStart
  /-- SHUTDOWN_ACK (R61): value; what the baseband stores (R274). -/
  | shutdownAck (v : Nat) (eph : List (Nat × Nat)) (almanac : Nat) (osc : Int)
  /-- AFTERRUN_EXPIRY (R61): what the baseband stores (R274). -/
  | afterrunExpiry (eph : List (Nat × Nat)) (almanac : Nat) (osc : Int)
  /-- SHUTDOWN_PRESET_WRITE (R64): selector. -/
  | shutdownPresetWrite (v : Nat)
  /-- LOAD (R77): what the sections of the image at CFG_LOAD_ADDR say. -/
  | loadCmd (x : Reading)
  /-- LOAD_AND_PERSIST (R85): what the sections of the image at CFG_LOAD_ADDR say. -/
  | loadAndPersist (x : Reading)
  /-- STATIC_BUILD_COMPLETE (R79): whether managed flash takes the image. -/
  | staticBuildComplete (flashOk : Bool)
  /-- LIVE_REGION_SWAP (R78): region, whether managed flash takes the patch. -/
  | liveRegionSwap (r : Nat) (flashOk : Bool)
  /-- LIVE_SWAP_TIMEOUT (R81): region. -/
  | liveSwapTimeout (r : Nat)
  /-- PREG_WRITE (R92): master, P-register, value, what the cell reads back where it differs. -/
  | pregWrite (mst : Master) (n : Nat) (w : Nat) (cell1 : Option Nat) (cell2 : Option Nat)
  /-- MD_PRESET_WRITE (R113): selector. -/
  | mdPresetWrite (v : Nat)
  /-- MD_FUSION_TICK (R107). -/
  | mdFusionTick
  /-- PPS_EDGE_MEASURE (R104): 1 GNSS, 2 network; reference time of the edge in ns. -/
  | ppsEdgeMeasure (source : Nat) (ref : Int)
  /-- MT_LOCK_TIMEOUT (R104). -/
  | mtLockTimeout
  /-- RA_PULSE (R105): the pulse counts backward. -/
  | raPulse (back : Bool)
  /-- RA_PULSE_TIMEOUT (R105). -/
  | raPulseTimeout
  /-- FILE_EVENT (R115): class. -/
  | fileEvent (c : Nat)
  /-- EVENT_ISSUE (R116). -/
  | eventIssue
  /-- CANCEL_EVENT (R119): handle. -/
  | cancelEvent (handle : Nat)
  /-- REVERSAL_CONFIRM (R121). -/
  | reversalConfirm
  /-- FORWARD_CONFIRM (R121). -/
  | forwardConfirm
  /-- HISTORY_ENTRY (R124). -/
  | historyEntry
  /-- HISTORY_QUERY (R125): KEY. -/
  | historyQuery (byMd : Bool)
  /-- SNAPSHOT_LATCH (R126). -/
  | snapshotLatch
  /-- PREDICTION_CYCLE (R133): the tiles fetched into the cache. -/
  | predictionCycle (fetched : List Nat)
  /-- FLOOD (R147). -/
  | flood
  /-- PAN_ENTRY_RAKE (R145). -/
  | panEntryRake
  /-- POSE_LOST_TIMEOUT (R129). -/
  | poseLostTimeout
  /-- FLOOD_REQUEST (R147): implements. -/
  | floodRequest (mask : Nat)
  /-- MASTER_WRITE (R147): MASTER. -/
  | masterWrite (v : Nat)
  /-- LAH_DISABLE (R156). -/
  | lahDisable
  /-- OVERLAP_PRESET_WRITE (R138): selector. -/
  | overlapPresetWrite (v : Nat)
  /-- MAP_ORIGIN_WRITE (R156): field, value. -/
  | mapOriginWrite (r : MapReg) (v : Nat)
  /-- IMPORT_GO (R153). -/
  | importGo
  /-- RATE_FILE (R146): implement. -/
  | rateFile (imp : Nat)
  /-- SLUICE_ARM (R161): template. -/
  | sluiceArm (t : Nat)
  /-- SLUICE_PREPARE (R164): template. -/
  | sluicePrepare (t : Nat)
  /-- CARSIL_WINDOW (R172): it ends, or starts. -/
  | carsilWindow (ends : Bool)
  /-- VOTE (R169): message bytes. -/
  | voteMsg (bs : List Nat)
  /-- SLUICE_DECIDE (R173): template. -/
  | sluiceDecide (t : Nat)
  /-- SLUICE_COMMIT (R165): template. -/
  | sluiceCommit (t : Nat)
  /-- OUTCOME (R170): message bytes. -/
  | outcomeMsg (bs : List Nat)
  /-- SLUICE_CANCEL (R173): template. -/
  | sluiceCancel (t : Nat)
  /-- SLUICE_DISABLE (R178). -/
  | sluiceDisable
  /-- CARSIL_PRESET_WRITE (R182): selector. -/
  | carsilPresetWrite (v : Nat)
  /-- PREPARE (R170): message bytes. -/
  | prepareMsg (bs : List Nat)
  /-- COMMIT (R170): message bytes. -/
  | commitMsg (bs : List Nat)
  /-- ABORT (R170): message bytes. -/
  | abortMsg (bs : List Nat)
  /-- GRACE_EXPIRY (R170): coordinator, group, instance. -/
  | graceExpiry (src : Nat) (group : Nat) (inst : Nat)
  /-- COMP (R170): message bytes. -/
  | compMsg (bs : List Nat)
  /-- QUERY (R170): message bytes. -/
  | queryMsg (bs : List Nat)
  /-- LOOP_TICK (R187). -/
  | loopTick
  /-- LOOP_OVERRUN (R188): the slots not completed. -/
  | loopOverrun (slots : List Nat)
  /-- FE_ACTION_FIRE (R203). -/
  | feActionFire
  /-- CTL_TRIP (R204): trip groups. -/
  | ctlTrip (mask : Nat)
  /-- RESUME (R205): slot. -/
  | resume (n : Nat)
  /-- SLOT_ENABLE_WRITE (R206): slot, EN. -/
  | slotEnableWrite (n : Nat) (on : Bool)
  /-- LOOP_ENGINE_DISABLE (R206). -/
  | loopEngineDisable
  /-- SUP_PRESET_WRITE (R207): slot, selector. -/
  | supPresetWrite (n : Nat) (v : Nat)
  /-- FUSION_INSTANT (R215). -/
  | fusionInstant
  /-- FRAME_BUILD_COMPLETE (R218): cameras whose feature tap could not be written in time. -/
  | frameBuildComplete (busy : List Nat)
  /-- FUSE_PRESET_WRITE (R234): selector. -/
  | fusePresetWrite (v : Nat)
  /-- FRAME_START (R242): port, virtual channel, the packet: frame number of the sensor, header check (0 good, 1 corrected, 2 uncorrectable). -/
  | frameStart (port : Nat) (vc : Nat) (pkt : Machine.ShortPkt)
  /-- LINE (R244): port, virtual channel, data type, header check, ns since the port's last packet, CRC good, pixels. -/
  | lineMsg (port : Nat) (vc : Nat) (dt : Nat) (hdr : Nat) (after : Nat) (crcOk : Bool) (px : List Nat)
  /-- FRAME_END (R253): port, virtual channel, header check. -/
  | frameEnd (port : Nat) (vc : Nat) (hdr : Nat)
  /-- LINK_DOWN (R240): port. -/
  | linkDown (p : Nat)
  /-- CAM_LINK_LOST (R240): port. -/
  | camLinkLost (p : Nat)
  /-- POC_TRIP (R240): port. -/
  | pocTrip (p : Nat)
  /-- POC_EN_WRITE (R240): port, POC_EN. -/
  | pocEnWrite (p : Nat) (on : Bool)
  /-- FSYNC_TRIGGER (R243): port. -/
  | fsyncTrigger (p : Nat)
  /-- I2C_GO (R258): port. -/
  | i2cGo (p : Nat)
  /-- I2C_DONE (R258): port, acknowledged, byte read. -/
  | i2cDone (p : Nat) (ack : Bool) (byte : Nat)
  /-- DPC_PRESET_WRITE (R250): camera, selector. -/
  | dpcPresetWrite (c : Nat) (v : Nat)
  /-- TONE_PRESET_WRITE (R250): camera, selector. -/
  | tonePresetWrite (c : Nat) (v : Nat)
  /-- CAMERA_EN_WRITE (R244): camera, none for ISP EN; EN. -/
  | cameraEnWrite (c : Option Nat) (on : Bool)
  /-- GNSS_EPOCH (R270): the signals received and what they solve to. -/
  | gnssEpoch (sigs : List GnssSig) (sol : GnssSol)
  /-- PPS_QERR_PUBLISH (R272): GPS second of the coming edge, its error in ps, its MT. -/
  | ppsQerrPublish (second_ : Nat) (qerr : Int) (edgeMt : Nat)
  /-- PPS_EDGE (R271). -/
  | ppsEdge
  /-- ANT_SHORT (R262): antenna. -/
  | antShort (n : Nat)
  /-- ANT_BIAS_RETRY (R262): antenna, the short persists. -/
  | antBiasRetry (n : Nat) (persists : Bool)
  /-- ANT_OPEN (R262): antenna. -/
  | antOpen (n : Nat)
  /-- EXT_GO (R269). -/
  | extGo
  /-- HOT_START_STORE_WRITE (R274): ephemerides with collection times, almanac time, oscillator offset. -/
  | hotStartStoreWrite (eph : List (Nat × Nat)) (almanac : Nat) (osc : Int)
  /-- GNSS_PRESET_WRITE (R277): selector. -/
  | gnssPresetWrite (v : Nat)
  /-- SWITCH_COMMAND (R280): channel, ON or OFF. -/
  | switchCommand (n : Nat) (on : Bool)
  /-- LSW_REARM (R280): channel. -/
  | lswRearm (n : Nat)
  /-- SLEW_DONE (R281): channel. -/
  | slewDone (n : Nat)
  /-- WIRE_MODEL_UPDATE (R283): channel, mean of the squared current in mA². -/
  | wireModelUpdate (n : Nat) (meanSq : Nat)
  /-- INSTANTANEOUS_TRIP (R286): channel. -/
  | instantaneousTrip (n : Nat)
  /-- RETRY_WAIT_END (R290): channel. -/
  | retryWaitEnd (n : Nat)
  /-- JUNCTION_OVERTEMP (R292): channel, junction in 0.1 °C. -/
  | junctionOvertemp (n : Nat) (tj : Int)
  /-- THERMAL_RESUME (R292): channel, junction in 0.1 °C. -/
  | thermalResume (n : Nat) (tj : Int)
  /-- CLAMP_PULSE (R288): channel, pulse energy, mean clamp power. -/
  | clampPulse (n : Nat) (energy : Nat) (power : Nat)
  /-- CLAMP_COOL_END (R288): channel, mean clamp power. -/
  | clampCoolEnd (n : Nat) (power : Nat)
  /-- GOVERNOR_PERIOD (R294): IA and IB in 0.1 A, measured at the inputs, and the channels' currents in 10 mA, channel 0 first. -/
  | governorPeriod (ia : Nat) (ib : Nat) (cur : List Nat)
  /-- LOAD_SHED (R294): the limit exceeded: 0 IA, 1 IB, 2 PSW. -/
  | loadShed (limit : Nat)
  /-- GOVERNOR_RESTORE (R296). -/
  | governorRestore
  /-- LSW_DIAGNOSTIC_PERIOD (R279): channel, current in 10 mA, on-resistance in 0.1 mΩ, junction in 0.1 °C. -/
  | lswDiagnosticPeriod (n : Nat) (cur : Nat) (ron : Nat) (tj : Int)
  /-- INPUT_UNDERVOLT (R297): 0 PWR-A, 1 PWR-B. -/
  | inputUndervolt (input : Nat)
  /-- UNDERVOLT_RECOVER (R297): 0 PWR-A, 1 PWR-B. -/
  | undervoltRecover (input : Nat)
  /-- DEFERRED_SWITCH_OFF (R298): channel. -/
  | deferredSwitchOff (n : Nat)
  /-- OPEN_LOAD (R299): channel, the conditions for setting held, or those for clearing. -/
  | openLoad (n : Nat) (on : Bool)
  /-- SHORT_TO_BAT (R299): channel. -/
  | shortToBat (n : Nat)
  /-- LOAD_PRESET_WRITE (R293): channel, selector. -/
  | loadPresetWrite (n : Nat) (v : Nat)
  /-- START (R310): channel, SLOT. -/
  | startCmd (n : Nat) (slot : Nat)
  /-- STOP (R310): channel. -/
  | stopCmd (n : Nat)
  /-- PHASE_END (R308): channel, how many 250 ns samples on, that sample and the peak in mA, clamp energy in 0.1 mJ. -/
  | phaseEnd (n : Nat) (k : Nat) (cur : Nat) (peak : Nat) (energy : Nat)
  /-- CURRENT_LOOP_TICK (R312): channel; mean of 40 samples, latest sample and peak, mA; clamp energy of an off interval in 0.1 mJ. -/
  | currentLoopTick (n : Nat) (mean : Nat) (x : Machine.CoilSamples) (energy : Nat)
  /-- STARVE_TIMEOUT (R316): channel. -/
  | starveTimeout (n : Nat)
  /-- CLOSING_DETECTION_DONE (R320): channel, time to zero current in µs, voltages in mV, clamp energy in 0.1 mJ, latest sample of the current in mA. -/
  | closingDetectionDone (n : Nat) (zeroUs : Nat) (u : List Int) (energy : Nat) (last : Nat)
  /-- VALVE_OVERCURRENT (R322): channel. -/
  | valveOvercurrent (n : Nat)
  /-- VALVE_OPEN (R322): channel. -/
  | valveOpen (n : Nat)
  /-- VALVE_OVERTEMP (R322): channel, junction in 0.1 °C. -/
  | valveOvertemp (n : Nat) (tj : Int)
  /-- BOOST_CHARGE (R306): BOOST_V in 10 mV. -/
  | boostCharge (v : Nat)
  /-- BOOST_LOW (R307): BOOST_V in 10 mV. -/
  | boostLow (v : Nat)
  /-- BOOST_OV (R307): BOOST_V in 10 mV. -/
  | boostOv (v : Nat)
  /-- VDR_DISABLE (R323). -/
  | vdrDisable
  /-- VALVE_PRESET_WRITE (R324): channel, selector. -/
  | valvePresetWrite (n : Nat) (v : Nat)
  /-- DOWNSTREAM_FRAME (R328): group; the bits inverted on the way, none where no frame arrives. -/
  | downstreamFrame (g : Nat) (noise : Option Nat)
  /-- UPSTREAM_FRAME (R328): group, pin currents in µA, pins at or above their ON threshold, supply in 10 mV, the bits inverted, none where no frame arrives. -/
  | upstreamFrame (g : Nat) (cur : List Nat) (on : Nat) (vsup : Nat) (noise : Option Nat)
  /-- FIO_REARM (R330): group. -/
  | fioRearm (g : Nat)
  /-- IO_OUTPUT_COMMAND (R327): pin, ON or OFF. -/
  | ioOutputCommand (n : Nat) (on : Bool)
  /-- IO_OUTPUT_FAULT (R327): pin. -/
  | ioOutputFault (n : Nat)
  /-- AI_PUBLISH (R334): channel, AVG_N samples in µV or nA, the reference at each of them in µV. -/
  | aiPublish (a : Nat) (samples : List Nat) (refs : List Nat)
  /-- AI_RANGE (R335): channel, the code that has stood for 10 ms. -/
  | aiRange (a : Nat) (code : Nat)
  /-- AI_OVERCURRENT (R335): channel. -/
  | aiOvercurrent (a : Nat)
  /-- SHUNT_RECLOSE (R335): channel. -/
  | shuntReclose (a : Nat)
  /-- AI_SUPPLY_TRIP (R336): 0 SSA, 1 SSB. -/
  | aiSupplyTrip (k : Nat)
  /-- AI_SUPPLY_RETRY (R336): 0 SSA, 1 SSB. -/
  | aiSupplyRetry (k : Nat)
  /-- IMPACT_PERIOD (R337): channel, the samples of the period. -/
  | impactPeriod (a : Nat) (samples : List Nat)
  /-- FI_EDGE (R338): input, its level, whether both levels of the pair changed in one sample, how long the level stood in ns. -/
  | fiEdge (f : Nat) (level : Bool) (both : Bool) (heldNs : Nat)
  /-- FI_PUBLISH (R338): input. -/
  | fiPublish (f : Nat)
  /-- BLOWER_PERIOD (R340): for each channel the ns between its last two tach edges, the ns since the last one, the current in mA. -/
  | blowerPeriod (gap : List Nat) (age : List Nat) (ma : List Nat)
  /-- KICK_TIMEOUT (R341): channel, current in mA. -/
  | kickTimeout (c : Nat) (ma : Nat)
  /-- BLOCK_WAIT_END (R339): channel. -/
  | blockWaitEnd (c : Nat)
  /-- TACH_TIMEOUT (R342): channel, current in mA. -/
  | tachTimeout (c : Nat) (ma : Nat)
  /-- BLOWER_SHORT (R342): channel. -/
  | blowerShort (c : Nat)
  /-- BLW_WD_KICK (R343): value. -/
  | blwWdKick (v : Nat)
  /-- BLOWER_WATCHDOG_EXPIRY (R343). -/
  | blowerWatchdogExpiry
  /-- BLOWER_REARM (R341): channel. -/
  | blowerRearm (c : Nat)
  /-- COMMISSION (R344): channel. -/
  | commission (c : Nat)
  /-- COMMISSION_DONE (R344): channel. -/
  | commissionDone (c : Nat)
  /-- AGEING_CHECK (R344): channel. -/
  | ageingCheck (c : Nat)
  /-- BLW_PRESET_WRITE (R345): channel, selector. -/
  | blwPresetWrite (c : Nat) (v : Nat)
  /-- CAN_FRAME_RX (R349): port, identifier with bit 31 marking 29 bits, data; none for a frame whose CRC or form is not good. -/
  | canFrameRx (p : Nat) (id : Nat) (bs : Option (List Nat))
  /-- CAN_WINDOW (R353): port, start after the mark in µs, µs of a FREE one that other nodes' frames take, the module wins an ARBITRATING one. -/
  | canWindow (p : Nat) (start : Nat) (busy : Nat) (won : Bool)
  /-- BUS_OFF (R351): port. -/
  | busOff (p : Nat)
  /-- BUS_OFF_RECOVERY (R351): port. -/
  | busOffRecovery (p : Nat)
  /-- REFERENCE_MESSAGE (R354): port, REF_PRIO of the sender, 16 bytes. -/
  | referenceMessage (p : Nat) (prio : Nat) (bs : List Nat)
  /-- BACKUP_REFERENCE_SEND (R355): port. -/
  | backupReferenceSend (p : Nat)
  /-- SYNC_LOST (R356): port. -/
  | syncLost (p : Nat)
  /-- CAN_PRESET_WRITE (R350): port, selector. -/
  | canPresetWrite (p : Nat) (v : Nat)
  /-- SYNC (R360): port, gPTP domain, PTP time now in ns. -/
  | syncMsg (p : Nat) (domain : Nat) (ptp : Nat)
  /-- SYNC_SEND (R360). -/
  | syncSend
  /-- ANNOUNCE (R360): port. -/
  | announceMsg (p : Nat)
  /-- UDP_DATAGRAM (R362): port, UDP port, fragmented, checksum fails, payload. -/
  | udpDatagram (p : Nat) (dst : Nat) (frag : Bool) (bad : Bool) (bs : List Nat)
  /-- ARP_REQUEST (R362): port, the address asked for. -/
  | arpRequest (p : Nat) (ip : Nat)
  /-- ETH_LINK_DOWN (R374): port. -/
  | ethLinkDown (p : Nat)
  /-- ADDRESS_CLAIM (R363): port, the NAME of another claimant of the address, if there is one. -/
  | addressClaim (p : Nat) (contender : Option Nat)
  /-- TRANSPORT_PROTOCOL (R363): port, identifier, data. -/
  | transportProtocol (p : Nat) (id : Nat) (bs : List Nat)
  /-- PROCESS_DATA (R364): condensed group. -/
  | processData (g : Nat)
  /-- NODE_TIMEOUT (R365): node. -/
  | nodeTimeout (n : Nat)
  /-- STATUS_SEND (R366). -/
  | statusSend
  /-- STATUS (R368): message bytes. -/
  | statusMsg (bs : List Nat)
  /-- PEER_LOSS (R366): peer-table entry. -/
  | peerLoss (e : Nat)
  /-- JOIN_WAIT_END (R368). -/
  | joinWaitEnd
  /-- MIRROR_SEND (R369). -/
  | mirrorSend
  /-- MIRROR (R369): message bytes. -/
  | mirrorMsg (bs : List Nat)
  /-- SAFE (R371): message bytes. -/
  | safeMsg (bs : List Nat)
  /-- SAFE_MESSAGE_REPEAT (R371). -/
  | safeMessageRepeat
  /-- WR_START (R380): queue, word. -/
  | wrStart (q : Nat) (w : Nat)
  /-- WR (R380): queue, word. -/
  | wrCont (q : Nat) (w : Nat)
  /-- WR_END (R380): queue, word. -/
  | wrEnd (q : Nat) (w : Nat)
  /-- WR_ONE (R380): queue, word. -/
  | wrOne (q : Nat) (w : Nat)
  /-- QUEUE_WORD_WRITE (R380): queue, marker, word. -/
  | queueWordWrite (q : Nat) (mk : Marker) (w : Nat)
  /-- TAIL_WAIT_TIMEOUT (R384): queue. -/
  | tailWaitTimeout (q : Nat)
  /-- BRINE_SPILL (R381): queue, entries of the burst. -/
  | brineSpill (q : Nat) (n : Nat)
  /-- BRINE_REFILL (R381): queue, entries of the burst. -/
  | brineRefill (q : Nat) (n : Nat)
  /-- ENTRY_PRESENTATION (R383): queue, what the check codes say. -/
  | entryPresentation (q : Nat) (err : EntryErr)
  /-- POP_ENTRY (R386): queue, FGEN. -/
  | popEntry (q : Nat) (fgen : Nat)
  /-- POP_ITEM (R386): queue, FGEN. -/
  | popItem (q : Nat) (fgen : Nat)
  /-- DATA_PATH_TAKE (R388): queue. -/
  | dataPathTake (q : Nat)
  /-- FLUSH (R389): queue. -/
  | flush (q : Nat)
  /-- WM_PRESET_WRITE (R391): queue, selector. -/
  | wmPresetWrite (q : Nat) (v : Nat)
  /-- QUEUE_STALE (R393): queue. -/
  | queueStale (q : Nat)
  /-- RECORD_STORE (R399). -/
  | recordStore
  /-- OPERATING_SECOND (R398). -/
  | operatingSecond
  /-- REC_CURSOR_WRITE (R403): record number. -/
  | recCursorWrite (no : Nat)
  /-- REC_WIN7_READ (R403). -/
  | recWin7Read
  /-- CHALLENGE (R404). -/
  | challenge
  /-- CLEAR_TIDE (R405): KEY, the number the owner's signer drew for the signature at SIG_ADDR (R68). -/
  | clearTide (key : Nat) (k : Nat)
  /-- CLEAR_ALL (R405): KEY, the number the owner's signer drew for the signature at SIG_ADDR (R68). -/
  | clearAll (key : Nat) (k : Nat)
  /-- CLEAR_ERASE_DONE (R405). -/
  | clearEraseDone
  /-- USER_RECORD (R402): CODE. -/
  | userRecord (code : Nat)
  /-- THERMAL_SAMPLE (R409): group, readings in 0.1 °C, load fraction in 2^-16. -/
  | thermalSample (g : Nat) (readings : List Int) (load : Nat)
  /-- THM_PRESET_WRITE (R414): selector. -/
  | thmPresetWrite (v : Nat)
  /-- STAGE (R421): 5 s mean of LOG in 10 mV, the numbers the signers of the two blocks drew (R68). -/
  | stageCmd (avg : Nat) (k : Nat × Nat)
  /-- STAGE_COMPLETE (R421). -/
  | stageComplete
  /-- STAGE_GATE_CHECK (R421): 5 s mean of LOG in 10 mV, bytes written. -/
  | stageGateCheck (avg : Nat) (written : Nat)
  /-- ACTIVATE (R422): 5 s mean of LOG in 10 mV. -/
  | activateCmd (avg : Nat)
  /-- ACTIVATE_WITH_REBOOT (R422): 5 s mean of LOG in 10 mV. -/
  | activateWithReboot (avg : Nat)
  /-- ABANDON (R422). -/
  | abandonCmd
  /-- CONFIRM (R424). -/
  | confirmCmd
  /-- UPD_CHALLENGE (R426). -/
  | updChallenge
  /-- LOCK (R426): KEY, 5 s mean of LOG in 10 mV, the number the owner's signer drew (R68). -/
  | lockCmd (key : Nat) (avg : Nat) (k : Nat)
  /-- UNLOCK (R426): KEY, 5 s mean of LOG in 10 mV, the number the owner's signer drew (R68). -/
  | unlockCmd (key : Nat) (avg : Nat) (k : Nat)
  /-- TRIAL_BOOT_TIMEOUT (R425). -/
  | trialBootTimeout
  /-- HELLO (R429). -/
  | helloMsg
  /-- OPEN (R430): 0 UDP on SVC, 1 CAN0; host; TOTAL_LEN; 5 s mean of LOG in 10 mV. -/
  | openMsg (transport : Nat) (host : Nat) (total : Nat) (avg : Nat)
  /-- DATA (R430): transport, host, SESSION, OFFSET, bytes, managed flash takes them. -/
  | dataMsg (transport : Nat) (host : Nat) (session : Nat) (offset : Nat) (chunk : List Nat) (flashOk : Bool)
  /-- END (R430): transport, host, SESSION, CRC, the numbers the signers of the two blocks drew (R68), managed flash works. -/
  | endMsg (transport : Nat) (host : Nat) (session : Nat) (crc : Nat) (k : Nat × Nat) (flashOk : Bool)
  /-- OPDOFY_ABORT (R430): transport, host, SESSION. -/
  | opdofyAbort (transport : Nat) (host : Nat) (session : Nat)
  /-- LEAVE (R431): transport, host, SESSION. -/
  | leaveMsg (transport : Nat) (host : Nat) (session : Nat)
  /-- SESSION_TIMEOUT (R430). -/
  | sessionTimeout
  /-- REACTION_WINDOW_END (R441). -/
  | reactionWindowEnd
  /-- SW_SET (R435): event bits. -/
  | swSet (mask : Nat)
  /-- SAFE_ACK (R445): value. -/
  | safeAck (v : Nat)
  /-- SEV_PRESET_WRITE (R446): selector. -/
  | sevPresetWrite (v : Nat)
  /-- CAMERA_LINK_UP (R240): port. -/
  | cameraLinkUp (p : Nat)
  /-- ETH_LINK_UP (R374): port. -/
  | ethLinkUp (p : Nat)
  /-- PD_FAULT_CHANGE (R48): power domain, fault or none. -/
  | pdFaultChange (p : Nat) (on : Bool)
  /-- LOCKSTEP_PAIR_MISMATCH (R434). -/
  | lockstepPairMismatch
  /-- DRAM_UNCORRECTABLE_WORD (R29, R434). -/
  | dramUncorrectableWord
  /-- EXT_SOLUTION_TIMEOUT (R269). -/
  | extSolutionTimeout
  /-- ANT_OPEN_CLEAR (R262): antenna. -/
  | antOpenClear (n : Nat)
  /-- SHORT_TO_BAT_CLEAR (R301): channel. -/
  | shortToBatClear (n : Nat)
  /-- BOOST_OV_END (R307): BOOST_V in 10 mV. -/
  | boostOvEnd (v : Nat)
  /-- PPS_HOLDOVER_EDGE (R273). -/
  | ppsHoldoverEdge
  /-- PDELAY_REQ (R360): port. -/
  | pdelayReq (p : Nat)
  deriving DecidableEq, Repr

end Sys2Proof
end

