-- ==== Sys2Proof/Decode.lean ====
section
/-! DEFINITION. Decode.lean: the spec gives no row of spec/opcode_table.json bits, so no word spells a command. -/

namespace Sys2Proof

/-- The command a word spells by the table's bits: no row gives bits. -/
def decodeTableWord (_nbits _w : Nat) : Option Instr := none

end Sys2Proof
end

