-- ==== Sys2Proof/Config.lean ====
section
/-! DEFINITION. Config.lean: what the spec leaves open. Each value here is a constant without a body, so no proof can see
what it is, and a claim holds whatever it is. -/

namespace Sys2Proof

/-- The free values of the model, one fresh value for each count of the counter State holds: what a quantity reads whose
value the spec leaves undefined or random (assumption 3). -/
opaque Config.freeValue : Nat → Nat

/-- The 384 bits of the SHA-384 digest of a byte string (R70, R71; the standard is named by the spec and not retold:
assumption 4). -/
opaque Config.sha384Bits : List Nat → BitVec 384

/-- The digest as a number whose lowest byte is the first of the digest. -/
def Config.sha384 (bs : List Nat) : Nat := (Config.sha384Bits bs).toNat

/-- The bits of the Dysulu factory key held in the boot ROM, 96 bytes, the first lowest (R70). The spec gives no value. -/
opaque Config.factoryKeyBits : BitVec 768

/-- The factory key as bytes. -/
def Config.factoryKey : List Nat := (List.range 96).map fun k => Config.factoryKeyBits.toNat / 256 ^ k % 256

/-- The 768 bits, R then S, of the ECDSA P-384 signature that the holder of a public key makes for a digest with a number of its own
choice (R70). The spec names the algorithm and does not retell it (assumption 4). -/
opaque Config.ecdsaBits (pub : List Nat) (digest k : Nat) : BitVec 768

/-- The signature as 96 bytes, SIG_R then SIG_S. -/
def Config.ecdsaSign (pub : List Nat) (digest k : Nat) : List Nat :=
  (List.range 96).map fun j => (Config.ecdsaBits pub digest k).toNat / 256 ^ j % 256

/-- East and north in mm in the tangent plane at a latitude and longitude (10^-7 degree) of a position in 10^-9 degree (R129).
The spec gives the plane and no arithmetic for it (assumption 11). -/
opaque Config.localGrid (lat0 lon0 lat lon : Int) : Int × Int

/-- A position in 10^-9 degree moved by east and north mm (R268). The spec gives no arithmetic for it (assumption 11). -/
opaque Config.moveGeo (lat lon east north : Int) : Int × Int

/-- What a loop, NPU or head program of the image computes from its inputs: program number, then inputs. The image
carries the programs and the spec gives no instruction set for them (R15; assumption 5). -/
opaque Config.program : Nat → List Int → List Int

end Sys2Proof
end

