-- ==== Sys2Proof/Machine/Bits.lean ====
section
/-! DEFINITION. Machine/Bits.lean: bit fields, sign extension, byte order, checksums and the sorted tables that
hold sparse data. -/

namespace Sys2Proof.Machine

/-- The low `w` bits of `v`. -/
def lowBits (w v : Nat) : Nat := v % 2 ^ w

/-- Bits `hi` down to `lo` of `v`. -/
def bitsOf (hi lo v : Nat) : Nat := v / 2 ^ lo % 2 ^ (hi + 1 - lo)

/-- A truth value as a bit. -/
def bit (b : Bool) : Nat := if b then 1 else 0

/-- `v` with bit `k` set to `b`. -/
def putBit (k : Nat) (b : Bool) (v : Nat) : Nat :=
  if v.testBit k = b then v else if b then v + 2 ^ k else v - 2 ^ k

/-- The two's complement value of a `w`-bit field. -/
def sgn (w v : Nat) : Int := if v % 2 ^ w < 2 ^ (w - 1) then (v % 2 ^ w : Nat) else (v % 2 ^ w : Nat) - (2 ^ w : Nat)

/-- The `w`-bit two's complement pattern of an integer. -/
def enc (w : Nat) (i : Int) : Nat := (i % ((2 ^ w : Nat) : Int)).toNat

/-- `i` limited to the range from `lo` to `hi`. -/
def clampI (lo hi i : Int) : Int := if i < lo then lo else if hi < i then hi else i

/-- `n` limited to the range from `lo` to `hi`. -/
def clampN (lo hi n : Nat) : Nat := if n < lo then lo else if hi < n then hi else n

/-- One more, stopping at the largest `w`-bit number. -/
def satInc (w n : Nat) : Nat := if n + 1 < 2 ^ w then n + 1 else 2 ^ w - 1

/-- `n` limited to the largest `w`-bit number. -/
def satN (w n : Nat) : Nat := if n < 2 ^ w then n else 2 ^ w - 1

/-- The bits of a mask, lowest first, below `n`. -/
def maskBits (n m : Nat) : List Nat := (List.range n).filter (fun k => m.testBit k)

/-- The `n` bytes of a number, lowest first (R473). -/
def leBytes : Nat → Nat → List Nat
  | 0, _ => []
  | n + 1, v => v % 256 :: leBytes n (v / 256)

/-- The number whose bytes, lowest first, are given (R473). -/
def leVal : List Nat → Nat
  | [] => 0
  | b :: bs => b + 256 * leVal bs

/-- Word `k` of a byte string (R473). -/
def leWord (k : Nat) (bs : List Nat) : Nat := leVal ((bs.drop (4 * k)).take 4)

/-- The number in the `n` bytes from offset `o` of a byte string, lowest byte first. -/
def bytesAt (bs : List Nat) (o n : Nat) : Nat := leVal ((bs.drop o).take n)

/-- The next multiple of 16. -/
def up16 (n : Nat) : Nat := (n + 15) / 16 * 16

/-- The first `n` bytes of a list, padded with zeros. -/
def padTo (n : Nat) (bs : List Nat) : List Nat := (bs ++ List.replicate n 0).take n

/-- Division rounding up. -/
def ceilDiv (a b : Nat) : Nat := (a + b - 1) / b

/-- Integer division rounding toward minus infinity. -/
def floorDiv (a b : Int) : Int := a.fdiv b

/-- Rounding to nearest of `a / 2^k`, halves upward. -/
def roundShift (k : Nat) (a : Int) : Int := (a + ((2 ^ (k - 1) : Nat) : Int)) >>> k

/-- The largest number whose square is at most `n`, found bit by bit from bit `b` downward. -/
def isqrtFrom : Nat → Nat → Nat → Nat
  | 0, r, n => if (r + 1) * (r + 1) ≤ n then r + 1 else r
  | b + 1, r, n => if (r + 2 ^ (b + 1)) * (r + 2 ^ (b + 1)) ≤ n then isqrtFrom b (r + 2 ^ (b + 1)) n else isqrtFrom b r n

/-- The integer square root of a number below 2^128. -/
def isqrt (n : Nat) : Nat := isqrtFrom 63 0 n

/-! Checksums. -/

/-- One bit of a reflected 32-bit CRC with polynomial 0x1EDC6F41 (R66; reflected form 0x82F63B78). -/
def crc32cBit (c : Nat) : Nat := if c % 2 = 1 then Nat.xor (c / 2) 0x82F63B78 else c / 2

/-- One byte of the CRC-32C of R66. -/
def crc32cByte (c b : Nat) : Nat :=
  crc32cBit (crc32cBit (crc32cBit (crc32cBit (crc32cBit (crc32cBit (crc32cBit (crc32cBit (Nat.xor c b))))))))

/-- CRC-32C of a byte string (R66). -/
def crc32c (bs : List Nat) : Nat := Nat.xor (bs.foldl crc32cByte 0xFFFFFFFF) 0xFFFFFFFF

/-- One bit of the CRC-16 of R397. -/
def crc16Bit (c : Nat) : Nat := if 0x8000 ≤ c then Nat.xor (c * 2 % 0x10000) 0x1021 else c * 2 % 0x10000

/-- One byte of the CRC-16 of R397. -/
def crc16Byte (c b : Nat) : Nat :=
  crc16Bit (crc16Bit (crc16Bit (crc16Bit (crc16Bit (crc16Bit (crc16Bit (crc16Bit (Nat.xor c (b * 256)))))))))

/-- CRC-16 of a byte string (R397). -/
def crc16 (bs : List Nat) : Nat := bs.foldl crc16Byte 0xFFFF

/-! Sorted tables: sparse data as key and value pairs, keys rising. -/

/-- The value under a key. -/
def tget? {α : Type} (k : Nat) : List (Nat × α) → Option α
  | [] => none
  | (k', v) :: t => if k' = k then some v else tget? k t

/-- The value under a key, or a default. -/
def tget {α : Type} [Inhabited α] (k : Nat) (t : List (Nat × α)) : α := (tget? k t).getD default

/-- Removes a key. -/
def tdel {α : Type} (k : Nat) (t : List (Nat × α)) : List (Nat × α) := t.filter (fun p => p.1 ≠ k)

/-- Inserts a pair before the first larger key. -/
def tins {α : Type} (k : Nat) (v : α) : List (Nat × α) → List (Nat × α)
  | [] => [(k, v)]
  | (k', v') :: t => if k < k' then (k, v) :: (k', v') :: t else (k', v') :: tins k v t

/-- Writes a value under a key. -/
def tset {α : Type} (k : Nat) (v : α) (t : List (Nat × α)) : List (Nat × α) := tins k v (tdel k t)

/-- Changes the value under a key. -/
def tmod {α : Type} [Inhabited α] (k : Nat) (f : α → α) (t : List (Nat × α)) : List (Nat × α) := tset k (f (tget k t)) t

/-- Replaces element `k` of a list. -/
def lset {α : Type} : Nat → α → List α → List α
  | _, _, [] => []
  | 0, a, _ :: t => a :: t
  | k + 1, a, x :: t => x :: lset k a t

/-- Folds a function over a list of indices. -/
def forAll {α σ : Type} (l : List α) (f : α → σ → σ) (s : σ) : σ := l.foldl (fun s a => f a s) s

end Sys2Proof.Machine
end

