-- ==== Sys2Proof/Machine/FaultTable.lean ====
section
/-! DEFINITION. Machine/FaultTable.lean: the faults of Table 18.1 (R434), their codes, default severities, floors and fixed marks. -/

namespace Sys2Proof.Machine

/-- One row of Table 18.1: default severity, floor, whether the severity is fixed, and whether the code names a fault (R434, R447). -/
structure FaultRow where
  sev : Nat
  floor : Nat
  fixed : Nat
  built : Nat
  deriving DecidableEq, Repr

/-- FLT-ACCESS: code 256 × 0 + 0 (R434). -/
def Flt.FLT_ACCESS : Nat := 0
/-- SHOIT-PAIR-LOST: code 256 × 0 + 1 (R434). -/
def Flt.SHOIT_PAIR_LOST : Nat := 1
/-- DRAM-UNCORRECTABLE: code 256 × 0 + 2 (R434). -/
def Flt.DRAM_UNCORRECTABLE : Nat := 2
/-- MOVE-IN-SERVICE: code 256 × 1 + 0 (R434). -/
def Flt.MOVE_IN_SERVICE : Nat := 256
/-- FCWD-EXPIRED: code 256 × 1 + 1 (R434). -/
def Flt.FCWD_EXPIRED : Nat := 257
/-- PD-FAULT: code 256 × 1 + 2 (R434). -/
def Flt.PD_FAULT : Nat := 258
/-- PREG-WORN: code 256 × 3 + 0 (R434). -/
def Flt.PREG_WORN : Nat := 768
/-- MD-HOLDOVER: code 256 × 4 + 0 (R434). -/
def Flt.MD_HOLDOVER : Nat := 1024
/-- MD-DEGRADED: code 256 × 4 + 1 (R434). -/
def Flt.MD_DEGRADED : Nat := 1025
/-- MD-LOST: code 256 × 4 + 2 (R434). -/
def Flt.MD_LOST : Nat := 1026
/-- SLU-ABORTED-LATE: code 256 × 6 + 0 (R434). -/
def Flt.SLU_ABORTED_LATE : Nat := 1536
/-- SLU-OUTCOME-UNKNOWN: code 256 × 6 + 1 (R434). -/
def Flt.SLU_OUTCOME_UNKNOWN : Nat := 1537
/-- CTL-OVERRUN: code 256 × 7 + 0 (R434). -/
def Flt.CTL_OVERRUN : Nat := 1792
/-- CTL-INPUT-LOST: code 256 × 7 + 1 (R434). -/
def Flt.CTL_INPUT_LOST : Nat := 1793
/-- CTL-FOLLOWING: code 256 × 7 + 2 (R434). -/
def Flt.CTL_FOLLOWING : Nat := 1794
/-- CTL-FE-SAFE: code 256 × 7 + 3 (R434). -/
def Flt.CTL_FE_SAFE : Nat := 1795
/-- FUS-FRAME-LOST: code 256 × 8 + 0 (R434). -/
def Flt.FUS_FRAME_LOST : Nat := 2048
/-- CAM-POWER: code 256 × 9 + 0 (R434). -/
def Flt.CAM_POWER : Nat := 2304
/-- CAM-LINK-LOST: code 256 × 9 + 1 (R434). -/
def Flt.CAM_LINK_LOST : Nat := 2305
/-- GNSS-ANT: code 256 × 10 + 0 (R434). -/
def Flt.GNSS_ANT : Nat := 2560
/-- GNSS-FIX-LOST: code 256 × 10 + 1 (R434). -/
def Flt.GNSS_FIX_LOST : Nat := 2561
/-- LSW-SHORT: code 256 × 11 + 0 (R434). -/
def Flt.LSW_SHORT : Nat := 2816
/-- LSW-INRUSH-FAIL: code 256 × 11 + 1 (R434). -/
def Flt.LSW_INRUSH_FAIL : Nat := 2817
/-- LSW-FUSE: code 256 × 11 + 2 (R434). -/
def Flt.LSW_FUSE : Nat := 2818
/-- LSW-THERMAL: code 256 × 11 + 3 (R434). -/
def Flt.LSW_THERMAL : Nat := 2819
/-- LSW-CLAMP-HIGH: code 256 × 11 + 4 (R434). -/
def Flt.LSW_CLAMP_HIGH : Nat := 2820
/-- LSW-OPEN-LOAD: code 256 × 11 + 5 (R434). -/
def Flt.LSW_OPEN_LOAD : Nat := 2821
/-- LSW-SHORT-TO-BAT: code 256 × 11 + 6 (R434). -/
def Flt.LSW_SHORT_TO_BAT : Nat := 2822
/-- LSW-UNDERVOLT: code 256 × 11 + 7 (R434). -/
def Flt.LSW_UNDERVOLT : Nat := 2823
/-- LSW-SHED: code 256 × 11 + 8 (R434). -/
def Flt.LSW_SHED : Nat := 2824
/-- LSW-GOV-OVER: code 256 × 11 + 9 (R434). -/
def Flt.LSW_GOV_OVER : Nat := 2825
/-- VDR-SHORT: code 256 × 12 + 0 (R434). -/
def Flt.VDR_SHORT : Nat := 3072
/-- VDR-OPEN: code 256 × 12 + 1 (R434). -/
def Flt.VDR_OPEN : Nat := 3073
/-- VDR-TTP-LOW: code 256 × 12 + 2 (R434). -/
def Flt.VDR_TTP_LOW : Nat := 3074
/-- VDR-TTP-HIGH: code 256 × 12 + 3 (R434). -/
def Flt.VDR_TTP_HIGH : Nat := 3075
/-- VDR-THERMAL: code 256 × 12 + 4 (R434). -/
def Flt.VDR_THERMAL : Nat := 3076
/-- VDR-OVERLAP-STARVE: code 256 × 12 + 5 (R434). -/
def Flt.VDR_OVERLAP_STARVE : Nat := 3077
/-- VDR-CLOSE-MISSING: code 256 × 12 + 6 (R434). -/
def Flt.VDR_CLOSE_MISSING : Nat := 3078
/-- VDR-CLAMP-HIGH: code 256 × 12 + 7 (R434). -/
def Flt.VDR_CLAMP_HIGH : Nat := 3079
/-- VDR-BOOST-LOW: code 256 × 12 + 8 (R434). -/
def Flt.VDR_BOOST_LOW : Nat := 3080
/-- VDR-BOOST-OV: code 256 × 12 + 9 (R434). -/
def Flt.VDR_BOOST_OV : Nat := 3081
/-- FIO-GROUP-LOST: code 256 × 13 + 0 (R434). -/
def Flt.FIO_GROUP_LOST : Nat := 3328
/-- FIO-WIRE-BREAK: code 256 × 13 + 1 (R434). -/
def Flt.FIO_WIRE_BREAK : Nat := 3329
/-- FIO-OUT-FAULT: code 256 × 13 + 2 (R434). -/
def Flt.FIO_OUT_FAULT : Nat := 3330
/-- FIO-SUPPLY-LOW: code 256 × 13 + 3 (R434). -/
def Flt.FIO_SUPPLY_LOW : Nat := 3331
/-- AI-RANGE: code 256 × 13 + 4 (R434). -/
def Flt.AI_RANGE : Nat := 3332
/-- AI-OVERCURRENT: code 256 × 13 + 5 (R434). -/
def Flt.AI_OVERCURRENT : Nat := 3333
/-- AI-SUPPLY: code 256 × 13 + 6 (R434). -/
def Flt.AI_SUPPLY : Nat := 3334
/-- FI-QUAD-ERROR: code 256 × 13 + 7 (R434). -/
def Flt.FI_QUAD_ERROR : Nat := 3335
/-- BLW-BLOCKED: code 256 × 14 + 0 (R434). -/
def Flt.BLW_BLOCKED : Nat := 3584
/-- BLW-TACH-LOST: code 256 × 14 + 1 (R434). -/
def Flt.BLW_TACH_LOST : Nat := 3585
/-- BLW-OPEN: code 256 × 14 + 2 (R434). -/
def Flt.BLW_OPEN : Nat := 3586
/-- BLW-SHORT: code 256 × 14 + 3 (R434). -/
def Flt.BLW_SHORT : Nat := 3587
/-- BLW-WATCHDOG: code 256 × 14 + 4 (R434). -/
def Flt.BLW_WATCHDOG : Nat := 3588
/-- BLW-AGEING: code 256 × 14 + 5 (R434). -/
def Flt.BLW_AGEING : Nat := 3589
/-- CAN-BUS-OFF: code 256 × 15 + 0 (R434). -/
def Flt.CAN_BUS_OFF : Nat := 3840
/-- CAN-SYNC-LOST: code 256 × 15 + 1 (R434). -/
def Flt.CAN_SYNC_LOST : Nat := 3841
/-- CAN-MATRIX-MISMATCH: code 256 × 15 + 2 (R434). -/
def Flt.CAN_MATRIX_MISMATCH : Nat := 3842
/-- CAN-ISO-ADDR-LOST: code 256 × 15 + 3 (R434). -/
def Flt.CAN_ISO_ADDR_LOST : Nat := 3843
/-- ETH-LINK-DOWN: code 256 × 16 + 0 (R434). -/
def Flt.ETH_LINK_DOWN : Nat := 4096
/-- NET-NODE-LOST: code 256 × 16 + 1 (R434). -/
def Flt.NET_NODE_LOST : Nat := 4097
/-- NET-PEER-LOST: code 256 × 16 + 2 (R434). -/
def Flt.NET_PEER_LOST : Nat := 4098
/-- NET-PEER-EXCLUDED: code 256 × 16 + 3 (R434). -/
def Flt.NET_PEER_EXCLUDED : Nat := 4099
/-- NET-TIME-DISAGREE: code 256 × 16 + 4 (R434). -/
def Flt.NET_TIME_DISAGREE : Nat := 4100
/-- NET-SAFE-PROPAGATED: code 256 × 16 + 5 (R434). -/
def Flt.NET_SAFE_PROPAGATED : Nat := 4101
/-- QUE-UNCORRECTABLE: code 256 × 17 + 0 (R434). -/
def Flt.QUE_UNCORRECTABLE : Nat := 4352
/-- QUE-STALE: code 256 × 17 + 1 (R434). -/
def Flt.QUE_STALE : Nat := 4353
/-- REC-FULL: code 256 × 18 + 0 (R434). -/
def Flt.REC_FULL : Nat := 4608
/-- THM-SUSPECT: code 256 × 19 + 0 (R434). -/
def Flt.THM_SUSPECT : Nat := 4864
/-- THM-CRITICAL: code 256 × 19 + 1 (R434). -/
def Flt.THM_CRITICAL : Nat := 4865

/-- The fault registers of Table 18.1, by the index 16 n + k of R447; a position the table does not name holds nothing. -/
def faultTable : List (Nat × FaultRow) :=
  [(0, ⟨1, 1, 0, 1⟩), (1, ⟨2, 2, 0, 1⟩), (2, ⟨3, 2, 0, 1⟩), (16, ⟨3, 3, 1, 1⟩), (17, ⟨2, 1, 0, 1⟩), (18, ⟨3, 2, 0, 1⟩), (48, ⟨1, 1, 0, 1⟩), (64, ⟨1, 0, 0, 1⟩), (65, ⟨1, 0, 0, 1⟩), (66, ⟨2, 1, 0, 1⟩), (96, ⟨2, 1, 0, 1⟩), (97, ⟨2, 2, 0, 1⟩)] ++
  [(112, ⟨3, 2, 0, 1⟩), (113, ⟨1, 1, 0, 1⟩), (114, ⟨1, 0, 0, 1⟩), (115, ⟨3, 3, 1, 1⟩), (128, ⟨0, 0, 0, 1⟩), (144, ⟨1, 0, 0, 1⟩), (145, ⟨1, 0, 0, 1⟩), (160, ⟨1, 0, 0, 1⟩), (161, ⟨1, 0, 0, 1⟩), (176, ⟨1, 1, 0, 1⟩), (177, ⟨1, 1, 0, 1⟩), (178, ⟨1, 1, 0, 1⟩)] ++
  [(179, ⟨1, 1, 0, 1⟩), (180, ⟨1, 1, 0, 1⟩), (181, ⟨0, 0, 0, 1⟩), (182, ⟨2, 1, 0, 1⟩), (183, ⟨1, 0, 0, 1⟩), (184, ⟨0, 0, 0, 1⟩), (185, ⟨2, 1, 0, 1⟩), (192, ⟨1, 1, 0, 1⟩), (193, ⟨1, 1, 0, 1⟩), (194, ⟨1, 1, 0, 1⟩), (195, ⟨0, 0, 0, 1⟩), (196, ⟨1, 1, 0, 1⟩)] ++
  [(197, ⟨0, 0, 0, 1⟩), (198, ⟨1, 0, 0, 1⟩), (199, ⟨1, 1, 0, 1⟩), (200, ⟨1, 0, 0, 1⟩), (201, ⟨2, 1, 0, 1⟩), (208, ⟨2, 1, 0, 1⟩), (209, ⟨1, 1, 0, 1⟩), (210, ⟨1, 1, 0, 1⟩), (211, ⟨1, 0, 0, 1⟩), (212, ⟨1, 1, 0, 1⟩), (213, ⟨1, 1, 0, 1⟩), (214, ⟨1, 1, 0, 1⟩)] ++
  [(215, ⟨0, 0, 0, 1⟩), (224, ⟨1, 0, 0, 1⟩), (225, ⟨1, 0, 0, 1⟩), (226, ⟨1, 0, 0, 1⟩), (227, ⟨1, 0, 0, 1⟩), (228, ⟨1, 1, 0, 1⟩), (229, ⟨0, 0, 0, 1⟩), (240, ⟨1, 1, 0, 1⟩), (241, ⟨1, 1, 0, 1⟩), (242, ⟨2, 1, 0, 1⟩), (243, ⟨1, 0, 0, 1⟩), (256, ⟨1, 0, 0, 1⟩)] ++
  [(257, ⟨1, 1, 0, 1⟩), (258, ⟨2, 1, 0, 1⟩), (259, ⟨2, 2, 0, 1⟩), (260, ⟨1, 1, 0, 1⟩), (261, ⟨3, 3, 1, 1⟩), (272, ⟨2, 1, 0, 1⟩), (273, ⟨1, 0, 0, 1⟩), (288, ⟨0, 0, 0, 1⟩), (304, ⟨1, 1, 0, 1⟩), (305, ⟨2, 2, 0, 1⟩)]

/-- The row of Table 18.1 behind fault register `i`. -/
def faultRow (i : Nat) : FaultRow := (tget? i faultTable).getD ⟨0, 0, 0, 0⟩

/-- The fault register index of a fault code (R434, R447). -/
def faultIdx (code : Nat) : Nat := 16 * (code / 256) + code % 256

end Sys2Proof.Machine
end

