-- ==== Sys2Proof/Machine/ToneTable.lean ====
section
/-! DEFINITION. Machine/ToneTable.lean: the tone curves of Table 9.4 that are not straight lines (R250). Each list is the formula of the table evaluated at k = 0 to 256 and rounded. -/

namespace Sys2Proof.Machine

/-- GAMMA-2.2 of Table 9.4: 65,280 × (k ÷ 256)^(1 ÷ 2.2), rounded (R250). -/
def toneGamma : List Nat :=
  [0, 5250, 7194, 8650, 9858, 10910, 11853, 12713, 13509, 14252, 14951, 15613, 16243, 16845, 17422, 17977, 18512, 19029, 19530, 20016, 20488, 20948, 21395, 21832] ++
  [22258, 22675, 23083, 23483, 23874, 24258, 24635, 25004, 25368, 25725, 26077, 26423, 26763, 27098, 27429, 27755, 28076, 28393, 28706, 29014, 29319, 29620, 29917, 30211] ++
  [30502, 30789, 31073, 31354, 31632, 31907, 32179, 32449, 32716, 32980, 33242, 33501, 33758, 34013, 34265, 34515, 34763, 35009, 35253, 35494, 35734, 35972, 36208, 36442] ++
  [36675, 36905, 37134, 37362, 37587, 37811, 38034, 38255, 38474, 38692, 38908, 39123, 39337, 39549, 39760, 39969, 40177, 40384, 40590, 40794, 40997, 41199, 41400, 41600] ++
  [41798, 41996, 42192, 42387, 42581, 42774, 42966, 43157, 43347, 43536, 43724, 43911, 44097, 44282, 44466, 44650, 44832, 45014, 45194, 45374, 45553, 45731, 45908, 46085] ++
  [46260, 46435, 46609, 46782, 46955, 47127, 47298, 47468, 47637, 47806, 47974, 48142, 48308, 48474, 48640, 48804, 48968, 49132, 49294, 49456, 49618, 49779, 49939, 50098] ++
  [50257, 50416, 50573, 50731, 50887, 51043, 51199, 51353, 51508, 51662, 51815, 51967, 52120, 52271, 52422, 52573, 52723, 52872, 53021, 53170, 53318, 53465, 53612, 53759] ++
  [53905, 54051, 54196, 54341, 54485, 54629, 54772, 54915, 55057, 55199, 55341, 55482, 55622, 55763, 55902, 56042, 56181, 56319, 56458, 56595, 56733, 56870, 57006, 57142] ++
  [57278, 57414, 57549, 57683, 57818, 57952, 58085, 58218, 58351, 58483, 58616, 58747, 58879, 59010, 59140, 59271, 59401, 59530, 59660, 59788, 59917, 60045, 60173, 60301] ++
  [60428, 60555, 60682, 60808, 60934, 61060, 61186, 61311, 61436, 61560, 61684, 61808, 61932, 62055, 62178, 62301, 62423, 62546, 62667, 62789, 62910, 63031, 63152, 63273] ++
  [63393, 63513, 63632, 63752, 63871, 63990, 64108, 64227, 64345, 64462, 64580, 64697, 64814, 64931, 65048, 65164, 65280]

/-- SRGB of Table 9.4: 65,280 × the IEC 61966-2-1 encoding of k ÷ 256, rounded (R250). PRESUMED: the encoding function is the standard's (assumption 30). -/
def toneSrgb : List Nat :=
  [0, 3242, 5530, 7209, 8584, 9771, 10825, 11781, 12661, 13478, 14244, 14967, 15652, 16305, 16928, 17527, 18102, 18657, 19194, 19713, 20216, 20705, 21181, 21644] ++
  [22095, 22536, 22966, 23387, 23799, 24202, 24598, 24986, 25366, 25740, 26107, 26468, 26823, 27172, 27515, 27854, 28187, 28516, 28840, 29160, 29475, 29786, 30093, 30396] ++
  [30696, 30991, 31284, 31573, 31858, 32141, 32420, 32697, 32970, 33241, 33508, 33774, 34036, 34296, 34554, 34809, 35062, 35312, 35561, 35807, 36051, 36292, 36532, 36770] ++
  [37006, 37240, 37472, 37702, 37931, 38158, 38383, 38606, 38828, 39048, 39267, 39484, 39699, 39913, 40126, 40337, 40546, 40755, 40962, 41167, 41371, 41574, 41776, 41977] ++
  [42176, 42374, 42571, 42766, 42961, 43154, 43347, 43538, 43728, 43917, 44105, 44292, 44478, 44663, 44847, 45030, 45212, 45393, 45573, 45752, 45931, 46108, 46285, 46460] ++
  [46635, 46809, 46982, 47155, 47326, 47497, 47667, 47836, 48004, 48172, 48338, 48505, 48670, 48834, 48998, 49162, 49324, 49486, 49647, 49807, 49967, 50126, 50284, 50442] ++
  [50599, 50756, 50912, 51067, 51222, 51376, 51529, 51682, 51834, 51986, 52137, 52287, 52437, 52586, 52735, 52884, 53031, 53178, 53325, 53471, 53617, 53762, 53906, 54051] ++
  [54194, 54337, 54480, 54622, 54763, 54905, 55045, 55185, 55325, 55464, 55603, 55741, 55879, 56017, 56154, 56290, 56426, 56562, 56697, 56832, 56967, 57101, 57234, 57367] ++
  [57500, 57633, 57765, 57896, 58027, 58158, 58289, 58419, 58548, 58678, 58806, 58935, 59063, 59191, 59318, 59445, 59572, 59698, 59824, 59950, 60075, 60200, 60325, 60449] ++
  [60573, 60697, 60820, 60943, 61066, 61188, 61310, 61431, 61553, 61674, 61795, 61915, 62035, 62155, 62274, 62393, 62512, 62631, 62749, 62867, 62985, 63102, 63219, 63336] ++
  [63453, 63569, 63685, 63801, 63916, 64031, 64146, 64261, 64375, 64489, 64603, 64716, 64830, 64943, 65055, 65168, 65280]

end Sys2Proof.Machine
end

