-- ==== Sys2Proof/Machine/Field.lean ====
section
/-! DEFINITION. Machine/Field.lean: what a register field is: its address, its bits, its access code, its writer set
and its reset value (R4, R6, R7, R18). -/

namespace Sys2Proof.Machine

/-- The access codes of Table 0.1 (R7). -/
inductive Acc where
  | ro | rw | wo | w1c | rws | rwl | pw
  deriving DecidableEq, Repr

/-- The writer sets of Table 1.2 (R18). -/
inductive WSet where
  | both | shoit | loader
  deriving DecidableEq, Repr

/-- A register field. Element (i, j) of the field lies in the register at `base + i * s1 + j * s2`, for i below `n1` and
j below `n2`, in the `w` bits from `lo` upward. `reset` gives the reset value by the index `i * n2 + j` (R6). -/
structure Fld where
  base : Nat
  n1 : Nat
  s1 : Nat
  n2 : Nat
  s2 : Nat
  lo : Nat
  w : Nat
  acc : Acc
  wset : WSet
  reset : Nat → Nat

/-- The register address of element (i, j) of a field. -/
def Fld.addr (f : Fld) (i j : Nat) : Nat := f.base + i * f.s1 + j * f.s2

/-- The key under which the register file holds element (i, j) of a field: 32 × address + lowest bit. -/
def Fld.key (f : Fld) (i j : Nat) : Nat := f.addr i j * 32 + f.lo

/-- The reset value of element (i, j) of a field (R6). -/
def Fld.resetAt (f : Fld) (i j : Nat) : Nat := f.reset (i * f.n2 + j) % 2 ^ f.w

end Sys2Proof.Machine
end

