-- ==== Sys2Proof/Machine/RegsCore.lean ====
section
/-! DEFINITION. Machine/RegsCore.lean: the register fields of SYS, CFG, PREG, FLT, REC, THM, UPD, QUE, from the register maps of their chapters. -/

namespace Sys2Proof.Machine

/-! SYS, chapter 02: SYS_MODE_STAT. -/
def SYS.MODE : Fld := ⟨0x40000000, 1, 0x0, 1, 0x0, 0, 4, .ro, .both, fun _ => 2⟩
def SYS.PREV_MODE : Fld := ⟨0x40000000, 1, 0x0, 1, 0x0, 4, 4, .ro, .both, fun _ => 0⟩
def SYS.TRANS_BUSY : Fld := ⟨0x40000000, 1, 0x0, 1, 0x0, 8, 1, .ro, .both, fun _ => 0⟩
def SYS.RIDE_THROUGH : Fld := ⟨0x40000000, 1, 0x0, 1, 0x0, 9, 1, .ro, .both, fun _ => 0⟩
def SYS.STATIONARY : Fld := ⟨0x40000000, 1, 0x0, 1, 0x0, 10, 1, .ro, .both, fun _ => 0⟩
def SYS.REQ_RESULT : Fld := ⟨0x40000000, 1, 0x0, 1, 0x0, 16, 4, .ro, .both, fun _ => 0⟩
def SYS.REFUSE_CAUSE : Fld := ⟨0x40000000, 1, 0x0, 1, 0x0, 20, 4, .ro, .both, fun _ => 0⟩

/-! SYS, chapter 02: SYS_MODE_REQ. -/
def SYS.REQ_MODE : Fld := ⟨0x40000004, 1, 0x0, 1, 0x0, 0, 4, .wo, .both, fun _ => 0⟩

/-! SYS, chapter 02: SYS_PD_STAT. -/
def SYS.PD_ON : Fld := ⟨0x40000008, 1, 0x0, 1, 0x0, 0, 10, .ro, .both, fun _ => 7⟩
def SYS.PD_FAULT : Fld := ⟨0x40000008, 1, 0x0, 1, 0x0, 16, 10, .ro, .both, fun _ => 0⟩

/-! SYS, chapter 02: SYS_SUPPLY_STAT. -/
def SYS.CLASS : Fld := ⟨0x4000000C, 1, 0x0, 1, 0x0, 0, 1, .ro, .loader, fun _ => 1⟩
def SYS.BAND_LOG : Fld := ⟨0x4000000C, 1, 0x0, 1, 0x0, 1, 3, .ro, .both, fun _ => 3⟩
def SYS.BAND_PWRA : Fld := ⟨0x4000000C, 1, 0x0, 1, 0x0, 4, 3, .ro, .both, fun _ => 3⟩
def SYS.BAND_PWRB : Fld := ⟨0x4000000C, 1, 0x0, 1, 0x0, 7, 3, .ro, .both, fun _ => 3⟩

/-! SYS, chapter 02: SYS_SUPPLY_EVT. -/
def SYS.SUPEVT_CRANK : Fld := ⟨0x40000010, 1, 0x0, 1, 0x0, 0, 1, .w1c, .both, fun _ => 0⟩
def SYS.SUPEVT_LOW : Fld := ⟨0x40000010, 1, 0x0, 1, 0x0, 1, 1, .w1c, .both, fun _ => 0⟩
def SYS.SUPEVT_HIGH : Fld := ⟨0x40000010, 1, 0x0, 1, 0x0, 2, 1, .w1c, .both, fun _ => 0⟩
def SYS.SUPEVT_DUMP : Fld := ⟨0x40000010, 1, 0x0, 1, 0x0, 3, 1, .w1c, .both, fun _ => 0⟩
def SYS.SUPEVT_CLASS_MISMATCH : Fld := ⟨0x40000010, 1, 0x0, 1, 0x0, 4, 1, .w1c, .both, fun _ => 0⟩

/-! SYS, chapter 02: SYS_RST_CAUSE. -/
def SYS.CAUSE : Fld := ⟨0x4000001C, 1, 0x0, 1, 0x0, 0, 7, .w1c, .both, fun _ => 1⟩

/-! SYS, chapter 02: SYS_RST_REQ. -/
def SYS.KIND : Fld := ⟨0x40000020, 1, 0x0, 1, 0x0, 0, 4, .wo, .both, fun _ => 0⟩
def SYS.KEY : Fld := ⟨0x40000020, 1, 0x0, 1, 0x0, 16, 16, .wo, .both, fun _ => 0⟩

/-! SYS, chapter 02: SYS_SHUTDOWN. -/
def SYS.SHUTDOWN_PRESET : Fld := ⟨0x40000024, 1, 0x0, 1, 0x0, 0, 2, .rw, .both, fun _ => 1⟩
def SYS.WAKE_OFF_DELAY : Fld := ⟨0x40000024, 1, 0x0, 1, 0x0, 4, 8, .rw, .both, fun _ => 50⟩
def SYS.AFTERRUN_MAX : Fld := ⟨0x40000024, 1, 0x0, 1, 0x0, 12, 8, .rw, .both, fun _ => 10⟩
def SYS.DORMANT_EN : Fld := ⟨0x40000024, 1, 0x0, 1, 0x0, 20, 1, .rw, .both, fun _ => 1⟩
def SYS.DORMANT_DAYS : Fld := ⟨0x40000024, 1, 0x0, 1, 0x0, 21, 5, .rw, .both, fun _ => 30⟩

/-! SYS, chapter 02: SYS_SHUTDOWN_ACK. -/
def SYS.ACK : Fld := ⟨0x40000028, 1, 0x0, 1, 0x0, 0, 1, .wo, .both, fun _ => 0⟩

/-! SYS, chapter 02: SYS_BOOT_STAT. -/
def SYS.SLOT : Fld := ⟨0x4000003C, 1, 0x0, 1, 0x0, 0, 1, .ro, .both, fun _ => 0⟩
def SYS.FALLBACK : Fld := ⟨0x4000003C, 1, 0x0, 1, 0x0, 1, 1, .ro, .both, fun _ => 0⟩
def SYS.IMAGE_VALID : Fld := ⟨0x4000003C, 1, 0x0, 1, 0x0, 2, 1, .ro, .both, fun _ => 0⟩
def SYS.RTC_VALID : Fld := ⟨0x4000003C, 1, 0x0, 1, 0x0, 3, 1, .ro, .both, fun _ => 0⟩
def SYS.WAKE_SRC : Fld := ⟨0x4000003C, 1, 0x0, 1, 0x0, 4, 4, .ro, .both, fun _ => 0⟩
def SYS.PWR_CYCLES : Fld := ⟨0x4000003C, 1, 0x0, 1, 0x0, 8, 24, .ro, .both, fun _ => 0⟩

/-! SYS, chapter 02: SYS_VLOG. -/
def SYS.VLOG_NOW : Fld := ⟨0x40000014, 1, 0x0, 1, 0x0, 0, 16, .ro, .both, fun _ => 0⟩
def SYS.VLOG_AVG5 : Fld := ⟨0x40000014, 1, 0x0, 1, 0x0, 16, 16, .ro, .both, fun _ => 0⟩

/-! SYS, chapter 02: SYS_VPWR. -/
def SYS.VPWRA : Fld := ⟨0x40000018, 1, 0x0, 1, 0x0, 0, 16, .ro, .both, fun _ => 0⟩
def SYS.VPWRB : Fld := ⟨0x40000018, 1, 0x0, 1, 0x0, 16, 16, .ro, .both, fun _ => 0⟩

/-! SYS, chapter 02: SYS_RTC. -/
def SYS.RTC_S : Fld := ⟨0x4000002C, 1, 0x0, 1, 0x0, 0, 32, .ro, .shoit, fun _ => 0⟩

/-! SYS, chapter 02: SYS_RTC_ALARM. -/
def SYS.ALARM_S : Fld := ⟨0x40000030, 1, 0x0, 1, 0x0, 0, 32, .rw, .both, fun _ => 0⟩

/-! SYS, chapter 02: SYS_FCWD. -/
def SYS.TIMEOUT_MS : Fld := ⟨0x40000034, 1, 0x0, 1, 0x0, 0, 16, .rw, .both, fun _ => 0⟩

/-! SYS, chapter 02: SYS_FCWD_KICK. -/
def SYS.KICK : Fld := ⟨0x40000038, 1, 0x0, 1, 0x0, 0, 8, .wo, .both, fun _ => 0⟩

/-- Every field of SYS. -/
def SYS.fields : List Fld :=
  [SYS.MODE, SYS.PREV_MODE, SYS.TRANS_BUSY, SYS.RIDE_THROUGH, SYS.STATIONARY, SYS.REQ_RESULT, SYS.REFUSE_CAUSE, SYS.REQ_MODE, SYS.PD_ON, SYS.PD_FAULT, SYS.CLASS, SYS.BAND_LOG, SYS.BAND_PWRA, SYS.BAND_PWRB, SYS.SUPEVT_CRANK, SYS.SUPEVT_LOW] ++
  [SYS.SUPEVT_HIGH, SYS.SUPEVT_DUMP, SYS.SUPEVT_CLASS_MISMATCH, SYS.CAUSE, SYS.KIND, SYS.KEY, SYS.SHUTDOWN_PRESET, SYS.WAKE_OFF_DELAY, SYS.AFTERRUN_MAX, SYS.DORMANT_EN, SYS.DORMANT_DAYS, SYS.ACK, SYS.SLOT, SYS.FALLBACK, SYS.IMAGE_VALID, SYS.RTC_VALID] ++
  [SYS.WAKE_SRC, SYS.PWR_CYCLES, SYS.VLOG_NOW, SYS.VLOG_AVG5, SYS.VPWRA, SYS.VPWRB, SYS.RTC_S, SYS.ALARM_S, SYS.TIMEOUT_MS, SYS.KICK]

/-! CFG, chapter 03: CFG_STAT. -/
def CFG.IMAGE_VALID : Fld := ⟨0x40010000, 1, 0x0, 1, 0x0, 0, 1, .ro, .both, fun _ => 0⟩
def CFG.PATCH_DROPPED : Fld := ⟨0x40010000, 1, 0x0, 1, 0x0, 1, 1, .w1c, .both, fun _ => 0⟩
def CFG.PRESET_OVERRIDDEN : Fld := ⟨0x40010000, 1, 0x0, 1, 0x0, 2, 1, .ro, .loader, fun _ => 0⟩
def CFG.FACTORY_KEY_ONLY : Fld := ⟨0x40010000, 1, 0x0, 1, 0x0, 3, 1, .ro, .both, fun _ => 1⟩

/-! CFG, chapter 03: CFG_LOAD_ADDR. -/
def CFG.ADDR16 : Fld := ⟨0x40010004, 1, 0x0, 1, 0x0, 0, 30, .rw, .both, fun _ => 0⟩

/-! CFG, chapter 03: CFG_LOAD_LEN. -/
def CFG.LEN : Fld := ⟨0x40010008, 1, 0x0, 1, 0x0, 0, 26, .rw, .both, fun _ => 0⟩

/-! CFG, chapter 03: CFG_LOAD_CMD. -/
def CFG.CMD : Fld := ⟨0x4001000C, 1, 0x0, 1, 0x0, 0, 2, .wo, .both, fun _ => 0⟩

/-! CFG, chapter 03: CFG_LOAD_STAT. -/
def CFG.LOAD_STATE : Fld := ⟨0x40010010, 1, 0x0, 1, 0x0, 0, 2, .ro, .both, fun _ => 0⟩
def CFG.LOAD_RESULT : Fld := ⟨0x40010010, 1, 0x0, 1, 0x0, 4, 4, .ro, .both, fun _ => 0⟩
def CFG.FAIL_OFFSET : Fld := ⟨0x40010010, 1, 0x0, 1, 0x0, 16, 16, .ro, .both, fun _ => 0⟩

/-! CFG, chapter 03: CFG_LIVE_TMO. -/
def CFG.TMO_S : Fld := ⟨0x4001001C, 1, 0x0, 1, 0x0, 0, 6, .rw, .both, fun _ => 10⟩

/-! CFG, chapter 03: CFG_HASH0-CFG_HASH11. -/
def CFG.HASH : Fld := ⟨0x40010040, 12, 0x4, 1, 0x0, 0, 32, .ro, .loader, fun _ => 0⟩

/-! CFG, chapter 03: CFG_RGN_HASH0-CFG_RGN_HASH15. -/
def CFG.RHASH : Fld := ⟨0x40010080, 16, 0x4, 1, 0x0, 0, 32, .ro, .loader, fun _ => 0⟩

/-! CFG, chapter 03: CFG_RGN_PEND. -/
def CFG.PEND : Fld := ⟨0x40010014, 1, 0x0, 1, 0x0, 0, 16, .ro, .both, fun _ => 0⟩

/-! CFG, chapter 03: CFG_RGN_TMO. -/
def CFG.TMO : Fld := ⟨0x40010018, 1, 0x0, 1, 0x0, 0, 16, .w1c, .both, fun _ => 0⟩

/-! CFG, chapter 03: CFG_IMAGE_ID. -/
def CFG.ID : Fld := ⟨0x40010020, 1, 0x0, 1, 0x0, 0, 32, .ro, .loader, fun _ => 0⟩

/-! CFG, chapter 03: CFG_IMAGE_VER. -/
def CFG.VER : Fld := ⟨0x40010024, 1, 0x0, 1, 0x0, 0, 32, .ro, .loader, fun _ => 0⟩

/-! CFG, chapter 03: CFG_LOCKED_SUM. -/
def CFG.LOCKED : Fld := ⟨0x40010028, 1, 0x0, 1, 0x0, 0, 21, .ro, .both, fun _ => 0⟩

/-! CFG, chapter 03: CFG_SHADOW_SUM. -/
def CFG.SHADOW : Fld := ⟨0x4001002C, 1, 0x0, 1, 0x0, 0, 21, .ro, .both, fun _ => 0⟩

/-- Every field of CFG. -/
def CFG.fields : List Fld :=
  [CFG.IMAGE_VALID, CFG.PATCH_DROPPED, CFG.PRESET_OVERRIDDEN, CFG.FACTORY_KEY_ONLY, CFG.ADDR16, CFG.LEN, CFG.CMD, CFG.LOAD_STATE, CFG.LOAD_RESULT, CFG.FAIL_OFFSET, CFG.TMO_S, CFG.HASH, CFG.RHASH, CFG.PEND, CFG.TMO, CFG.ID] ++
  [CFG.VER, CFG.LOCKED, CFG.SHADOW]

/-! PREG, chapter 03: PREG_STAT. -/
def PREG.WORN_WRITE : Fld := ⟨0x4002C000, 1, 0x0, 1, 0x0, 0, 1, .w1c, .both, fun _ => 0⟩
def PREG.ANY_WORN : Fld := ⟨0x4002C000, 1, 0x0, 1, 0x0, 1, 1, .ro, .both, fun _ => 0⟩
def PREG.LAST_WORN : Fld := ⟨0x4002C000, 1, 0x0, 1, 0x0, 16, 12, .ro, .both, fun _ => 0⟩

/-! PREG, chapter 03: P-registers. -/
def PREG.P : Fld := ⟨0x40020000, 4096, 0x4, 1, 0x0, 0, 32, .pw, .both, fun _ => 0⟩

/-! PREG, chapter 03: PREG_CNT. -/
def PREG.CNT_LO : Fld := ⟨0x40024000, 4096, 0x8, 1, 0x0, 0, 32, .ro, .both, fun _ => 0⟩
def PREG.CNT_HI : Fld := ⟨0x40024004, 4096, 0x8, 1, 0x0, 0, 8, .ro, .both, fun _ => 0⟩
def PREG.EARLY : Fld := ⟨0x40024004, 4096, 0x8, 1, 0x0, 29, 1, .ro, .both, fun _ => 0⟩
def PREG.WORN : Fld := ⟨0x40024004, 4096, 0x8, 1, 0x0, 30, 1, .ro, .both, fun _ => 0⟩

/-- Every field of PREG. -/
def PREG.fields : List Fld :=
  [PREG.WORN_WRITE, PREG.ANY_WORN, PREG.LAST_WORN, PREG.P, PREG.CNT_LO, PREG.CNT_HI, PREG.EARLY, PREG.WORN]

/-! FLT, chapter 18: R447. The FLT block at 0x4013_0000 holds the registers b. -/
def FLT.SEV_PRESET : Fld := ⟨0x40130000, 1, 0x0, 1, 0x0, 0, 2, .rw, .both, fun _ => 0⟩
def FLT.MAX_SEV : Fld := ⟨0x40130004, 1, 0x0, 1, 0x0, 0, 2, .ro, .both, fun _ => 0⟩
def FLT.IN_WINDOW : Fld := ⟨0x40130004, 1, 0x0, 1, 0x0, 2, 1, .ro, .both, fun _ => 0⟩
def FLT.ACTIVE_N : Fld := ⟨0x40130004, 1, 0x0, 1, 0x0, 8, 8, .ro, .both, fun _ => 0⟩
def FLT.CLAMPED : Fld := ⟨0x40130004, 1, 0x0, 1, 0x0, 30, 1, .w1c, .both, fun _ => 0⟩
def FLT.LOCKED_WRITE : Fld := ⟨0x40130004, 1, 0x0, 1, 0x0, 31, 1, .w1c, .both, fun _ => 0⟩
def FLT.EVT : Fld := ⟨0x40130008, 1, 0x0, 1, 0x0, 0, 5, .w1c, .both, fun _ => 0⟩
def FLT.LAST_CODE : Fld := ⟨0x4013000C, 1, 0x0, 1, 0x0, 0, 16, .ro, .both, fun _ => 0⟩
def FLT.LAST_SEV : Fld := ⟨0x4013000C, 1, 0x0, 1, 0x0, 16, 2, .ro, .both, fun _ => 0⟩
def FLT.LAST_NESTED : Fld := ⟨0x4013000C, 1, 0x0, 1, 0x0, 18, 1, .ro, .both, fun _ => 0⟩
def FLT.EV_PEND_LO : Fld := ⟨0x40130010, 1, 0x0, 1, 0x0, 0, 32, .ro, .both, fun _ => 0⟩
def FLT.EV_PEND_HI : Fld := ⟨0x40130014, 1, 0x0, 1, 0x0, 0, 32, .ro, .both, fun _ => 0⟩
def FLT.SW_SET : Fld := ⟨0x40130018, 1, 0x0, 1, 0x0, 0, 32, .wo, .both, fun _ => 0⟩
def FLT.SW_PEND : Fld := ⟨0x4013001C, 1, 0x0, 1, 0x0, 0, 32, .w1c, .both, fun _ => 0⟩
def FLT.SAFE_ACK : Fld := ⟨0x40130020, 1, 0x0, 1, 0x0, 0, 16, .wo, .both, fun _ => 0⟩
def FLT.SAFE_MIN_MS : Fld := ⟨0x40130024, 1, 0x0, 1, 0x0, 0, 16, .ro, .loader, fun _ => 1000⟩
def FLT.SAFE_CAUSE : Fld := ⟨0x40130028, 1, 0x0, 1, 0x0, 0, 2, .ro, .both, fun _ => 0⟩
def FLT.SAFE_CODE : Fld := ⟨0x40130028, 1, 0x0, 1, 0x0, 16, 16, .ro, .both, fun _ => 0⟩
def FLT.SAFE_COUNT : Fld := ⟨0x4013002C, 1, 0x0, 1, 0x0, 0, 16, .ro, .both, fun _ => 0⟩
def FLT.NESTED_COUNT : Fld := ⟨0x4013002C, 1, 0x0, 1, 0x0, 16, 16, .ro, .both, fun _ => 0⟩

/-! FLT, chapter 18: Routing registers. -/
def FLT.RT_CORES : Fld := ⟨0x40130100, 64, 0x4, 1, 0x0, 0, 8, .rw, .both, fun _ => 0⟩
def FLT.RT_SAFE_REQ : Fld := ⟨0x40130100, 64, 0x4, 1, 0x0, 8, 1, .ro, .loader, fun _ => 0⟩
def FLT.RT_QUEUE_EN : Fld := ⟨0x40130100, 64, 0x4, 1, 0x0, 9, 1, .rw, .both, fun _ => 0⟩
def FLT.RT_QUEUE : Fld := ⟨0x40130100, 64, 0x4, 1, 0x0, 10, 6, .rw, .both, fun _ => 0⟩
def FLT.RT_MASK : Fld := ⟨0x40130100, 64, 0x4, 1, 0x0, 16, 1, .rw, .both, fun _ => 0⟩

/-! FLT, chapter 18: Fault registers. -/
def FLT.F_SEV : Fld := ⟨0x40131000, 1024, 0x4, 1, 0x0, 0, 2, .rws, .shoit, fun i => (faultRow i).sev⟩
def FLT.F_ACTIVE : Fld := ⟨0x40131000, 1024, 0x4, 1, 0x0, 2, 1, .ro, .both, fun _ => 0⟩
def FLT.F_FLOOR : Fld := ⟨0x40131000, 1024, 0x4, 1, 0x0, 3, 2, .ro, .both, fun i => (faultRow i).floor⟩
def FLT.F_FIXED : Fld := ⟨0x40131000, 1024, 0x4, 1, 0x0, 5, 1, .ro, .both, fun i => (faultRow i).fixed⟩
def FLT.F_BUILT : Fld := ⟨0x40131000, 1024, 0x4, 1, 0x0, 6, 1, .ro, .both, fun i => (faultRow i).built⟩
def FLT.F_COUNT : Fld := ⟨0x40131000, 1024, 0x4, 1, 0x0, 16, 16, .ro, .both, fun _ => 0⟩

/-- Every field of FLT. -/
def FLT.fields : List Fld :=
  [FLT.SEV_PRESET, FLT.MAX_SEV, FLT.IN_WINDOW, FLT.ACTIVE_N, FLT.CLAMPED, FLT.LOCKED_WRITE, FLT.EVT, FLT.LAST_CODE, FLT.LAST_SEV, FLT.LAST_NESTED, FLT.EV_PEND_LO, FLT.EV_PEND_HI, FLT.SW_SET, FLT.SW_PEND, FLT.SAFE_ACK, FLT.SAFE_MIN_MS] ++
  [FLT.SAFE_CAUSE, FLT.SAFE_CODE, FLT.SAFE_COUNT, FLT.NESTED_COUNT, FLT.RT_CORES, FLT.RT_SAFE_REQ, FLT.RT_QUEUE_EN, FLT.RT_QUEUE, FLT.RT_MASK, FLT.F_SEV, FLT.F_ACTIVE, FLT.F_FLOOR, FLT.F_FIXED, FLT.F_BUILT, FLT.F_COUNT]

/-! REC, chapter 16: R406. The REC block at 0x4011_0000 holds the registers b. -/
def REC.REC_MODE : Fld := ⟨0x40110000, 1, 0x0, 1, 0x0, 0, 1, .ro, .both, fun _ => 0⟩
def REC.MODE_DIFF : Fld := ⟨0x40110000, 1, 0x0, 1, 0x0, 1, 1, .ro, .both, fun _ => 0⟩
def REC.FULL : Fld := ⟨0x40110004, 1, 0x0, 1, 0x0, 0, 1, .ro, .both, fun _ => 0⟩
def REC.BACKLOG : Fld := ⟨0x40110004, 1, 0x0, 1, 0x0, 1, 7, .ro, .both, fun _ => 0⟩
def REC.CLR_BUSY : Fld := ⟨0x40110004, 1, 0x0, 1, 0x0, 8, 1, .ro, .both, fun _ => 0⟩
def REC.CLAMPED : Fld := ⟨0x40110004, 1, 0x0, 1, 0x0, 30, 1, .w1c, .both, fun _ => 0⟩
def REC.LOCKED_WRITE : Fld := ⟨0x40110004, 1, 0x0, 1, 0x0, 31, 1, .w1c, .both, fun _ => 0⟩
def REC.EVT : Fld := ⟨0x40110008, 1, 0x0, 1, 0x0, 0, 4, .w1c, .both, fun _ => 0⟩
def REC.REC_NEXT : Fld := ⟨0x4011000C, 1, 0x0, 1, 0x0, 0, 32, .ro, .both, fun _ => 0⟩
def REC.REC_TIDE_OLDEST : Fld := ⟨0x40110010, 1, 0x0, 1, 0x0, 0, 32, .ro, .both, fun _ => 0⟩
def REC.REC_CRUST_N : Fld := ⟨0x40110014, 1, 0x0, 1, 0x0, 0, 11, .ro, .both, fun _ => 0⟩
def REC.LOST : Fld := ⟨0x40110014, 1, 0x0, 1, 0x0, 16, 16, .ro, .both, fun _ => 0⟩
def REC.REC_CRUST_FIRST : Fld := ⟨0x40110018, 1, 0x0, 1, 0x0, 0, 32, .ro, .both, fun _ => 0⟩
def REC.REC_OPS : Fld := ⟨0x4011001C, 1, 0x0, 1, 0x0, 0, 32, .ro, .both, fun _ => 0⟩
def REC.REC_CURSOR : Fld := ⟨0x40110020, 1, 0x0, 1, 0x0, 0, 32, .rw, .both, fun _ => 0⟩
def REC.REC_WIN : Fld := ⟨0x40110024, 8, 0x4, 1, 0x0, 0, 32, .ro, .both, fun _ => 0⟩
def REC.HELD : Fld := ⟨0x40110044, 1, 0x0, 1, 0x0, 0, 1, .ro, .both, fun _ => 0⟩
def REC.AREA : Fld := ⟨0x40110044, 1, 0x0, 1, 0x0, 1, 2, .ro, .both, fun _ => 0⟩
def REC.BAD_CRC : Fld := ⟨0x40110044, 1, 0x0, 1, 0x0, 3, 1, .ro, .both, fun _ => 0⟩
def REC.ACTION : Fld := ⟨0x40110050, 1, 0x0, 1, 0x0, 0, 2, .wo, .both, fun _ => 0⟩
def REC.KEY : Fld := ⟨0x40110050, 1, 0x0, 1, 0x0, 8, 4, .wo, .both, fun _ => 0⟩
def REC.TOKEN_ADDR16 : Fld := ⟨0x40110054, 1, 0x0, 1, 0x0, 0, 30, .rw, .both, fun _ => 0⟩
def REC.CLR_RES : Fld := ⟨0x40110058, 1, 0x0, 1, 0x0, 0, 4, .ro, .both, fun _ => 0⟩
def REC.REC_CHAL : Fld := ⟨0x40110060, 4, 0x4, 1, 0x0, 0, 32, .ro, .both, fun _ => 0⟩
def REC.REC_USER0 : Fld := ⟨0x40110080, 1, 0x0, 1, 0x0, 0, 32, .rw, .both, fun _ => 0⟩
def REC.REC_USER1 : Fld := ⟨0x40110084, 1, 0x0, 1, 0x0, 0, 32, .rw, .both, fun _ => 0⟩
def REC.REC_USER2 : Fld := ⟨0x40110088, 1, 0x0, 1, 0x0, 0, 16, .rw, .both, fun _ => 0⟩
def REC.CODE : Fld := ⟨0x4011008C, 1, 0x0, 1, 0x0, 0, 16, .wo, .both, fun _ => 0⟩
def REC.GO : Fld := ⟨0x4011008C, 1, 0x0, 1, 0x0, 31, 1, .wo, .both, fun _ => 0⟩
def REC.USER_RES : Fld := ⟨0x40110090, 1, 0x0, 1, 0x0, 0, 2, .ro, .both, fun _ => 0⟩

/-- Every field of REC. -/
def REC.fields : List Fld :=
  [REC.REC_MODE, REC.MODE_DIFF, REC.FULL, REC.BACKLOG, REC.CLR_BUSY, REC.CLAMPED, REC.LOCKED_WRITE, REC.EVT, REC.REC_NEXT, REC.REC_TIDE_OLDEST, REC.REC_CRUST_N, REC.LOST, REC.REC_CRUST_FIRST, REC.REC_OPS, REC.REC_CURSOR, REC.REC_WIN] ++
  [REC.HELD, REC.AREA, REC.BAD_CRC, REC.ACTION, REC.KEY, REC.TOKEN_ADDR16, REC.CLR_RES, REC.REC_CHAL, REC.REC_USER0, REC.REC_USER1, REC.REC_USER2, REC.CODE, REC.GO, REC.USER_RES]

/-! THM, chapter 16: R415. The THM block at 0x4012_0000 holds the registers b. -/
def THM.THM_PRESET : Fld := ⟨0x40120000, 1, 0x0, 1, 0x0, 0, 2, .rw, .both, fun _ => 0⟩
def THM.FC_DIV : Fld := ⟨0x40120004, 1, 0x0, 1, 0x0, 0, 2, .ro, .both, fun _ => 0⟩
def THM.NPU_SKIP : Fld := ⟨0x40120004, 1, 0x0, 1, 0x0, 2, 3, .ro, .both, fun _ => 0⟩
def THM.ISP_SKIP : Fld := ⟨0x40120004, 1, 0x0, 1, 0x0, 5, 3, .ro, .both, fun _ => 0⟩
def THM.ANY_SUSPECT : Fld := ⟨0x40120004, 1, 0x0, 1, 0x0, 8, 1, .ro, .both, fun _ => 0⟩
def THM.ANY_FAST : Fld := ⟨0x40120004, 1, 0x0, 1, 0x0, 9, 1, .ro, .both, fun _ => 0⟩
def THM.CRIT : Fld := ⟨0x40120004, 1, 0x0, 1, 0x0, 10, 4, .ro, .both, fun _ => 0⟩
def THM.CLAMPED : Fld := ⟨0x40120004, 1, 0x0, 1, 0x0, 30, 1, .w1c, .both, fun _ => 0⟩
def THM.LOCKED_WRITE : Fld := ⟨0x40120004, 1, 0x0, 1, 0x0, 31, 1, .w1c, .both, fun _ => 0⟩
def THM.EVT : Fld := ⟨0x40120008, 1, 0x0, 1, 0x0, 0, 5, .w1c, .both, fun _ => 0⟩
def THM.T_BASE : Fld := ⟨0x4012000C, 1, 0x0, 1, 0x0, 0, 16, .ro, .both, fun _ => 0⟩
def THM.G_MAX : Fld := ⟨0x4012000C, 1, 0x0, 1, 0x0, 16, 16, .ro, .both, fun _ => 0⟩
def THM.FC_DIV2_C : Fld := ⟨0x40120010, 1, 0x0, 1, 0x0, 0, 8, .rws, .shoit, fun _ => 95⟩
def THM.FC_DIV4_C : Fld := ⟨0x40120010, 1, 0x0, 1, 0x0, 8, 8, .rws, .shoit, fun _ => 100⟩
def THM.SKIP_START_C : Fld := ⟨0x40120010, 1, 0x0, 1, 0x0, 16, 8, .rws, .shoit, fun _ => 90⟩
def THM.SKIP_STEP : Fld := ⟨0x40120010, 1, 0x0, 1, 0x0, 24, 8, .rws, .shoit, fun _ => 20⟩
def THM.ISP_SKIP_MAX : Fld := ⟨0x40120014, 1, 0x0, 1, 0x0, 0, 3, .rws, .shoit, fun _ => 1⟩
def THM.CRIT_FC : Fld := ⟨0x40120018, 1, 0x0, 1, 0x0, 0, 8, .rws, .shoit, fun _ => 110⟩
def THM.CRIT_NPU : Fld := ⟨0x40120018, 1, 0x0, 1, 0x0, 8, 8, .rws, .shoit, fun _ => 110⟩
def THM.CRIT_PS : Fld := ⟨0x40120018, 1, 0x0, 1, 0x0, 16, 8, .rws, .shoit, fun _ => 115⟩
def THM.CRIT_BOARD : Fld := ⟨0x40120018, 1, 0x0, 1, 0x0, 24, 8, .rws, .shoit, fun _ => 95⟩
def THM.RAW : Fld := ⟨0x40120100, 24, 0x8, 1, 0x0, 0, 16, .ro, .both, fun _ => 0⟩
def THM.USED : Fld := ⟨0x40120100, 24, 0x8, 1, 0x0, 16, 16, .ro, .both, fun _ => 0⟩
def THM.DEV : Fld := ⟨0x40120104, 24, 0x8, 1, 0x0, 0, 16, .ro, .both, fun _ => 0⟩
def THM.SUSPECT : Fld := ⟨0x40120104, 24, 0x8, 1, 0x0, 16, 1, .ro, .both, fun _ => 0⟩
def THM.UNCHECKED : Fld := ⟨0x40120104, 24, 0x8, 1, 0x0, 17, 1, .ro, .both, fun _ => 0⟩
def THM.INVALID : Fld := ⟨0x40120104, 24, 0x8, 1, 0x0, 18, 1, .ro, .both, fun _ => 0⟩
def THM.SUSPECTS : Fld := ⟨0x40120104, 24, 0x8, 1, 0x0, 24, 8, .ro, .both, fun _ => 0⟩
def THM.A_PREV : Fld := ⟨0x40120200, 24, 0x8, 1, 0x0, 0, 16, .ro, .loader, fun _ => 0⟩
def THM.B_PREV : Fld := ⟨0x40120200, 24, 0x8, 1, 0x0, 16, 16, .ro, .loader, fun _ => 0⟩
def THM.A_NEXT : Fld := ⟨0x40120204, 24, 0x8, 1, 0x0, 0, 16, .ro, .loader, fun _ => 0⟩
def THM.B_NEXT : Fld := ⟨0x40120204, 24, 0x8, 1, 0x0, 16, 16, .ro, .loader, fun _ => 0⟩

/-- Every field of THM. -/
def THM.fields : List Fld :=
  [THM.THM_PRESET, THM.FC_DIV, THM.NPU_SKIP, THM.ISP_SKIP, THM.ANY_SUSPECT, THM.ANY_FAST, THM.CRIT, THM.CLAMPED, THM.LOCKED_WRITE, THM.EVT, THM.T_BASE, THM.G_MAX, THM.FC_DIV2_C, THM.FC_DIV4_C, THM.SKIP_START_C, THM.SKIP_STEP] ++
  [THM.ISP_SKIP_MAX, THM.CRIT_FC, THM.CRIT_NPU, THM.CRIT_PS, THM.CRIT_BOARD, THM.RAW, THM.USED, THM.DEV, THM.SUSPECT, THM.UNCHECKED, THM.INVALID, THM.SUSPECTS, THM.A_PREV, THM.B_PREV, THM.A_NEXT, THM.B_NEXT]

/-! UPD, chapter 17: R432. The UPD block at 0x4014_0000 holds the registers b. -/
def UPD.STATE_A : Fld := ⟨0x40140000, 1, 0x0, 1, 0x0, 0, 3, .ro, .both, fun _ => 0⟩
def UPD.STATE_B : Fld := ⟨0x40140000, 1, 0x0, 1, 0x0, 4, 3, .ro, .both, fun _ => 0⟩
def UPD.ACTIVE : Fld := ⟨0x40140000, 1, 0x0, 1, 0x0, 8, 1, .ro, .both, fun _ => 0⟩
def UPD.PENDING : Fld := ⟨0x40140000, 1, 0x0, 1, 0x0, 9, 1, .ro, .both, fun _ => 0⟩
def UPD.TRIAL : Fld := ⟨0x40140000, 1, 0x0, 1, 0x0, 10, 1, .ro, .both, fun _ => 0⟩
def UPD.LATCH : Fld := ⟨0x40140000, 1, 0x0, 1, 0x0, 11, 1, .ro, .both, fun _ => 0⟩
def UPD.BUSY : Fld := ⟨0x40140004, 1, 0x0, 1, 0x0, 0, 1, .ro, .both, fun _ => 0⟩
def UPD.GATE_OPEN : Fld := ⟨0x40140004, 1, 0x0, 1, 0x0, 1, 1, .ro, .both, fun _ => 0⟩
def UPD.OWNER_LOCKED : Fld := ⟨0x40140004, 1, 0x0, 1, 0x0, 2, 1, .ro, .both, fun _ => 0⟩
def UPD.LOCK_SLOT : Fld := ⟨0x40140004, 1, 0x0, 1, 0x0, 3, 2, .ro, .both, fun _ => 0⟩
def UPD.CLAMPED : Fld := ⟨0x40140004, 1, 0x0, 1, 0x0, 30, 1, .w1c, .both, fun _ => 0⟩
def UPD.LOCKED_WRITE : Fld := ⟨0x40140004, 1, 0x0, 1, 0x0, 31, 1, .w1c, .both, fun _ => 0⟩
def UPD.EVT : Fld := ⟨0x40140008, 1, 0x0, 1, 0x0, 0, 6, .w1c, .both, fun _ => 0⟩
def UPD.SRC_ADDR16 : Fld := ⟨0x4014000C, 1, 0x0, 1, 0x0, 0, 30, .rw, .both, fun _ => 0⟩
def UPD.LEN : Fld := ⟨0x40140010, 1, 0x0, 1, 0x0, 0, 25, .rw, .both, fun _ => 0⟩
def UPD.CMD : Fld := ⟨0x40140014, 1, 0x0, 1, 0x0, 0, 4, .wo, .both, fun _ => 0⟩
def UPD.KEY : Fld := ⟨0x40140014, 1, 0x0, 1, 0x0, 8, 4, .wo, .both, fun _ => 0⟩
def UPD.RESULT : Fld := ⟨0x40140018, 1, 0x0, 1, 0x0, 0, 4, .ro, .both, fun _ => 0⟩
def UPD.ABORT_CAUSE : Fld := ⟨0x40140018, 1, 0x0, 1, 0x0, 4, 4, .ro, .both, fun _ => 0⟩
def UPD.PROGRESS : Fld := ⟨0x4014001C, 1, 0x0, 1, 0x0, 0, 25, .ro, .both, fun _ => 0⟩
def UPD.FW_VER_RUN : Fld := ⟨0x40140020, 1, 0x0, 1, 0x0, 0, 32, .ro, .both, fun _ => 0⟩
def UPD.FW_VER_A : Fld := ⟨0x40140024, 1, 0x0, 1, 0x0, 0, 32, .ro, .both, fun _ => 0⟩
def UPD.FW_VER_B : Fld := ⟨0x40140028, 1, 0x0, 1, 0x0, 0, 32, .ro, .both, fun _ => 0⟩
def UPD.TOKEN_ADDR16 : Fld := ⟨0x4014002C, 1, 0x0, 1, 0x0, 0, 30, .rw, .both, fun _ => 0⟩
def UPD.UPD_CHAL : Fld := ⟨0x40140030, 4, 0x4, 1, 0x0, 0, 32, .ro, .both, fun _ => 0⟩

/-- Every field of UPD. -/
def UPD.fields : List Fld :=
  [UPD.STATE_A, UPD.STATE_B, UPD.ACTIVE, UPD.PENDING, UPD.TRIAL, UPD.LATCH, UPD.BUSY, UPD.GATE_OPEN, UPD.OWNER_LOCKED, UPD.LOCK_SLOT, UPD.CLAMPED, UPD.LOCKED_WRITE, UPD.EVT, UPD.SRC_ADDR16, UPD.LEN, UPD.CMD] ++
  [UPD.KEY, UPD.RESULT, UPD.ABORT_CAUSE, UPD.PROGRESS, UPD.FW_VER_RUN, UPD.FW_VER_A, UPD.FW_VER_B, UPD.TOKEN_ADDR16, UPD.UPD_CHAL]

/-! QUE, chapter 15: Block registers. -/
def QUE.LAST_DROP_Q : Fld := ⟨0x40100000, 1, 0x0, 1, 0x0, 0, 6, .ro, .both, fun _ => 0⟩
def QUE.LAST_POISON_Q : Fld := ⟨0x40100000, 1, 0x0, 1, 0x0, 8, 6, .ro, .both, fun _ => 0⟩
def QUE.STALE_PRIV : Fld := ⟨0x40100004, 1, 0x0, 1, 0x0, 0, 8, .ro, .both, fun _ => 0⟩
def QUE.CLAMPED : Fld := ⟨0x40100004, 1, 0x0, 1, 0x0, 30, 1, .w1c, .both, fun _ => 0⟩
def QUE.LOCKED_WRITE : Fld := ⟨0x40100004, 1, 0x0, 1, 0x0, 31, 1, .w1c, .both, fun _ => 0⟩
def QUE.EVT_DROP : Fld := ⟨0x40100008, 1, 0x0, 1, 0x0, 0, 1, .w1c, .both, fun _ => 0⟩
def QUE.EVT_BACKP : Fld := ⟨0x40100008, 1, 0x0, 1, 0x0, 1, 1, .w1c, .both, fun _ => 0⟩
def QUE.EVT_STALE : Fld := ⟨0x40100008, 1, 0x0, 1, 0x0, 2, 1, .w1c, .both, fun _ => 0⟩
def QUE.EVT_CORR : Fld := ⟨0x40100008, 1, 0x0, 1, 0x0, 3, 1, .w1c, .both, fun _ => 0⟩
def QUE.EVT_POISON : Fld := ⟨0x40100008, 1, 0x0, 1, 0x0, 4, 1, .w1c, .both, fun _ => 0⟩
def QUE.EVT_FLUSH : Fld := ⟨0x40100008, 1, 0x0, 1, 0x0, 5, 1, .w1c, .both, fun _ => 0⟩
def QUE.EVT_DISCARD : Fld := ⟨0x40100008, 1, 0x0, 1, 0x0, 6, 1, .w1c, .both, fun _ => 0⟩
def QUE.EVT_POP_REFUSED : Fld := ⟨0x40100008, 1, 0x0, 1, 0x0, 7, 1, .w1c, .both, fun _ => 0⟩
def QUE.BACKP_LO : Fld := ⟨0x4010000C, 1, 0x0, 1, 0x0, 0, 32, .ro, .both, fun _ => 0⟩
def QUE.BACKP_HI : Fld := ⟨0x40100010, 1, 0x0, 1, 0x0, 0, 32, .ro, .both, fun _ => 0⟩
def QUE.READY_LO : Fld := ⟨0x40100014, 1, 0x0, 1, 0x0, 0, 32, .ro, .both, fun _ => 0⟩
def QUE.READY_HI : Fld := ⟨0x40100018, 1, 0x0, 1, 0x0, 0, 32, .ro, .both, fun _ => 0⟩
def QUE.BRINE_BASE : Fld := ⟨0x4010001C, 1, 0x0, 1, 0x0, 0, 30, .ro, .loader, fun _ => 0⟩
def QUE.BRINE_ENTRIES : Fld := ⟨0x40100020, 1, 0x0, 1, 0x0, 0, 25, .ro, .loader, fun _ => 0⟩
def QUE.FC_QUEUE : Fld := ⟨0x40100040, 16, 0x4, 1, 0x0, 0, 6, .ro, .loader, fun _ => 0⟩
def QUE.FC_POL : Fld := ⟨0x40100040, 16, 0x4, 1, 0x0, 6, 1, .ro, .loader, fun _ => 0⟩
def QUE.FC_SAFE : Fld := ⟨0x40100040, 16, 0x4, 1, 0x0, 7, 1, .ro, .loader, fun _ => 0⟩
def QUE.FC_ASSERTED : Fld := ⟨0x40100040, 16, 0x4, 1, 0x0, 8, 1, .ro, .both, fun _ => 0⟩
def QUE.FC_BUILT : Fld := ⟨0x40100040, 16, 0x4, 1, 0x0, 31, 1, .ro, .loader, fun _ => 0⟩
def QUE.FC_GATE : Fld := ⟨0x40100080, 1, 0x0, 1, 0x0, 0, 16, .rw, .shoit, fun _ => 0⟩

/-! QUE, chapter 15: Queue registers. -/
def QUE.Q_CLASS : Fld := ⟨0x40100100, 64, 0x20, 1, 0x0, 0, 2, .ro, .loader, fun _ => 0⟩
def QUE.Q_WIDTH : Fld := ⟨0x40100100, 64, 0x20, 1, 0x0, 2, 2, .ro, .loader, fun _ => 0⟩
def QUE.Q_PRIV : Fld := ⟨0x40100100, 64, 0x20, 1, 0x0, 4, 1, .ro, .loader, fun _ => 0⟩
def QUE.Q_PRIV_IDX : Fld := ⟨0x40100100, 64, 0x20, 1, 0x0, 5, 3, .ro, .loader, fun _ => 0⟩
def QUE.Q_BRINE_LOG2 : Fld := ⟨0x40100100, 64, 0x20, 1, 0x0, 8, 5, .ro, .loader, fun _ => 0⟩
def QUE.Q_FLUSH : Fld := ⟨0x40100100, 64, 0x20, 1, 0x0, 13, 1, .wo, .both, fun _ => 0⟩
def QUE.Q_WM_PRESET : Fld := ⟨0x40100100, 64, 0x20, 1, 0x0, 14, 2, .rw, .both, fun _ => 0⟩
def QUE.Q_PRODUCER : Fld := ⟨0x40100100, 64, 0x20, 1, 0x0, 16, 6, .ro, .loader, fun _ => 0⟩
def QUE.Q_CONSUMER : Fld := ⟨0x40100100, 64, 0x20, 1, 0x0, 24, 6, .ro, .loader, fun _ => 0⟩
def QUE.Q_HIGH_WM : Fld := ⟨0x40100104, 64, 0x20, 1, 0x0, 0, 21, .rws, .both, fun _ => 0⟩
def QUE.Q_LOW_WM : Fld := ⟨0x40100108, 64, 0x20, 1, 0x0, 0, 21, .rws, .both, fun _ => 0⟩
def QUE.Q_STALE_US : Fld := ⟨0x4010010C, 64, 0x20, 1, 0x0, 0, 24, .rws, .both, fun _ => 0⟩
def QUE.Q_OCC : Fld := ⟨0x40100110, 64, 0x20, 1, 0x0, 0, 21, .ro, .both, fun _ => 0⟩
def QUE.Q_BACKP : Fld := ⟨0x40100110, 64, 0x20, 1, 0x0, 24, 1, .ro, .both, fun _ => 0⟩
def QUE.Q_STALE : Fld := ⟨0x40100110, 64, 0x20, 1, 0x0, 25, 1, .ro, .both, fun _ => 0⟩
def QUE.Q_OPEN_ITEM : Fld := ⟨0x40100110, 64, 0x20, 1, 0x0, 26, 1, .ro, .both, fun _ => 0⟩
def QUE.Q_WAITING : Fld := ⟨0x40100110, 64, 0x20, 1, 0x0, 27, 1, .ro, .both, fun _ => 0⟩
def QUE.Q_CORR_COUNT : Fld := ⟨0x40100114, 64, 0x20, 1, 0x0, 0, 16, .ro, .both, fun _ => 0⟩
def QUE.Q_FLUSH_COUNT : Fld := ⟨0x40100114, 64, 0x20, 1, 0x0, 16, 16, .ro, .both, fun _ => 0⟩
def QUE.Q_DROPS : Fld := ⟨0x40100118, 64, 0x20, 1, 0x0, 0, 16, .ro, .both, fun _ => 0⟩
def QUE.Q_POISONED : Fld := ⟨0x40100118, 64, 0x20, 1, 0x0, 16, 16, .ro, .both, fun _ => 0⟩
def QUE.Q_DISC_WORDS : Fld := ⟨0x4010011C, 64, 0x20, 1, 0x0, 0, 16, .ro, .both, fun _ => 0⟩
def QUE.Q_SPILL_LATE : Fld := ⟨0x4010011C, 64, 0x20, 1, 0x0, 16, 8, .ro, .both, fun _ => 0⟩
def QUE.Q_CONS_DISC : Fld := ⟨0x4010011C, 64, 0x20, 1, 0x0, 24, 8, .ro, .both, fun _ => 0⟩

/-! QUE, chapter 15: Window registers. -/
def QUE.W_TAG : Fld := ⟨0x40101020, 64, 0x40, 1, 0x0, 0, 32, .ro, .both, fun _ => 1024⟩
def QUE.W_ACT : Fld := ⟨0x40101024, 64, 0x40, 1, 0x0, 0, 2, .wo, .both, fun _ => 0⟩
def QUE.W_FGEN : Fld := ⟨0x40101024, 64, 0x40, 1, 0x0, 2, 3, .wo, .both, fun _ => 0⟩
def QUE.W_WR_START : Fld := ⟨0x40101028, 64, 0x40, 1, 0x0, 0, 32, .wo, .both, fun _ => 0⟩
def QUE.W_WR : Fld := ⟨0x4010102C, 64, 0x40, 1, 0x0, 0, 32, .wo, .both, fun _ => 0⟩
def QUE.W_WR_END : Fld := ⟨0x40101030, 64, 0x40, 1, 0x0, 0, 32, .wo, .both, fun _ => 0⟩
def QUE.W_WR_ONE : Fld := ⟨0x40101034, 64, 0x40, 1, 0x0, 0, 32, .wo, .both, fun _ => 0⟩
def QUE.W_HEAD : Fld := ⟨0x40101000, 64, 0x40, 8, 0x4, 0, 32, .ro, .both, fun _ => 0⟩

/-- Every field of QUE. -/
def QUE.fields : List Fld :=
  [QUE.LAST_DROP_Q, QUE.LAST_POISON_Q, QUE.STALE_PRIV, QUE.CLAMPED, QUE.LOCKED_WRITE, QUE.EVT_DROP, QUE.EVT_BACKP, QUE.EVT_STALE, QUE.EVT_CORR, QUE.EVT_POISON, QUE.EVT_FLUSH, QUE.EVT_DISCARD, QUE.EVT_POP_REFUSED, QUE.BACKP_LO, QUE.BACKP_HI, QUE.READY_LO] ++
  [QUE.READY_HI, QUE.BRINE_BASE, QUE.BRINE_ENTRIES, QUE.FC_QUEUE, QUE.FC_POL, QUE.FC_SAFE, QUE.FC_ASSERTED, QUE.FC_BUILT, QUE.FC_GATE, QUE.Q_CLASS, QUE.Q_WIDTH, QUE.Q_PRIV, QUE.Q_PRIV_IDX, QUE.Q_BRINE_LOG2, QUE.Q_FLUSH, QUE.Q_WM_PRESET] ++
  [QUE.Q_PRODUCER, QUE.Q_CONSUMER, QUE.Q_HIGH_WM, QUE.Q_LOW_WM, QUE.Q_STALE_US, QUE.Q_OCC, QUE.Q_BACKP, QUE.Q_STALE, QUE.Q_OPEN_ITEM, QUE.Q_WAITING, QUE.Q_CORR_COUNT, QUE.Q_FLUSH_COUNT, QUE.Q_DROPS, QUE.Q_POISONED, QUE.Q_DISC_WORDS, QUE.Q_SPILL_LATE] ++
  [QUE.Q_CONS_DISC, QUE.W_TAG, QUE.W_ACT, QUE.W_FGEN, QUE.W_WR_START, QUE.W_WR, QUE.W_WR_END, QUE.W_WR_ONE, QUE.W_HEAD]

end Sys2Proof.Machine
end

