-- ==== Sys2Proof/Machine/RegsMotion.lean ====
section
/-! DEFINITION. Machine/RegsMotion.lean: the register fields of TMB, LAH, SLU, CTL, from the register maps of their chapters. -/

namespace Sys2Proof.Machine

/-! TMB, chapter 04: TMB_CTL. -/
def TMB.RUN : Fld := ⟨0x40030000, 1, 0x0, 1, 0x0, 1, 1, .ro, .both, fun _ => 0⟩
def TMB.MD_PRESET : Fld := ⟨0x40030000, 1, 0x0, 1, 0x0, 2, 2, .rw, .both, fun _ => 0⟩
def TMB.MT_DISC : Fld := ⟨0x40030000, 1, 0x0, 1, 0x0, 4, 2, .rws, .both, fun _ => 1⟩
def TMB.HOLD_MD : Fld := ⟨0x40030000, 1, 0x0, 1, 0x0, 6, 1, .rw, .both, fun _ => 0⟩

/-! TMB, chapter 04: TMB_STAT. -/
def TMB.MD_STATE : Fld := ⟨0x40030004, 1, 0x0, 1, 0x0, 0, 3, .ro, .both, fun _ => 3⟩
def TMB.MD_VALID : Fld := ⟨0x40030004, 1, 0x0, 1, 0x0, 3, 1, .ro, .both, fun _ => 0⟩
def TMB.ADMITTED : Fld := ⟨0x40030004, 1, 0x0, 1, 0x0, 4, 4, .ro, .both, fun _ => 0⟩
def TMB.FRESH : Fld := ⟨0x40030004, 1, 0x0, 1, 0x0, 8, 4, .ro, .both, fun _ => 0⟩
def TMB.REVERSE : Fld := ⟨0x40030004, 1, 0x0, 1, 0x0, 12, 1, .ro, .both, fun _ => 0⟩
def TMB.HOLD_NET : Fld := ⟨0x40030004, 1, 0x0, 1, 0x0, 13, 1, .ro, .both, fun _ => 0⟩
def TMB.MT_LOCKED : Fld := ⟨0x40030004, 1, 0x0, 1, 0x0, 14, 1, .ro, .both, fun _ => 0⟩
def TMB.RA_VALID : Fld := ⟨0x40030004, 1, 0x0, 1, 0x0, 15, 1, .ro, .both, fun _ => 0⟩
def TMB.CLAMPED : Fld := ⟨0x40030004, 1, 0x0, 1, 0x0, 30, 1, .w1c, .both, fun _ => 0⟩
def TMB.LOCKED_WRITE : Fld := ⟨0x40030004, 1, 0x0, 1, 0x0, 31, 1, .w1c, .both, fun _ => 0⟩

/-! TMB, chapter 04: TMB_EVT. -/
def TMB.EVT_STATE_CHANGE : Fld := ⟨0x40030008, 1, 0x0, 1, 0x0, 0, 1, .w1c, .both, fun _ => 0⟩
def TMB.EVT_SRC_REJECT : Fld := ⟨0x40030008, 1, 0x0, 1, 0x0, 1, 1, .w1c, .both, fun _ => 0⟩
def TMB.EVT_REVERSAL : Fld := ⟨0x40030008, 1, 0x0, 1, 0x0, 2, 1, .w1c, .both, fun _ => 0⟩
def TMB.EVT_LATE : Fld := ⟨0x40030008, 1, 0x0, 1, 0x0, 3, 1, .w1c, .both, fun _ => 0⟩
def TMB.EVT_FULL : Fld := ⟨0x40030008, 1, 0x0, 1, 0x0, 4, 1, .w1c, .both, fun _ => 0⟩
def TMB.EVT_MT_UNLOCK : Fld := ⟨0x40030008, 1, 0x0, 1, 0x0, 5, 1, .w1c, .both, fun _ => 0⟩
def TMB.EVT_HOLD_RELEASE : Fld := ⟨0x40030008, 1, 0x0, 1, 0x0, 6, 1, .w1c, .both, fun _ => 0⟩

/-! TMB, chapter 04: TMB_SNAP. -/
def TMB.LATCH : Fld := ⟨0x4003000C, 1, 0x0, 1, 0x0, 0, 1, .wo, .both, fun _ => 0⟩
def TMB.SNAP_MT_LO : Fld := ⟨0x40030010, 1, 0x0, 1, 0x0, 0, 32, .ro, .both, fun _ => 0⟩
def TMB.SNAP_MT_HI : Fld := ⟨0x40030014, 1, 0x0, 1, 0x0, 0, 32, .ro, .both, fun _ => 0⟩
def TMB.SNAP_MD_LO : Fld := ⟨0x40030018, 1, 0x0, 1, 0x0, 0, 32, .ro, .both, fun _ => 0⟩
def TMB.SNAP_MD_HI : Fld := ⟨0x4003001C, 1, 0x0, 1, 0x0, 0, 32, .ro, .both, fun _ => 0⟩
def TMB.SNAP_RA_FRAC : Fld := ⟨0x40030020, 1, 0x0, 1, 0x0, 0, 16, .ro, .both, fun _ => 0⟩
def TMB.SNAP_RA_REV : Fld := ⟨0x40030024, 1, 0x0, 1, 0x0, 0, 24, .ro, .both, fun _ => 0⟩
def TMB.SNAP_SPEED : Fld := ⟨0x40030028, 1, 0x0, 1, 0x0, 0, 32, .ro, .both, fun _ => 0⟩
def TMB.SEQ : Fld := ⟨0x4003002C, 1, 0x0, 1, 0x0, 0, 16, .ro, .both, fun _ => 0⟩
def TMB.STARTS : Fld := ⟨0x4003002C, 1, 0x0, 1, 0x0, 16, 16, .ro, .both, fun _ => 0⟩

/-! TMB, chapter 04: Time registers. -/
def TMB.GPS_OFS_LO : Fld := ⟨0x40030030, 1, 0x0, 1, 0x0, 0, 32, .ro, .both, fun _ => 0⟩
def TMB.GPS_OFS_HI : Fld := ⟨0x40030034, 1, 0x0, 1, 0x0, 0, 32, .ro, .both, fun _ => 0⟩
def TMB.SLEW_PPM : Fld := ⟨0x40030038, 1, 0x0, 1, 0x0, 0, 8, .rws, .both, fun _ => 100⟩
def TMB.MT_ERR : Fld := ⟨0x4003003C, 1, 0x0, 1, 0x0, 0, 32, .ro, .both, fun _ => 0⟩

/-! TMB, chapter 04: Source registers. -/
def TMB.SRC_USE : Fld := ⟨0x40030040, 4, 0x10, 1, 0x0, 0, 1, .rws, .both, fun _ => 0⟩
def TMB.SRC_WEIGHT : Fld := ⟨0x40030040, 4, 0x10, 1, 0x0, 4, 4, .rws, .both, fun i => [8, 8, 4, 8].getD i 0⟩
def TMB.SRC_PRIORITY : Fld := ⟨0x40030040, 4, 0x10, 1, 0x0, 8, 2, .rws, .both, fun i => i⟩
def TMB.SRC_GATE_ABS : Fld := ⟨0x40030044, 4, 0x10, 1, 0x0, 0, 16, .rws, .both, fun _ => 150⟩
def TMB.SRC_GATE_REL : Fld := ⟨0x40030044, 4, 0x10, 1, 0x0, 16, 8, .rws, .both, fun _ => 26⟩
def TMB.SRC_READMIT : Fld := ⟨0x40030044, 4, 0x10, 1, 0x0, 24, 8, .rws, .both, fun _ => 50⟩
def TMB.SRC_STALE_MS : Fld := ⟨0x40030048, 4, 0x10, 1, 0x0, 0, 16, .rws, .both, fun i => [50, 250, 100, 50].getD i 0⟩
def TMB.SRC_LAT_US : Fld := ⟨0x40030048, 4, 0x10, 1, 0x0, 16, 16, .rws, .both, fun _ => 0⟩
def TMB.SRC_SPEED : Fld := ⟨0x4003004C, 4, 0x10, 1, 0x0, 0, 32, .ro, .both, fun _ => 0⟩

/-! TMB, chapter 04: TMB_SRC_CNT0-3. -/
def TMB.REJECTS : Fld := ⟨0x40030080, 4, 0x4, 1, 0x0, 0, 16, .ro, .both, fun _ => 0⟩
def TMB.STALES : Fld := ⟨0x40030080, 4, 0x4, 1, 0x0, 16, 16, .ro, .both, fun _ => 0⟩

/-! TMB, chapter 04: Scale, fusion and reversal. -/
def TMB.WHEEL_SCALE : Fld := ⟨0x40030090, 1, 0x0, 1, 0x0, 0, 24, .rws, .both, fun _ => 0⟩
def TMB.GSS_SCALE : Fld := ⟨0x40030094, 1, 0x0, 1, 0x0, 0, 24, .rws, .both, fun _ => 0⟩
def TMB.STILL_MMS : Fld := ⟨0x400300A0, 1, 0x0, 1, 0x0, 0, 16, .rws, .both, fun _ => 5⟩
def TMB.HOLD_MS : Fld := ⟨0x400300A0, 1, 0x0, 1, 0x0, 16, 16, .rws, .both, fun _ => 200⟩
def TMB.REV_CONFIRM_MM : Fld := ⟨0x400300A4, 1, 0x0, 1, 0x0, 0, 16, .rws, .both, fun _ => 50⟩

/-! TMB, chapter 04: Scheduler registers. -/
def TMB.PENDING : Fld := ⟨0x400300B0, 1, 0x0, 1, 0x0, 0, 13, .ro, .both, fun _ => 0⟩
def TMB.PEAK : Fld := ⟨0x400300B0, 1, 0x0, 1, 0x0, 16, 13, .ro, .both, fun _ => 0⟩
def TMB.FULL_SEEN : Fld := ⟨0x400300B0, 1, 0x0, 1, 0x0, 31, 1, .w1c, .both, fun _ => 0⟩
def TMB.FILE_TGT_LO : Fld := ⟨0x400300C0, 1, 0x0, 1, 0x0, 0, 32, .rw, .both, fun _ => 0⟩
def TMB.FILE_TGT_HI : Fld := ⟨0x400300C4, 1, 0x0, 1, 0x0, 0, 32, .rw, .both, fun _ => 0⟩
def TMB.FILE_ARG : Fld := ⟨0x400300C8, 1, 0x0, 1, 0x0, 0, 32, .rw, .both, fun _ => 0⟩
def TMB.FILE_CLASS : Fld := ⟨0x400300CC, 1, 0x0, 1, 0x0, 0, 5, .wo, .both, fun _ => 0⟩
def TMB.FILE_GO : Fld := ⟨0x400300CC, 1, 0x0, 1, 0x0, 31, 1, .wo, .both, fun _ => 0⟩
def TMB.HANDLE : Fld := ⟨0x400300D0, 1, 0x0, 1, 0x0, 0, 16, .ro, .both, fun _ => 0⟩
def TMB.FILE_RESULT : Fld := ⟨0x400300D0, 1, 0x0, 1, 0x0, 16, 4, .ro, .both, fun _ => 0⟩
def TMB.CANCEL : Fld := ⟨0x400300D4, 1, 0x0, 1, 0x0, 0, 16, .wo, .both, fun _ => 0⟩
def TMB.CANCEL_RESULT : Fld := ⟨0x400300D8, 1, 0x0, 1, 0x0, 0, 2, .ro, .both, fun _ => 0⟩

/-! TMB, chapter 04: History registers. -/
def TMB.HIST_STEP_MM : Fld := ⟨0x400300E0, 1, 0x0, 1, 0x0, 0, 16, .rws, .both, fun _ => 100⟩
def TMB.HIST_MAXT_MS : Fld := ⟨0x400300E0, 1, 0x0, 1, 0x0, 16, 16, .rws, .both, fun _ => 100⟩
def TMB.Q_LO : Fld := ⟨0x400300E4, 1, 0x0, 1, 0x0, 0, 32, .rw, .both, fun _ => 0⟩
def TMB.Q_HI : Fld := ⟨0x400300E8, 1, 0x0, 1, 0x0, 0, 32, .rw, .both, fun _ => 0⟩
def TMB.Q_KEY : Fld := ⟨0x400300EC, 1, 0x0, 1, 0x0, 0, 1, .wo, .both, fun _ => 0⟩
def TMB.Q_GO : Fld := ⟨0x400300EC, 1, 0x0, 1, 0x0, 1, 1, .wo, .both, fun _ => 0⟩
def TMB.Q_BUSY : Fld := ⟨0x400300F0, 1, 0x0, 1, 0x0, 0, 1, .ro, .both, fun _ => 0⟩
def TMB.Q_RESULT : Fld := ⟨0x400300F0, 1, 0x0, 1, 0x0, 1, 3, .ro, .both, fun _ => 0⟩
def TMB.Q_AMBIGUOUS : Fld := ⟨0x400300F0, 1, 0x0, 1, 0x0, 4, 1, .ro, .both, fun _ => 0⟩
def TMB.R_EAST : Fld := ⟨0x40030110, 1, 0x0, 1, 0x0, 0, 32, .ro, .both, fun _ => 0⟩
def TMB.R_NORTH : Fld := ⟨0x40030114, 1, 0x0, 1, 0x0, 0, 32, .ro, .both, fun _ => 0⟩
def TMB.R_HEADING : Fld := ⟨0x40030118, 1, 0x0, 1, 0x0, 0, 16, .ro, .both, fun _ => 0⟩
def TMB.R_SPEED : Fld := ⟨0x40030118, 1, 0x0, 1, 0x0, 16, 16, .ro, .both, fun _ => 0⟩

/-! TMB, chapter 04: TMB_CLASS0-31. -/
def TMB.CLASS_LATE_POLICY : Fld := ⟨0x40030200, 32, 0x4, 1, 0x0, 0, 1, .rws, .both, fun _ => 0⟩
def TMB.CLASS_HOLD_POLICY : Fld := ⟨0x40030200, 32, 0x4, 1, 0x0, 2, 1, .rws, .both, fun _ => 0⟩
def TMB.CLASS_REV_POLICY : Fld := ⟨0x40030200, 32, 0x4, 1, 0x0, 4, 1, .rws, .both, fun _ => 0⟩
def TMB.CLASS_COORD : Fld := ⟨0x40030200, 32, 0x4, 1, 0x0, 8, 2, .ro, .loader, fun _ => 0⟩
def TMB.CLASS_DIR : Fld := ⟨0x40030200, 32, 0x4, 1, 0x0, 10, 2, .ro, .loader, fun _ => 0⟩
def TMB.CLASS_PRIORITY : Fld := ⟨0x40030200, 32, 0x4, 1, 0x0, 16, 5, .ro, .loader, fun _ => 0⟩
def TMB.CLASS_BUILT : Fld := ⟨0x40030200, 32, 0x4, 1, 0x0, 31, 1, .ro, .loader, fun _ => 0⟩

/-! TMB, chapter 04: History registers. -/
def TMB.R_MT_LO : Fld := ⟨0x40030100, 1, 0x0, 1, 0x0, 0, 32, .ro, .both, fun _ => 0⟩
def TMB.R_MT_HI : Fld := ⟨0x40030104, 1, 0x0, 1, 0x0, 0, 32, .ro, .both, fun _ => 0⟩
def TMB.R_MD_LO : Fld := ⟨0x40030108, 1, 0x0, 1, 0x0, 0, 32, .ro, .both, fun _ => 0⟩
def TMB.R_MD_HI : Fld := ⟨0x4003010C, 1, 0x0, 1, 0x0, 0, 32, .ro, .both, fun _ => 0⟩

/-- Every field of TMB. -/
def TMB.fields : List Fld :=
  [TMB.RUN, TMB.MD_PRESET, TMB.MT_DISC, TMB.HOLD_MD, TMB.MD_STATE, TMB.MD_VALID, TMB.ADMITTED, TMB.FRESH, TMB.REVERSE, TMB.HOLD_NET, TMB.MT_LOCKED, TMB.RA_VALID, TMB.CLAMPED, TMB.LOCKED_WRITE, TMB.EVT_STATE_CHANGE, TMB.EVT_SRC_REJECT] ++
  [TMB.EVT_REVERSAL, TMB.EVT_LATE, TMB.EVT_FULL, TMB.EVT_MT_UNLOCK, TMB.EVT_HOLD_RELEASE, TMB.LATCH, TMB.SNAP_MT_LO, TMB.SNAP_MT_HI, TMB.SNAP_MD_LO, TMB.SNAP_MD_HI, TMB.SNAP_RA_FRAC, TMB.SNAP_RA_REV, TMB.SNAP_SPEED, TMB.SEQ, TMB.STARTS, TMB.GPS_OFS_LO] ++
  [TMB.GPS_OFS_HI, TMB.SLEW_PPM, TMB.MT_ERR, TMB.SRC_USE, TMB.SRC_WEIGHT, TMB.SRC_PRIORITY, TMB.SRC_GATE_ABS, TMB.SRC_GATE_REL, TMB.SRC_READMIT, TMB.SRC_STALE_MS, TMB.SRC_LAT_US, TMB.SRC_SPEED, TMB.REJECTS, TMB.STALES, TMB.WHEEL_SCALE, TMB.GSS_SCALE] ++
  [TMB.STILL_MMS, TMB.HOLD_MS, TMB.REV_CONFIRM_MM, TMB.PENDING, TMB.PEAK, TMB.FULL_SEEN, TMB.FILE_TGT_LO, TMB.FILE_TGT_HI, TMB.FILE_ARG, TMB.FILE_CLASS, TMB.FILE_GO, TMB.HANDLE, TMB.FILE_RESULT, TMB.CANCEL, TMB.CANCEL_RESULT, TMB.HIST_STEP_MM] ++
  [TMB.HIST_MAXT_MS, TMB.Q_LO, TMB.Q_HI, TMB.Q_KEY, TMB.Q_GO, TMB.Q_BUSY, TMB.Q_RESULT, TMB.Q_AMBIGUOUS, TMB.R_EAST, TMB.R_NORTH, TMB.R_HEADING, TMB.R_SPEED, TMB.CLASS_LATE_POLICY, TMB.CLASS_HOLD_POLICY, TMB.CLASS_REV_POLICY, TMB.CLASS_COORD] ++
  [TMB.CLASS_DIR, TMB.CLASS_PRIORITY, TMB.CLASS_BUILT, TMB.R_MT_LO, TMB.R_MT_HI, TMB.R_MD_LO, TMB.R_MD_HI]

/-! LAH, chapter 05: LAH_CTL. -/
def LAH.EN : Fld := ⟨0x40040000, 1, 0x0, 1, 0x0, 0, 1, .rw, .both, fun _ => 0⟩
def LAH.OVERLAP_PRESET : Fld := ⟨0x40040000, 1, 0x0, 1, 0x0, 1, 2, .rw, .both, fun _ => 0⟩
def LAH.MASTER : Fld := ⟨0x40040000, 1, 0x0, 1, 0x0, 8, 8, .rw, .both, fun _ => 0⟩

/-! LAH, chapter 05: LAH_STAT. -/
def LAH.POSE_STATE : Fld := ⟨0x40040004, 1, 0x0, 1, 0x0, 0, 2, .ro, .both, fun _ => 2⟩
def LAH.PAN_FULL : Fld := ⟨0x40040004, 1, 0x0, 1, 0x0, 2, 1, .ro, .both, fun _ => 0⟩
def LAH.IMP_STATE : Fld := ⟨0x40040004, 1, 0x0, 1, 0x0, 3, 1, .ro, .both, fun _ => 0⟩
def LAH.CLAMPED : Fld := ⟨0x40040004, 1, 0x0, 1, 0x0, 30, 1, .w1c, .both, fun _ => 0⟩
def LAH.LOCKED_WRITE : Fld := ⟨0x40040004, 1, 0x0, 1, 0x0, 31, 1, .w1c, .both, fun _ => 0⟩

/-! LAH, chapter 05: LAH_EVT. -/
def LAH.EVT_FLOOD : Fld := ⟨0x40040008, 1, 0x0, 1, 0x0, 0, 1, .w1c, .both, fun _ => 0⟩
def LAH.EVT_COMP : Fld := ⟨0x40040008, 1, 0x0, 1, 0x0, 1, 1, .w1c, .both, fun _ => 0⟩
def LAH.EVT_CATCHUP : Fld := ⟨0x40040008, 1, 0x0, 1, 0x0, 2, 1, .w1c, .both, fun _ => 0⟩
def LAH.EVT_PAN_FULL : Fld := ⟨0x40040008, 1, 0x0, 1, 0x0, 3, 1, .w1c, .both, fun _ => 0⟩
def LAH.EVT_IMP_DONE : Fld := ⟨0x40040008, 1, 0x0, 1, 0x0, 4, 1, .w1c, .both, fun _ => 0⟩
def LAH.EVT_RATE_FLOODED : Fld := ⟨0x40040008, 1, 0x0, 1, 0x0, 5, 1, .w1c, .both, fun _ => 0⟩
def LAH.EVT_POSE_LOST : Fld := ⟨0x40040008, 1, 0x0, 1, 0x0, 6, 1, .w1c, .both, fun _ => 0⟩
def LAH.EVT_COV_MISS : Fld := ⟨0x40040008, 1, 0x0, 1, 0x0, 7, 1, .w1c, .both, fun _ => 0⟩

/-! LAH, chapter 05: LAH_PAN. -/
def LAH.PAN_USED : Fld := ⟨0x4004000C, 1, 0x0, 1, 0x0, 0, 12, .ro, .both, fun _ => 0⟩
def LAH.PAN_PEAK : Fld := ⟨0x4004000C, 1, 0x0, 1, 0x0, 16, 12, .ro, .both, fun _ => 0⟩

/-! LAH, chapter 05: Counters. -/
def LAH.FLOOD_BEFORE : Fld := ⟨0x40040018, 1, 0x0, 1, 0x0, 0, 32, .ro, .both, fun _ => 0⟩
def LAH.FLOOD_AFTER : Fld := ⟨0x4004001C, 1, 0x0, 1, 0x0, 0, 32, .ro, .both, fun _ => 0⟩
def LAH.CNT_RAKED : Fld := ⟨0x40040020, 1, 0x0, 1, 0x0, 0, 32, .ro, .both, fun _ => 0⟩
def LAH.CATCHUPS : Fld := ⟨0x40040024, 1, 0x0, 1, 0x0, 0, 16, .ro, .both, fun _ => 0⟩
def LAH.PAN_REFUSED : Fld := ⟨0x40040024, 1, 0x0, 1, 0x0, 16, 16, .ro, .both, fun _ => 0⟩
def LAH.CNT_COV_MISS : Fld := ⟨0x40040028, 1, 0x0, 1, 0x0, 0, 32, .ro, .both, fun _ => 0⟩
def LAH.IMP_OUTSIDE : Fld := ⟨0x4004002C, 1, 0x0, 1, 0x0, 0, 32, .ro, .both, fun _ => 0⟩

/-! LAH, chapter 05: Tolerances and horizon. -/
def LAH.RAKE_LAT_MM : Fld := ⟨0x40040030, 1, 0x0, 1, 0x0, 0, 16, .rws, .both, fun _ => 150⟩
def LAH.STALL_RATIO : Fld := ⟨0x40040030, 1, 0x0, 1, 0x0, 16, 10, .rws, .both, fun _ => 100⟩
def LAH.HORIZON_M : Fld := ⟨0x40040034, 1, 0x0, 1, 0x0, 0, 9, .rws, .both, fun _ => 400⟩
def LAH.HORIZON_MS : Fld := ⟨0x40040034, 1, 0x0, 1, 0x0, 16, 13, .rws, .both, fun _ => 6000⟩
def LAH.TEST_STEP_MM : Fld := ⟨0x40040038, 1, 0x0, 1, 0x0, 0, 10, .rws, .both, fun _ => 100⟩
def LAH.DR_LIMIT_MS : Fld := ⟨0x40040038, 1, 0x0, 1, 0x0, 16, 16, .rws, .both, fun _ => 10000⟩
def LAH.ON_UNCOV_PCT : Fld := ⟨0x4004003C, 1, 0x0, 1, 0x0, 0, 8, .rw, .both, fun _ => 50⟩
def LAH.OFF_COV_PCT : Fld := ⟨0x4004003C, 1, 0x0, 1, 0x0, 8, 8, .rw, .both, fun _ => 60⟩
def LAH.BND_OFF_PCT : Fld := ⟨0x4004003C, 1, 0x0, 1, 0x0, 16, 8, .rw, .both, fun _ => 50⟩

/-! LAH, chapter 05: Pose. -/
def LAH.POSE_E : Fld := ⟨0x40040040, 1, 0x0, 1, 0x0, 0, 32, .ro, .both, fun _ => 0⟩
def LAH.POSE_N : Fld := ⟨0x40040044, 1, 0x0, 1, 0x0, 0, 32, .ro, .both, fun _ => 0⟩
def LAH.POSE_HDG : Fld := ⟨0x40040048, 1, 0x0, 1, 0x0, 0, 16, .ro, .both, fun _ => 0⟩

/-! LAH, chapter 05: Local grid and map. -/
def LAH.LAT0 : Fld := ⟨0x40040050, 1, 0x0, 1, 0x0, 0, 32, .rwl, .both, fun _ => 0⟩
def LAH.LON0 : Fld := ⟨0x40040054, 1, 0x0, 1, 0x0, 0, 32, .rwl, .both, fun _ => 0⟩
def LAH.MAP_ORG_E : Fld := ⟨0x40040058, 1, 0x0, 1, 0x0, 0, 32, .rwl, .both, fun _ => 0⟩
def LAH.MAP_ORG_N : Fld := ⟨0x4004005C, 1, 0x0, 1, 0x0, 0, 32, .rwl, .both, fun _ => 0⟩
def LAH.MAP_W : Fld := ⟨0x40040060, 1, 0x0, 1, 0x0, 0, 10, .rwl, .both, fun _ => 0⟩
def LAH.MAP_H : Fld := ⟨0x40040060, 1, 0x0, 1, 0x0, 16, 10, .rwl, .both, fun _ => 0⟩
def LAH.MAP_BASE : Fld := ⟨0x40040064, 1, 0x0, 1, 0x0, 0, 30, .rwl, .both, fun _ => 0⟩

/-! LAH, chapter 05: Import. -/
def LAH.IMP_ADDR16 : Fld := ⟨0x40040070, 1, 0x0, 1, 0x0, 0, 30, .rw, .both, fun _ => 0⟩
def LAH.IMP_CNT : Fld := ⟨0x40040074, 1, 0x0, 1, 0x0, 0, 17, .rw, .both, fun _ => 0⟩
def LAH.IMP_GO : Fld := ⟨0x40040078, 1, 0x0, 1, 0x0, 0, 1, .wo, .both, fun _ => 0⟩
def LAH.IMP_RESULT : Fld := ⟨0x4004007C, 1, 0x0, 1, 0x0, 0, 2, .ro, .both, fun _ => 0⟩
def LAH.IMP_APPLIED : Fld := ⟨0x4004007C, 1, 0x0, 1, 0x0, 15, 17, .ro, .both, fun _ => 0⟩
def LAH.IMP_LASTSRC : Fld := ⟨0x40040080, 1, 0x0, 1, 0x0, 0, 16, .ro, .both, fun _ => 0⟩

/-! LAH, chapter 05: Implement registers. -/
def LAH.IMP_TYPE : Fld := ⟨0x40040100, 8, 0x20, 1, 0x0, 0, 2, .ro, .loader, fun _ => 0⟩
def LAH.IMP_CURVE_COMP : Fld := ⟨0x40040100, 8, 0x20, 1, 0x0, 4, 1, .rws, .both, fun _ => 0⟩
def LAH.IMP_FIRST_SEC : Fld := ⟨0x40040100, 8, 0x20, 1, 0x0, 16, 12, .ro, .loader, fun _ => 0⟩
def LAH.IMP_SEC_COUNT : Fld := ⟨0x40040104, 8, 0x20, 1, 0x0, 0, 13, .ro, .loader, fun _ => 0⟩
def LAH.IMP_DELAY_RATE_MS : Fld := ⟨0x40040108, 8, 0x20, 1, 0x0, 0, 12, .rws, .both, fun _ => 0⟩
def LAH.IMP_RATE_IN_FORCE : Fld := ⟨0x40040108, 8, 0x20, 1, 0x0, 16, 16, .ro, .both, fun _ => 0⟩
def LAH.IMP_RC_T1 : Fld := ⟨0x4004010C, 8, 0x20, 1, 0x0, 0, 16, .rws, .both, fun _ => 1⟩
def LAH.IMP_RC_T2 : Fld := ⟨0x4004010C, 8, 0x20, 1, 0x0, 16, 16, .rws, .both, fun _ => 2⟩
def LAH.IMP_RC_T3 : Fld := ⟨0x40040110, 8, 0x20, 1, 0x0, 0, 16, .rws, .both, fun _ => 3⟩
def LAH.IMP_RATE_VAL : Fld := ⟨0x40040114, 8, 0x20, 1, 0x0, 0, 16, .rw, .both, fun _ => 0⟩
def LAH.IMP_RATE_MD_LO : Fld := ⟨0x40040118, 8, 0x20, 1, 0x0, 0, 32, .rw, .both, fun _ => 0⟩
def LAH.IMP_RATE_MD_HI : Fld := ⟨0x4004011C, 8, 0x20, 1, 0x0, 0, 16, .rw, .both, fun _ => 0⟩
def LAH.IMP_RATE_GO : Fld := ⟨0x4004011C, 8, 0x20, 1, 0x0, 31, 1, .wo, .both, fun _ => 0⟩

/-! LAH, chapter 05: Section registers. -/
def LAH.SEC_DELAY_ON_MS : Fld := ⟨0x40041000, 4096, 0x4, 1, 0x0, 0, 12, .rws, .both, fun _ => 0⟩
def LAH.SEC_DELAY_OFF_MS : Fld := ⟨0x40041000, 4096, 0x4, 1, 0x0, 16, 12, .rws, .both, fun _ => 0⟩
def LAH.SEC_CMD : Fld := ⟨0x40041000, 4096, 0x4, 1, 0x0, 28, 1, .ro, .both, fun _ => 0⟩
def LAH.SEC_EFFECTIVE : Fld := ⟨0x40041000, 4096, 0x4, 1, 0x0, 29, 1, .ro, .both, fun _ => 0⟩
def LAH.SEC_STALLED : Fld := ⟨0x40041000, 4096, 0x4, 1, 0x0, 30, 1, .ro, .both, fun _ => 0⟩

/-! LAH, chapter 05: LAH_FLOOD_REQ. -/
def LAH.FLOOD_REQ : Fld := ⟨0x40040010, 1, 0x0, 1, 0x0, 0, 8, .wo, .both, fun _ => 0⟩

/-! LAH, chapter 05: LAH_LAST_FLOOD. -/
def LAH.LAST_CAUSE : Fld := ⟨0x40040014, 1, 0x0, 1, 0x0, 0, 4, .ro, .both, fun _ => 0⟩
def LAH.LAST_IMPL : Fld := ⟨0x40040014, 1, 0x0, 1, 0x0, 8, 3, .ro, .both, fun _ => 0⟩
def LAH.LAST_REMOVED : Fld := ⟨0x40040014, 1, 0x0, 1, 0x0, 16, 16, .ro, .both, fun _ => 0⟩

/-- Every field of LAH. -/
def LAH.fields : List Fld :=
  [LAH.EN, LAH.OVERLAP_PRESET, LAH.MASTER, LAH.POSE_STATE, LAH.PAN_FULL, LAH.IMP_STATE, LAH.CLAMPED, LAH.LOCKED_WRITE, LAH.EVT_FLOOD, LAH.EVT_COMP, LAH.EVT_CATCHUP, LAH.EVT_PAN_FULL, LAH.EVT_IMP_DONE, LAH.EVT_RATE_FLOODED, LAH.EVT_POSE_LOST, LAH.EVT_COV_MISS] ++
  [LAH.PAN_USED, LAH.PAN_PEAK, LAH.FLOOD_BEFORE, LAH.FLOOD_AFTER, LAH.CNT_RAKED, LAH.CATCHUPS, LAH.PAN_REFUSED, LAH.CNT_COV_MISS, LAH.IMP_OUTSIDE, LAH.RAKE_LAT_MM, LAH.STALL_RATIO, LAH.HORIZON_M, LAH.HORIZON_MS, LAH.TEST_STEP_MM, LAH.DR_LIMIT_MS, LAH.ON_UNCOV_PCT] ++
  [LAH.OFF_COV_PCT, LAH.BND_OFF_PCT, LAH.POSE_E, LAH.POSE_N, LAH.POSE_HDG, LAH.LAT0, LAH.LON0, LAH.MAP_ORG_E, LAH.MAP_ORG_N, LAH.MAP_W, LAH.MAP_H, LAH.MAP_BASE, LAH.IMP_ADDR16, LAH.IMP_CNT, LAH.IMP_GO, LAH.IMP_RESULT] ++
  [LAH.IMP_APPLIED, LAH.IMP_LASTSRC, LAH.IMP_TYPE, LAH.IMP_CURVE_COMP, LAH.IMP_FIRST_SEC, LAH.IMP_SEC_COUNT, LAH.IMP_DELAY_RATE_MS, LAH.IMP_RATE_IN_FORCE, LAH.IMP_RC_T1, LAH.IMP_RC_T2, LAH.IMP_RC_T3, LAH.IMP_RATE_VAL, LAH.IMP_RATE_MD_LO, LAH.IMP_RATE_MD_HI, LAH.IMP_RATE_GO, LAH.SEC_DELAY_ON_MS] ++
  [LAH.SEC_DELAY_OFF_MS, LAH.SEC_CMD, LAH.SEC_EFFECTIVE, LAH.SEC_STALLED, LAH.FLOOD_REQ, LAH.LAST_CAUSE, LAH.LAST_IMPL, LAH.LAST_REMOVED]

/-! SLU, chapter 06: SLU_CTL. -/
def SLU.EN : Fld := ⟨0x40050000, 1, 0x0, 1, 0x0, 0, 1, .rw, .both, fun _ => 0⟩
def SLU.CARSIL_PRESET : Fld := ⟨0x40050000, 1, 0x0, 1, 0x0, 1, 2, .rw, .both, fun _ => 0⟩

/-! SLU, chapter 06: SLU_STAT. -/
def SLU.OPEN : Fld := ⟨0x40050004, 1, 0x0, 1, 0x0, 0, 6, .ro, .both, fun _ => 0⟩
def SLU.CARSIL_READY : Fld := ⟨0x40050004, 1, 0x0, 1, 0x0, 8, 1, .ro, .both, fun _ => 0⟩
def SLU.CLAMPED : Fld := ⟨0x40050004, 1, 0x0, 1, 0x0, 30, 1, .w1c, .both, fun _ => 0⟩
def SLU.LOCKED_WRITE : Fld := ⟨0x40050004, 1, 0x0, 1, 0x0, 31, 1, .w1c, .both, fun _ => 0⟩

/-! SLU, chapter 06: SLU_EVT. -/
def SLU.EVT_COMMITTED : Fld := ⟨0x40050008, 1, 0x0, 1, 0x0, 0, 1, .w1c, .both, fun _ => 0⟩
def SLU.EVT_ABORTED : Fld := ⟨0x40050008, 1, 0x0, 1, 0x0, 1, 1, .w1c, .both, fun _ => 0⟩
def SLU.EVT_PARTIAL : Fld := ⟨0x40050008, 1, 0x0, 1, 0x0, 2, 1, .w1c, .both, fun _ => 0⟩
def SLU.EVT_INCOMPLETE : Fld := ⟨0x40050008, 1, 0x0, 1, 0x0, 3, 1, .w1c, .both, fun _ => 0⟩
def SLU.EVT_APPLIED_LATE : Fld := ⟨0x40050008, 1, 0x0, 1, 0x0, 4, 1, .w1c, .both, fun _ => 0⟩
def SLU.EVT_REFUSED : Fld := ⟨0x40050008, 1, 0x0, 1, 0x0, 5, 1, .w1c, .both, fun _ => 0⟩

/-! SLU, chapter 06: Arming and cancel. -/
def SLU.ARM_TGT_LO : Fld := ⟨0x40050010, 1, 0x0, 1, 0x0, 0, 32, .rw, .both, fun _ => 0⟩
def SLU.ARM_TGT_HI : Fld := ⟨0x40050014, 1, 0x0, 1, 0x0, 0, 32, .rw, .both, fun _ => 0⟩
def SLU.ARM_TEMPLATE : Fld := ⟨0x40050018, 1, 0x0, 1, 0x0, 0, 8, .wo, .both, fun _ => 0⟩
def SLU.ARM_GO : Fld := ⟨0x40050018, 1, 0x0, 1, 0x0, 31, 1, .wo, .both, fun _ => 0⟩
def SLU.ARM_INSTANCE : Fld := ⟨0x4005001C, 1, 0x0, 1, 0x0, 0, 16, .ro, .both, fun _ => 0⟩
def SLU.ARM_RESULT : Fld := ⟨0x4005001C, 1, 0x0, 1, 0x0, 16, 4, .ro, .both, fun _ => 0⟩
def SLU.CANCEL_TPL : Fld := ⟨0x40050020, 1, 0x0, 1, 0x0, 0, 8, .wo, .both, fun _ => 0⟩
def SLU.CANCEL_RESULT : Fld := ⟨0x40050024, 1, 0x0, 1, 0x0, 0, 2, .ro, .both, fun _ => 0⟩

/-! SLU, chapter 06: Timing. -/
def SLU.GRACE_US : Fld := ⟨0x40050030, 1, 0x0, 1, 0x0, 0, 16, .rws, .both, fun _ => 500⟩
def SLU.DECIDE_MARGIN_US : Fld := ⟨0x40050030, 1, 0x0, 1, 0x0, 16, 16, .rws, .both, fun _ => 1000⟩
def SLU.VOTE_WINDOWS : Fld := ⟨0x40050034, 1, 0x0, 1, 0x0, 0, 3, .rws, .both, fun _ => 1⟩
def SLU.OUTCOME_TRIES : Fld := ⟨0x40050034, 1, 0x0, 1, 0x0, 4, 3, .rws, .both, fun _ => 3⟩

/-! SLU, chapter 06: Counters. -/
def SLU.COMMITS : Fld := ⟨0x40050040, 1, 0x0, 1, 0x0, 0, 32, .ro, .both, fun _ => 0⟩
def SLU.ABORTS : Fld := ⟨0x40050044, 1, 0x0, 1, 0x0, 0, 32, .ro, .both, fun _ => 0⟩
def SLU.LATE_NODES : Fld := ⟨0x40050048, 1, 0x0, 1, 0x0, 0, 16, .ro, .both, fun _ => 0⟩
def SLU.UNKNOWN_NODES : Fld := ⟨0x40050048, 1, 0x0, 1, 0x0, 16, 16, .ro, .both, fun _ => 0⟩
def SLU.COMPENSATIONS : Fld := ⟨0x4005004C, 1, 0x0, 1, 0x0, 0, 16, .ro, .both, fun _ => 0⟩
def SLU.REFUSALS : Fld := ⟨0x4005004C, 1, 0x0, 1, 0x0, 16, 16, .ro, .both, fun _ => 0⟩

/-! SLU, chapter 06: Template registers. -/
def SLU.T_BUILT : Fld := ⟨0x40050400, 256, 0x10, 1, 0x0, 0, 1, .ro, .loader, fun _ => 0⟩
def SLU.T_COORD : Fld := ⟨0x40050400, 256, 0x10, 1, 0x0, 1, 1, .ro, .loader, fun _ => 0⟩
def SLU.T_N_ACT : Fld := ⟨0x40050400, 256, 0x10, 1, 0x0, 8, 7, .ro, .loader, fun _ => 0⟩
def SLU.T_N_COMP : Fld := ⟨0x40050400, 256, 0x10, 1, 0x0, 16, 7, .ro, .loader, fun _ => 0⟩
def SLU.T_N_NODES : Fld := ⟨0x40050400, 256, 0x10, 1, 0x0, 24, 5, .ro, .loader, fun _ => 0⟩
def SLU.T_MODE_MASK : Fld := ⟨0x40050400, 256, 0x10, 1, 0x0, 29, 3, .ro, .loader, fun _ => 7⟩
def SLU.T_PREP_LEAD : Fld := ⟨0x40050404, 256, 0x10, 1, 0x0, 0, 24, .rws, .both, fun _ => 0⟩
def SLU.T_STATE : Fld := ⟨0x40050408, 256, 0x10, 1, 0x0, 0, 4, .ro, .both, fun _ => 0⟩
def SLU.T_OUTCOME : Fld := ⟨0x40050408, 256, 0x10, 1, 0x0, 4, 4, .ro, .both, fun _ => 0⟩
def SLU.T_REASON : Fld := ⟨0x40050408, 256, 0x10, 1, 0x0, 8, 4, .ro, .both, fun _ => 0⟩
def SLU.T_INSTANCE : Fld := ⟨0x40050408, 256, 0x10, 1, 0x0, 16, 16, .ro, .both, fun _ => 0⟩
def SLU.T_NODE : Fld := ⟨0x4005040C, 256, 0x10, 1, 0x0, 0, 8, .ro, .both, fun _ => 0⟩
def SLU.T_N_LATE : Fld := ⟨0x4005040C, 256, 0x10, 1, 0x0, 8, 8, .ro, .both, fun _ => 0⟩

/-- Every field of SLU. -/
def SLU.fields : List Fld :=
  [SLU.EN, SLU.CARSIL_PRESET, SLU.OPEN, SLU.CARSIL_READY, SLU.CLAMPED, SLU.LOCKED_WRITE, SLU.EVT_COMMITTED, SLU.EVT_ABORTED, SLU.EVT_PARTIAL, SLU.EVT_INCOMPLETE, SLU.EVT_APPLIED_LATE, SLU.EVT_REFUSED, SLU.ARM_TGT_LO, SLU.ARM_TGT_HI, SLU.ARM_TEMPLATE, SLU.ARM_GO] ++
  [SLU.ARM_INSTANCE, SLU.ARM_RESULT, SLU.CANCEL_TPL, SLU.CANCEL_RESULT, SLU.GRACE_US, SLU.DECIDE_MARGIN_US, SLU.VOTE_WINDOWS, SLU.OUTCOME_TRIES, SLU.COMMITS, SLU.ABORTS, SLU.LATE_NODES, SLU.UNKNOWN_NODES, SLU.COMPENSATIONS, SLU.REFUSALS, SLU.T_BUILT, SLU.T_COORD] ++
  [SLU.T_N_ACT, SLU.T_N_COMP, SLU.T_N_NODES, SLU.T_MODE_MASK, SLU.T_PREP_LEAD, SLU.T_STATE, SLU.T_OUTCOME, SLU.T_REASON, SLU.T_INSTANCE, SLU.T_NODE, SLU.T_N_LATE]

/-! CTL, chapter 07: CTL_CTL. -/
def CTL.EN : Fld := ⟨0x40060000, 1, 0x0, 1, 0x0, 0, 1, .rw, .both, fun _ => 0⟩

/-! CTL, chapter 07: CTL_STAT. -/
def CTL.RUNNING : Fld := ⟨0x40060004, 1, 0x0, 1, 0x0, 0, 9, .ro, .both, fun _ => 0⟩
def CTL.NOT_RUN : Fld := ⟨0x40060004, 1, 0x0, 1, 0x0, 9, 9, .ro, .both, fun _ => 0⟩
def CTL.CLAMPED : Fld := ⟨0x40060004, 1, 0x0, 1, 0x0, 30, 1, .w1c, .both, fun _ => 0⟩
def CTL.LOCKED_WRITE : Fld := ⟨0x40060004, 1, 0x0, 1, 0x0, 31, 1, .w1c, .both, fun _ => 0⟩

/-! CTL, chapter 07: CTL_EVT. -/
def CTL.EVT_FE_FIRED : Fld := ⟨0x40060008, 1, 0x0, 1, 0x0, 0, 1, .w1c, .both, fun _ => 0⟩
def CTL.EVT_INPUT_LOST : Fld := ⟨0x40060008, 1, 0x0, 1, 0x0, 1, 1, .w1c, .both, fun _ => 0⟩
def CTL.EVT_REGION : Fld := ⟨0x40060008, 1, 0x0, 1, 0x0, 2, 1, .w1c, .both, fun _ => 0⟩
def CTL.EVT_SAT : Fld := ⟨0x40060008, 1, 0x0, 1, 0x0, 3, 1, .w1c, .both, fun _ => 0⟩
def CTL.EVT_OVERRUN : Fld := ⟨0x40060008, 1, 0x0, 1, 0x0, 4, 1, .w1c, .both, fun _ => 0⟩
def CTL.EVT_RELOAD : Fld := ⟨0x40060008, 1, 0x0, 1, 0x0, 5, 1, .w1c, .both, fun _ => 0⟩

/-! CTL, chapter 07: Slot registers. -/
def CTL.S_EN : Fld := ⟨0x40061000, 256, 0x40, 1, 0x0, 0, 1, .rw, .both, fun _ => 0⟩
def CTL.S_SUP_PRESET : Fld := ⟨0x40061000, 256, 0x40, 1, 0x0, 1, 2, .rw, .both, fun _ => 0⟩
def CTL.S_NOTCH_POS : Fld := ⟨0x40061000, 256, 0x40, 1, 0x0, 3, 1, .rwl, .both, fun _ => 0⟩
def CTL.S_FE_ACTION : Fld := ⟨0x40061000, 256, 0x40, 1, 0x0, 4, 2, .rws, .both, fun _ => 0⟩
def CTL.S_FF_LOSS : Fld := ⟨0x40061000, 256, 0x40, 1, 0x0, 6, 1, .rws, .both, fun _ => 0⟩
def CTL.S_RESUME : Fld := ⟨0x40061000, 256, 0x40, 1, 0x0, 8, 1, .wo, .both, fun _ => 0⟩
def CTL.S_DIV : Fld := ⟨0x40061004, 256, 0x40, 1, 0x0, 0, 11, .ro, .loader, fun _ => 0⟩
def CTL.S_PHASE : Fld := ⟨0x40061004, 256, 0x40, 1, 0x0, 11, 10, .ro, .loader, fun _ => 0⟩
def CTL.S_PROC : Fld := ⟨0x40061004, 256, 0x40, 1, 0x0, 21, 1, .ro, .loader, fun _ => 0⟩
def CTL.S_TRIP_GROUP : Fld := ⟨0x40061004, 256, 0x40, 1, 0x0, 22, 4, .ro, .loader, fun _ => 0⟩
def CTL.S_TEMPLATE : Fld := ⟨0x40061004, 256, 0x40, 1, 0x0, 26, 4, .ro, .loader, fun _ => 0⟩
def CTL.S_BUILT : Fld := ⟨0x40061004, 256, 0x40, 1, 0x0, 31, 1, .ro, .loader, fun _ => 0⟩
def CTL.S_SP : Fld := ⟨0x40061008, 256, 0x40, 1, 0x0, 0, 16, .rw, .both, fun _ => 0⟩
def CTL.S_SP_RATE : Fld := ⟨0x40061008, 256, 0x40, 1, 0x0, 16, 16, .rws, .both, fun _ => 0⟩
def CTL.S_OUT_MIN : Fld := ⟨0x4006100C, 256, 0x40, 1, 0x0, 0, 16, .rws, .both, fun _ => 32768⟩
def CTL.S_OUT_MAX : Fld := ⟨0x4006100C, 256, 0x40, 1, 0x0, 16, 16, .rws, .both, fun _ => 32767⟩
def CTL.S_OUT_RATE : Fld := ⟨0x40061010, 256, 0x40, 1, 0x0, 0, 16, .rws, .both, fun _ => 0⟩
def CTL.S_SAFE_VAL : Fld := ⟨0x40061010, 256, 0x40, 1, 0x0, 16, 16, .rws, .both, fun _ => 0⟩
def CTL.S_FE_LIMIT : Fld := ⟨0x40061014, 256, 0x40, 1, 0x0, 0, 16, .rws, .both, fun _ => 3277⟩
def CTL.S_FE_TIME_MS : Fld := ⟨0x40061014, 256, 0x40, 1, 0x0, 16, 16, .rws, .both, fun _ => 500⟩
def CTL.S_RAMP_STEP : Fld := ⟨0x40061018, 256, 0x40, 1, 0x0, 0, 16, .rws, .both, fun _ => 82⟩
def CTL.S_BLEND_N : Fld := ⟨0x40061018, 256, 0x40, 1, 0x0, 16, 8, .rws, .both, fun _ => 16⟩
def CTL.S_HYST : Fld := ⟨0x4006101C, 256, 0x40, 1, 0x0, 0, 16, .rws, .both, fun _ => 0⟩
def CTL.S_DA : Fld := ⟨0x4006101C, 256, 0x40, 1, 0x0, 16, 16, .rws, .both, fun _ => 0⟩
def CTL.S_STATE : Fld := ⟨0x40061020, 256, 0x40, 1, 0x0, 0, 3, .ro, .both, fun _ => 0⟩
def CTL.S_REGION : Fld := ⟨0x40061020, 256, 0x40, 1, 0x0, 4, 3, .ro, .both, fun _ => 0⟩
def CTL.S_BLENDING : Fld := ⟨0x40061020, 256, 0x40, 1, 0x0, 7, 1, .ro, .both, fun _ => 0⟩
def CTL.S_SAT_HI : Fld := ⟨0x40061020, 256, 0x40, 1, 0x0, 8, 1, .ro, .both, fun _ => 0⟩
def CTL.S_SAT_LO : Fld := ⟨0x40061020, 256, 0x40, 1, 0x0, 9, 1, .ro, .both, fun _ => 0⟩
def CTL.S_PV_LOST : Fld := ⟨0x40061020, 256, 0x40, 1, 0x0, 10, 1, .ro, .both, fun _ => 0⟩
def CTL.S_SP_LOST : Fld := ⟨0x40061020, 256, 0x40, 1, 0x0, 11, 1, .ro, .both, fun _ => 0⟩
def CTL.S_FF_LOST : Fld := ⟨0x40061020, 256, 0x40, 1, 0x0, 12, 1, .ro, .both, fun _ => 0⟩
def CTL.S_SCHED_LOST : Fld := ⟨0x40061020, 256, 0x40, 1, 0x0, 13, 1, .ro, .both, fun _ => 0⟩
def CTL.S_GATED : Fld := ⟨0x40061020, 256, 0x40, 1, 0x0, 14, 1, .ro, .both, fun _ => 0⟩
def CTL.S_ACC_SAT : Fld := ⟨0x40061020, 256, 0x40, 1, 0x0, 15, 1, .w1c, .both, fun _ => 0⟩
def CTL.S_RESUME_REFUSED : Fld := ⟨0x40061020, 256, 0x40, 1, 0x0, 16, 1, .w1c, .both, fun _ => 0⟩
def CTL.S_OUT : Fld := ⟨0x40061024, 256, 0x40, 1, 0x0, 0, 16, .ro, .both, fun _ => 0⟩
def CTL.S_ERR : Fld := ⟨0x40061024, 256, 0x40, 1, 0x0, 16, 16, .ro, .both, fun _ => 0⟩
def CTL.S_I_LO : Fld := ⟨0x40061028, 256, 0x40, 1, 0x0, 0, 32, .ro, .both, fun _ => 0⟩
def CTL.S_I_HI : Fld := ⟨0x4006102C, 256, 0x40, 1, 0x0, 0, 8, .ro, .both, fun _ => 0⟩
def CTL.S_FE_COUNT : Fld := ⟨0x40061030, 256, 0x40, 1, 0x0, 0, 16, .ro, .both, fun _ => 0⟩
def CTL.S_REGION_CHANGES : Fld := ⟨0x40061030, 256, 0x40, 1, 0x0, 16, 16, .ro, .both, fun _ => 0⟩
def CTL.S_SP_GAIN_M : Fld := ⟨0x40061034, 256, 0x40, 1, 0x0, 0, 16, .rws, .both, fun _ => 16384⟩
def CTL.S_SP_GAIN_E : Fld := ⟨0x40061034, 256, 0x40, 1, 0x0, 16, 4, .rws, .both, fun _ => 1⟩
def CTL.S_FF_MAX : Fld := ⟨0x40061038, 256, 0x40, 1, 0x0, 0, 16, .rws, .both, fun _ => 32767⟩
def CTL.S_OUT_DST : Fld := ⟨0x4006103C, 256, 0x40, 1, 0x0, 0, 17, .ro, .loader, fun _ => 0⟩
def CTL.S_OUT_U16 : Fld := ⟨0x4006103C, 256, 0x40, 1, 0x0, 17, 1, .ro, .loader, fun _ => 0⟩

/-! CTL, chapter 07: Notch registers. -/
def CTL.N1_B0 : Fld := ⟨0x40065000, 256, 0x20, 1, 0x0, 0, 16, .rws, .both, fun _ => 0⟩
def CTL.N1_B1 : Fld := ⟨0x40065000, 256, 0x20, 1, 0x0, 16, 16, .rws, .both, fun _ => 0⟩
def CTL.N1_B2 : Fld := ⟨0x40065004, 256, 0x20, 1, 0x0, 0, 16, .rws, .both, fun _ => 0⟩
def CTL.N1_A1 : Fld := ⟨0x40065004, 256, 0x20, 1, 0x0, 16, 16, .rws, .both, fun _ => 0⟩
def CTL.N1_A2 : Fld := ⟨0x40065008, 256, 0x20, 1, 0x0, 0, 16, .rws, .both, fun _ => 0⟩
def CTL.N1_EN : Fld := ⟨0x40065008, 256, 0x20, 1, 0x0, 16, 1, .rws, .both, fun _ => 0⟩

/-! CTL, chapter 07: Source registers. -/
def CTL.PV_SRC : Fld := ⟨0x40067000, 256, 0x10, 1, 0x0, 0, 17, .ro, .loader, fun _ => 0⟩
def CTL.SP_SRC : Fld := ⟨0x40067004, 256, 0x10, 1, 0x0, 0, 17, .ro, .loader, fun _ => 0⟩
def CTL.SP_PT : Fld := ⟨0x40067004, 256, 0x10, 1, 0x0, 31, 1, .ro, .loader, fun _ => 0⟩
def CTL.FF_SRC : Fld := ⟨0x40067008, 256, 0x10, 1, 0x0, 0, 17, .ro, .loader, fun _ => 0⟩
def CTL.FF_USED : Fld := ⟨0x40067008, 256, 0x10, 1, 0x0, 31, 1, .ro, .loader, fun _ => 0⟩
def CTL.SCHED_SRC : Fld := ⟨0x4006700C, 256, 0x10, 1, 0x0, 0, 17, .ro, .loader, fun _ => 0⟩
def CTL.SCHED_USED : Fld := ⟨0x4006700C, 256, 0x10, 1, 0x0, 31, 1, .ro, .loader, fun _ => 0⟩

/-! CTL, chapter 07: Gain table. -/
def CTL.G_KP_M : Fld := ⟨0x40068000, 256, 0x80, 8, 0x10, 0, 16, .rws, .both, fun _ => 0⟩
def CTL.G_KI_M : Fld := ⟨0x40068000, 256, 0x80, 8, 0x10, 16, 16, .rws, .both, fun _ => 0⟩
def CTL.G_KD_M : Fld := ⟨0x40068004, 256, 0x80, 8, 0x10, 0, 16, .rws, .both, fun _ => 0⟩
def CTL.G_KFF_M : Fld := ⟨0x40068004, 256, 0x80, 8, 0x10, 16, 16, .rws, .both, fun _ => 0⟩
def CTL.G_KP_E : Fld := ⟨0x40068008, 256, 0x80, 8, 0x10, 0, 4, .rws, .both, fun _ => 0⟩
def CTL.G_KI_E : Fld := ⟨0x40068008, 256, 0x80, 8, 0x10, 4, 4, .rws, .both, fun _ => 0⟩
def CTL.G_KD_E : Fld := ⟨0x40068008, 256, 0x80, 8, 0x10, 8, 4, .rws, .both, fun _ => 0⟩
def CTL.G_KFF_E : Fld := ⟨0x40068008, 256, 0x80, 8, 0x10, 12, 4, .rws, .both, fun _ => 0⟩
def CTL.G_BOUND : Fld := ⟨0x40068008, 256, 0x80, 8, 0x10, 16, 16, .rws, .both, fun i => if i % 8 = 0 then 0 else 0x7FFF⟩

/-! CTL, chapter 07: CTL_LOAD. -/
def CTL.PEAK0 : Fld := ⟨0x4006000C, 1, 0x0, 1, 0x0, 0, 16, .ro, .both, fun _ => 0⟩
def CTL.PEAK1 : Fld := ⟨0x4006000C, 1, 0x0, 1, 0x0, 16, 16, .ro, .both, fun _ => 0⟩

/-! CTL, chapter 07: CTL_OVERRUNS. -/
def CTL.OVERRUNS : Fld := ⟨0x40060010, 1, 0x0, 1, 0x0, 0, 32, .ro, .both, fun _ => 0⟩

/-! CTL, chapter 07: CTL_TRIP. -/
def CTL.TRIP : Fld := ⟨0x40060014, 1, 0x0, 1, 0x0, 0, 15, .wo, .both, fun _ => 0⟩

/-! CTL, chapter 07: CTL_TRIP_STAT. -/
def CTL.TRIPPED : Fld := ⟨0x40060018, 1, 0x0, 1, 0x0, 0, 15, .ro, .both, fun _ => 0⟩

/-! CTL, chapter 07: Notch registers. -/
def CTL.N2_B0 : Fld := ⟨0x4006500C, 256, 0x20, 1, 0x0, 0, 16, .rws, .both, fun _ => 0⟩
def CTL.N2_B1 : Fld := ⟨0x4006500C, 256, 0x20, 1, 0x0, 16, 16, .rws, .both, fun _ => 0⟩
def CTL.N2_B2 : Fld := ⟨0x40065010, 256, 0x20, 1, 0x0, 0, 16, .rws, .both, fun _ => 0⟩
def CTL.N2_A1 : Fld := ⟨0x40065010, 256, 0x20, 1, 0x0, 16, 16, .rws, .both, fun _ => 0⟩
def CTL.N2_A2 : Fld := ⟨0x40065014, 256, 0x20, 1, 0x0, 0, 16, .rws, .both, fun _ => 0⟩
def CTL.N2_EN : Fld := ⟨0x40065014, 256, 0x20, 1, 0x0, 16, 1, .rws, .both, fun _ => 0⟩

/-- Every field of CTL. -/
def CTL.fields : List Fld :=
  [CTL.EN, CTL.RUNNING, CTL.NOT_RUN, CTL.CLAMPED, CTL.LOCKED_WRITE, CTL.EVT_FE_FIRED, CTL.EVT_INPUT_LOST, CTL.EVT_REGION, CTL.EVT_SAT, CTL.EVT_OVERRUN, CTL.EVT_RELOAD, CTL.S_EN, CTL.S_SUP_PRESET, CTL.S_NOTCH_POS, CTL.S_FE_ACTION, CTL.S_FF_LOSS] ++
  [CTL.S_RESUME, CTL.S_DIV, CTL.S_PHASE, CTL.S_PROC, CTL.S_TRIP_GROUP, CTL.S_TEMPLATE, CTL.S_BUILT, CTL.S_SP, CTL.S_SP_RATE, CTL.S_OUT_MIN, CTL.S_OUT_MAX, CTL.S_OUT_RATE, CTL.S_SAFE_VAL, CTL.S_FE_LIMIT, CTL.S_FE_TIME_MS, CTL.S_RAMP_STEP] ++
  [CTL.S_BLEND_N, CTL.S_HYST, CTL.S_DA, CTL.S_STATE, CTL.S_REGION, CTL.S_BLENDING, CTL.S_SAT_HI, CTL.S_SAT_LO, CTL.S_PV_LOST, CTL.S_SP_LOST, CTL.S_FF_LOST, CTL.S_SCHED_LOST, CTL.S_GATED, CTL.S_ACC_SAT, CTL.S_RESUME_REFUSED, CTL.S_OUT] ++
  [CTL.S_ERR, CTL.S_I_LO, CTL.S_I_HI, CTL.S_FE_COUNT, CTL.S_REGION_CHANGES, CTL.S_SP_GAIN_M, CTL.S_SP_GAIN_E, CTL.S_FF_MAX, CTL.S_OUT_DST, CTL.S_OUT_U16, CTL.N1_B0, CTL.N1_B1, CTL.N1_B2, CTL.N1_A1, CTL.N1_A2, CTL.N1_EN] ++
  [CTL.PV_SRC, CTL.SP_SRC, CTL.SP_PT, CTL.FF_SRC, CTL.FF_USED, CTL.SCHED_SRC, CTL.SCHED_USED, CTL.G_KP_M, CTL.G_KI_M, CTL.G_KD_M, CTL.G_KFF_M, CTL.G_KP_E, CTL.G_KI_E, CTL.G_KD_E, CTL.G_KFF_E, CTL.G_BOUND] ++
  [CTL.PEAK0, CTL.PEAK1, CTL.OVERRUNS, CTL.TRIP, CTL.TRIPPED, CTL.N2_B0, CTL.N2_B1, CTL.N2_B2, CTL.N2_A1, CTL.N2_A2, CTL.N2_EN]

end Sys2Proof.Machine
end

