-- ==== Sys2Proof/Machine/RegsPlant.lean ====
section
/-! DEFINITION. Machine/RegsPlant.lean: the register fields of LSW, VDR, FIO, BLW, CAN, ETH, from the register maps of their chapters. -/

namespace Sys2Proof.Machine

/-! LSW, chapter 11: LSW_STAT. -/
def LSW.ANY_HELD : Fld := ⟨0x400A0004, 1, 0x0, 1, 0x0, 0, 1, .ro, .both, fun _ => 0⟩
def LSW.GOV_A : Fld := ⟨0x400A0004, 1, 0x0, 1, 0x0, 1, 1, .ro, .both, fun _ => 0⟩
def LSW.GOV_B : Fld := ⟨0x400A0004, 1, 0x0, 1, 0x0, 2, 1, .ro, .both, fun _ => 0⟩
def LSW.GOV_P : Fld := ⟨0x400A0004, 1, 0x0, 1, 0x0, 3, 1, .ro, .both, fun _ => 0⟩
def LSW.CLAMPED : Fld := ⟨0x400A0004, 1, 0x0, 1, 0x0, 30, 1, .w1c, .both, fun _ => 0⟩
def LSW.LOCKED_WRITE : Fld := ⟨0x400A0004, 1, 0x0, 1, 0x0, 31, 1, .w1c, .both, fun _ => 0⟩

/-! LSW, chapter 11: LSW_EVT. -/
def LSW.EVT_SHORT : Fld := ⟨0x400A0008, 1, 0x0, 1, 0x0, 0, 1, .w1c, .both, fun _ => 0⟩
def LSW.EVT_INRUSH_FAIL : Fld := ⟨0x400A0008, 1, 0x0, 1, 0x0, 1, 1, .w1c, .both, fun _ => 0⟩
def LSW.EVT_FUSE : Fld := ⟨0x400A0008, 1, 0x0, 1, 0x0, 2, 1, .w1c, .both, fun _ => 0⟩
def LSW.EVT_THERMAL : Fld := ⟨0x400A0008, 1, 0x0, 1, 0x0, 3, 1, .w1c, .both, fun _ => 0⟩
def LSW.EVT_CLAMP_HIGH : Fld := ⟨0x400A0008, 1, 0x0, 1, 0x0, 4, 1, .w1c, .both, fun _ => 0⟩
def LSW.EVT_OPEN_LOAD : Fld := ⟨0x400A0008, 1, 0x0, 1, 0x0, 5, 1, .w1c, .both, fun _ => 0⟩
def LSW.EVT_SHORT_TO_BAT : Fld := ⟨0x400A0008, 1, 0x0, 1, 0x0, 6, 1, .w1c, .both, fun _ => 0⟩
def LSW.EVT_UNDERVOLT : Fld := ⟨0x400A0008, 1, 0x0, 1, 0x0, 7, 1, .w1c, .both, fun _ => 0⟩
def LSW.EVT_SHED : Fld := ⟨0x400A0008, 1, 0x0, 1, 0x0, 8, 1, .w1c, .both, fun _ => 0⟩
def LSW.EVT_RESTORED : Fld := ⟨0x400A0008, 1, 0x0, 1, 0x0, 9, 1, .w1c, .both, fun _ => 0⟩
def LSW.EVT_GOV_OVER : Fld := ⟨0x400A0008, 1, 0x0, 1, 0x0, 10, 1, .w1c, .both, fun _ => 0⟩
def LSW.EVT_SYMPATHETIC : Fld := ⟨0x400A0008, 1, 0x0, 1, 0x0, 11, 1, .w1c, .both, fun _ => 0⟩
def LSW.EVT_DEFERRED : Fld := ⟨0x400A0008, 1, 0x0, 1, 0x0, 12, 1, .w1c, .both, fun _ => 0⟩
def LSW.EVT_ON_REFUSED : Fld := ⟨0x400A0008, 1, 0x0, 1, 0x0, 13, 1, .w1c, .both, fun _ => 0⟩

/-! LSW, chapter 11: Gates, governor and summaries. -/
def LSW.GATE_LO : Fld := ⟨0x400A000C, 1, 0x0, 1, 0x0, 0, 32, .rw, .shoit, fun _ => 0⟩
def LSW.GATE_HI : Fld := ⟨0x400A0010, 1, 0x0, 1, 0x0, 0, 32, .rw, .shoit, fun _ => 0⟩
def LSW.GOV_TIME_MS : Fld := ⟨0x400A0014, 1, 0x0, 1, 0x0, 0, 8, .rws, .both, fun _ => 10⟩
def LSW.GOV_RESTORE_MS : Fld := ⟨0x400A0014, 1, 0x0, 1, 0x0, 16, 16, .rws, .both, fun _ => 1000⟩
def LSW.IA : Fld := ⟨0x400A0018, 1, 0x0, 1, 0x0, 0, 16, .ro, .both, fun _ => 0⟩
def LSW.IB : Fld := ⟨0x400A0018, 1, 0x0, 1, 0x0, 16, 16, .ro, .both, fun _ => 0⟩
def LSW.PSW : Fld := ⟨0x400A001C, 1, 0x0, 1, 0x0, 0, 16, .ro, .both, fun _ => 0⟩
def LSW.SHED_N : Fld := ⟨0x400A001C, 1, 0x0, 1, 0x0, 16, 7, .ro, .both, fun _ => 0⟩
def LSW.ON_LO : Fld := ⟨0x400A0020, 1, 0x0, 1, 0x0, 0, 32, .ro, .both, fun _ => 0⟩
def LSW.ON_HI : Fld := ⟨0x400A0024, 1, 0x0, 1, 0x0, 0, 32, .ro, .both, fun _ => 0⟩
def LSW.HELD_LO : Fld := ⟨0x400A0028, 1, 0x0, 1, 0x0, 0, 32, .ro, .both, fun _ => 0⟩
def LSW.HELD_HI : Fld := ⟨0x400A002C, 1, 0x0, 1, 0x0, 0, 32, .ro, .both, fun _ => 0⟩

/-! LSW, chapter 11: Channel registers. -/
def LSW.CH_CMD : Fld := ⟨0x400A1000, 64, 0x20, 1, 0x0, 0, 1, .rw, .both, fun _ => 0⟩
def LSW.CH_REARM : Fld := ⟨0x400A1000, 64, 0x20, 1, 0x0, 1, 1, .wo, .both, fun _ => 0⟩
def LSW.CH_LOAD_PRESET : Fld := ⟨0x400A1000, 64, 0x20, 1, 0x0, 2, 2, .rw, .both, fun _ => 0⟩
def LSW.CH_INRUSH_MODE : Fld := ⟨0x400A1000, 64, 0x20, 1, 0x0, 4, 2, .rws, .both, fun _ => 0⟩
def LSW.CH_SLEW_STEP : Fld := ⟨0x400A1000, 64, 0x20, 1, 0x0, 6, 4, .rws, .both, fun _ => 15⟩
def LSW.CH_LAMP_RETRIES : Fld := ⟨0x400A1000, 64, 0x20, 1, 0x0, 10, 5, .rws, .both, fun _ => 0⟩
def LSW.CH_LAMP_SPACE : Fld := ⟨0x400A1000, 64, 0x20, 1, 0x0, 15, 3, .rws, .both, fun _ => 0⟩
def LSW.CH_LAMP_WIN_MS : Fld := ⟨0x400A1000, 64, 0x20, 1, 0x0, 18, 8, .rws, .both, fun _ => 1⟩
def LSW.CH_THERM_RESTARTS : Fld := ⟨0x400A1000, 64, 0x20, 1, 0x0, 26, 3, .rws, .both, fun _ => 3⟩
def LSW.CH_OFF_DIAG : Fld := ⟨0x400A1000, 64, 0x20, 1, 0x0, 29, 1, .rws, .both, fun _ => 0⟩
def LSW.CH_OL_ON_MA : Fld := ⟨0x400A1004, 64, 0x20, 1, 0x0, 0, 16, .rws, .both, fun _ => 50⟩
def LSW.CH_H_START : Fld := ⟨0x400A1004, 64, 0x20, 1, 0x0, 16, 16, .ro, .loader, fun _ => 0⟩
def LSW.CH_STATE : Fld := ⟨0x400A1008, 64, 0x20, 1, 0x0, 0, 4, .ro, .both, fun _ => 0⟩
def LSW.CH_CAUSE : Fld := ⟨0x400A1008, 64, 0x20, 1, 0x0, 4, 7, .ro, .both, fun _ => 0⟩
def LSW.CH_RETRIES_USED : Fld := ⟨0x400A1008, 64, 0x20, 1, 0x0, 12, 5, .ro, .both, fun _ => 0⟩
def LSW.CH_SYMP_USED : Fld := ⟨0x400A1008, 64, 0x20, 1, 0x0, 17, 2, .ro, .both, fun _ => 0⟩
def LSW.CH_THERM_USED : Fld := ⟨0x400A1008, 64, 0x20, 1, 0x0, 19, 3, .ro, .both, fun _ => 0⟩
def LSW.CH_OPEN_LOAD : Fld := ⟨0x400A1008, 64, 0x20, 1, 0x0, 22, 1, .ro, .both, fun _ => 0⟩
def LSW.CH_SHORT_TO_BAT : Fld := ⟨0x400A1008, 64, 0x20, 1, 0x0, 23, 1, .ro, .both, fun _ => 0⟩
def LSW.CH_DEFERRED : Fld := ⟨0x400A1008, 64, 0x20, 1, 0x0, 24, 1, .ro, .both, fun _ => 0⟩
def LSW.CH_GATED : Fld := ⟨0x400A1008, 64, 0x20, 1, 0x0, 25, 1, .ro, .both, fun _ => 0⟩
def LSW.CH_ON_REFUSED : Fld := ⟨0x400A1008, 64, 0x20, 1, 0x0, 26, 1, .w1c, .both, fun _ => 0⟩
def LSW.CH_I_MEAS : Fld := ⟨0x400A100C, 64, 0x20, 1, 0x0, 0, 16, .ro, .both, fun _ => 0⟩
def LSW.CH_RON : Fld := ⟨0x400A100C, 64, 0x20, 1, 0x0, 16, 16, .ro, .both, fun _ => 0⟩
def LSW.CH_H : Fld := ⟨0x400A1010, 64, 0x20, 1, 0x0, 0, 16, .ro, .both, fun _ => 0⟩
def LSW.CH_TJ : Fld := ⟨0x400A1010, 64, 0x20, 1, 0x0, 16, 16, .ro, .both, fun _ => 0⟩
def LSW.CH_E_LAST : Fld := ⟨0x400A1014, 64, 0x20, 1, 0x0, 0, 16, .ro, .both, fun _ => 0⟩
def LSW.CH_P_CLAMP : Fld := ⟨0x400A1014, 64, 0x20, 1, 0x0, 16, 16, .ro, .both, fun _ => 0⟩
def LSW.CH_TRIPS : Fld := ⟨0x400A1018, 64, 0x20, 1, 0x0, 0, 16, .ro, .both, fun _ => 0⟩
def LSW.CH_SHEDS : Fld := ⟨0x400A1018, 64, 0x20, 1, 0x0, 16, 16, .ro, .both, fun _ => 0⟩
def LSW.CH_XSEC : Fld := ⟨0x400A101C, 64, 0x20, 1, 0x0, 0, 3, .ro, .loader, fun _ => 0⟩
def LSW.CH_INSUL : Fld := ⟨0x400A101C, 64, 0x20, 1, 0x0, 3, 2, .ro, .loader, fun _ => 0⟩
def LSW.CH_SHED_PRIO : Fld := ⟨0x400A101C, 64, 0x20, 1, 0x0, 5, 4, .ro, .loader, fun _ => 0⟩
def LSW.CH_SAFE_STATE : Fld := ⟨0x400A101C, 64, 0x20, 1, 0x0, 9, 1, .ro, .loader, fun _ => 0⟩
def LSW.CH_HEAVY : Fld := ⟨0x400A101C, 64, 0x20, 1, 0x0, 10, 1, .ro, .loader, fun n => if n < 16 then 1 else 0⟩
def LSW.CH_INPUT : Fld := ⟨0x400A101C, 64, 0x20, 1, 0x0, 11, 1, .ro, .loader, fun n => if (8 ≤ n ∧ n < 16) ∨ 40 ≤ n then 1 else 0⟩
def LSW.CH_BUILT : Fld := ⟨0x400A101C, 64, 0x20, 1, 0x0, 31, 1, .ro, .loader, fun _ => 0⟩

/-- Every field of LSW. -/
def LSW.fields : List Fld :=
  [LSW.ANY_HELD, LSW.GOV_A, LSW.GOV_B, LSW.GOV_P, LSW.CLAMPED, LSW.LOCKED_WRITE, LSW.EVT_SHORT, LSW.EVT_INRUSH_FAIL, LSW.EVT_FUSE, LSW.EVT_THERMAL, LSW.EVT_CLAMP_HIGH, LSW.EVT_OPEN_LOAD, LSW.EVT_SHORT_TO_BAT, LSW.EVT_UNDERVOLT, LSW.EVT_SHED, LSW.EVT_RESTORED] ++
  [LSW.EVT_GOV_OVER, LSW.EVT_SYMPATHETIC, LSW.EVT_DEFERRED, LSW.EVT_ON_REFUSED, LSW.GATE_LO, LSW.GATE_HI, LSW.GOV_TIME_MS, LSW.GOV_RESTORE_MS, LSW.IA, LSW.IB, LSW.PSW, LSW.SHED_N, LSW.ON_LO, LSW.ON_HI, LSW.HELD_LO, LSW.HELD_HI] ++
  [LSW.CH_CMD, LSW.CH_REARM, LSW.CH_LOAD_PRESET, LSW.CH_INRUSH_MODE, LSW.CH_SLEW_STEP, LSW.CH_LAMP_RETRIES, LSW.CH_LAMP_SPACE, LSW.CH_LAMP_WIN_MS, LSW.CH_THERM_RESTARTS, LSW.CH_OFF_DIAG, LSW.CH_OL_ON_MA, LSW.CH_H_START, LSW.CH_STATE, LSW.CH_CAUSE, LSW.CH_RETRIES_USED, LSW.CH_SYMP_USED] ++
  [LSW.CH_THERM_USED, LSW.CH_OPEN_LOAD, LSW.CH_SHORT_TO_BAT, LSW.CH_DEFERRED, LSW.CH_GATED, LSW.CH_ON_REFUSED, LSW.CH_I_MEAS, LSW.CH_RON, LSW.CH_H, LSW.CH_TJ, LSW.CH_E_LAST, LSW.CH_P_CLAMP, LSW.CH_TRIPS, LSW.CH_SHEDS, LSW.CH_XSEC, LSW.CH_INSUL] ++
  [LSW.CH_SHED_PRIO, LSW.CH_SAFE_STATE, LSW.CH_HEAVY, LSW.CH_INPUT, LSW.CH_BUILT]

/-! VDR, chapter 12: VDR_CTL. -/
def VDR.EN : Fld := ⟨0x400B0000, 1, 0x0, 1, 0x0, 0, 1, .rw, .both, fun _ => 0⟩
def VDR.NM600_MODE : Fld := ⟨0x400B0000, 1, 0x0, 1, 0x0, 1, 1, .rwl, .both, fun _ => 0⟩

/-! VDR, chapter 12: VDR_STAT. -/
def VDR.BOOST_READY : Fld := ⟨0x400B0004, 1, 0x0, 1, 0x0, 0, 1, .ro, .both, fun _ => 0⟩
def VDR.BOOST_LOW : Fld := ⟨0x400B0004, 1, 0x0, 1, 0x0, 1, 1, .ro, .both, fun _ => 0⟩
def VDR.BOOST_OV : Fld := ⟨0x400B0004, 1, 0x0, 1, 0x0, 2, 1, .ro, .both, fun _ => 0⟩
def VDR.ANY_LATCHED : Fld := ⟨0x400B0004, 1, 0x0, 1, 0x0, 3, 1, .ro, .both, fun _ => 0⟩
def VDR.CLAMPED : Fld := ⟨0x400B0004, 1, 0x0, 1, 0x0, 30, 1, .w1c, .both, fun _ => 0⟩
def VDR.LOCKED_WRITE : Fld := ⟨0x400B0004, 1, 0x0, 1, 0x0, 31, 1, .w1c, .both, fun _ => 0⟩

/-! VDR, chapter 12: VDR_EVT. -/
def VDR.EVT_SHORT : Fld := ⟨0x400B0008, 1, 0x0, 1, 0x0, 0, 1, .w1c, .both, fun _ => 0⟩
def VDR.EVT_OPEN : Fld := ⟨0x400B0008, 1, 0x0, 1, 0x0, 1, 1, .w1c, .both, fun _ => 0⟩
def VDR.EVT_TTP_LOW : Fld := ⟨0x400B0008, 1, 0x0, 1, 0x0, 2, 1, .w1c, .both, fun _ => 0⟩
def VDR.EVT_TTP_HIGH : Fld := ⟨0x400B0008, 1, 0x0, 1, 0x0, 3, 1, .w1c, .both, fun _ => 0⟩
def VDR.EVT_THERMAL : Fld := ⟨0x400B0008, 1, 0x0, 1, 0x0, 4, 1, .w1c, .both, fun _ => 0⟩
def VDR.EVT_STARVE : Fld := ⟨0x400B0008, 1, 0x0, 1, 0x0, 5, 1, .w1c, .both, fun _ => 0⟩
def VDR.EVT_CLOSE_MISSING : Fld := ⟨0x400B0008, 1, 0x0, 1, 0x0, 6, 1, .w1c, .both, fun _ => 0⟩
def VDR.EVT_CLAMP_HIGH : Fld := ⟨0x400B0008, 1, 0x0, 1, 0x0, 7, 1, .w1c, .both, fun _ => 0⟩
def VDR.EVT_BOOST_LOW : Fld := ⟨0x400B0008, 1, 0x0, 1, 0x0, 8, 1, .w1c, .both, fun _ => 0⟩
def VDR.EVT_BOOST_OV : Fld := ⟨0x400B0008, 1, 0x0, 1, 0x0, 9, 1, .w1c, .both, fun _ => 0⟩
def VDR.EVT_START_REFUSED : Fld := ⟨0x400B0008, 1, 0x0, 1, 0x0, 10, 1, .w1c, .both, fun _ => 0⟩
def VDR.EVT_DEMAND_LOST : Fld := ⟨0x400B0008, 1, 0x0, 1, 0x0, 11, 1, .w1c, .both, fun _ => 0⟩
def VDR.EVT_RUN_END : Fld := ⟨0x400B0008, 1, 0x0, 1, 0x0, 12, 1, .w1c, .both, fun _ => 0⟩

/-! VDR, chapter 12: Gates, boost, banks and report. -/
def VDR.GATE : Fld := ⟨0x400B000C, 1, 0x0, 1, 0x0, 0, 32, .rw, .shoit, fun _ => 0⟩
def VDR.BOOST_SET : Fld := ⟨0x400B0010, 1, 0x0, 1, 0x0, 0, 7, .rw, .both, fun _ => 0⟩
def VDR.BOOST_UV_DROP : Fld := ⟨0x400B0010, 1, 0x0, 1, 0x0, 8, 7, .rw, .both, fun _ => 20⟩
def VDR.BOOST_V : Fld := ⟨0x400B0010, 1, 0x0, 1, 0x0, 16, 16, .ro, .both, fun _ => 0⟩
def VDR.REPORT_Q : Fld := ⟨0x400B0018, 1, 0x0, 1, 0x0, 0, 6, .ro, .loader, fun _ => 0⟩

/-! VDR, chapter 12: Channel registers. -/
def VDR.CH_SLOT : Fld := ⟨0x400B1000, 32, 0x40, 1, 0x0, 0, 5, .wo, .both, fun _ => 0⟩
def VDR.CH_START : Fld := ⟨0x400B1000, 32, 0x40, 1, 0x0, 8, 1, .wo, .both, fun _ => 0⟩
def VDR.CH_STOP : Fld := ⟨0x400B1000, 32, 0x40, 1, 0x0, 9, 1, .wo, .both, fun _ => 0⟩
def VDR.CH_VALVE_PRESET : Fld := ⟨0x400B1000, 32, 0x40, 1, 0x0, 12, 2, .rw, .both, fun _ => 0⟩
def VDR.CH_PWM_HZ : Fld := ⟨0x400B1004, 32, 0x40, 1, 0x0, 0, 15, .rws, .both, fun _ => 20000⟩
def VDR.CH_DITHER_MODE : Fld := ⟨0x400B1004, 32, 0x40, 1, 0x0, 16, 2, .rws, .both, fun _ => 0⟩
def VDR.CH_DITHER_HZ : Fld := ⟨0x400B1004, 32, 0x40, 1, 0x0, 20, 9, .rws, .both, fun _ => 100⟩
def VDR.CH_DITHER_MA : Fld := ⟨0x400B1008, 32, 0x40, 1, 0x0, 0, 10, .rws, .both, fun _ => 0⟩
def VDR.CH_KP : Fld := ⟨0x400B1008, 32, 0x40, 1, 0x0, 16, 8, .rws, .both, fun _ => 64⟩
def VDR.CH_KI : Fld := ⟨0x400B1008, 32, 0x40, 1, 0x0, 24, 8, .rws, .both, fun _ => 8⟩
def VDR.CH_TTP_MIN_US : Fld := ⟨0x400B100C, 32, 0x40, 1, 0x0, 0, 16, .rws, .both, fun _ => 0⟩
def VDR.CH_TTP_MAX_US : Fld := ⟨0x400B100C, 32, 0x40, 1, 0x0, 16, 16, .rws, .both, fun _ => 0⟩
def VDR.CH_CLOSE_WIN_LO_US : Fld := ⟨0x400B1010, 32, 0x40, 1, 0x0, 0, 16, .rws, .both, fun _ => 0⟩
def VDR.CH_CLOSE_WIN_HI_US : Fld := ⟨0x400B1010, 32, 0x40, 1, 0x0, 16, 16, .rws, .both, fun _ => 0⟩
def VDR.CH_CLOSE_THR_MV : Fld := ⟨0x400B1014, 32, 0x40, 1, 0x0, 0, 12, .rws, .both, fun _ => 0⟩
def VDR.CH_CLOSE_EN : Fld := ⟨0x400B1014, 32, 0x40, 1, 0x0, 12, 1, .rws, .both, fun _ => 1⟩
def VDR.CH_DEMAND_FS_MA : Fld := ⟨0x400B1014, 32, 0x40, 1, 0x0, 16, 14, .rws, .both, fun _ => 0⟩
def VDR.CH_STATE : Fld := ⟨0x400B1018, 32, 0x40, 1, 0x0, 0, 3, .ro, .both, fun _ => 0⟩
def VDR.CH_PHASE : Fld := ⟨0x400B1018, 32, 0x40, 1, 0x0, 3, 3, .ro, .both, fun _ => 0⟩
def VDR.CH_RUN_SLOT : Fld := ⟨0x400B1018, 32, 0x40, 1, 0x0, 6, 5, .ro, .both, fun _ => 0⟩
def VDR.CH_CMD_SLOT : Fld := ⟨0x400B1018, 32, 0x40, 1, 0x0, 11, 5, .ro, .both, fun _ => 0⟩
def VDR.CH_CMD_ON : Fld := ⟨0x400B1018, 32, 0x40, 1, 0x0, 16, 1, .ro, .both, fun _ => 0⟩
def VDR.CH_CAUSE : Fld := ⟨0x400B1018, 32, 0x40, 1, 0x0, 17, 4, .ro, .both, fun _ => 0⟩
def VDR.CH_STARVING : Fld := ⟨0x400B1018, 32, 0x40, 1, 0x0, 21, 1, .ro, .both, fun _ => 0⟩
def VDR.CH_DEMAND_LOST : Fld := ⟨0x400B1018, 32, 0x40, 1, 0x0, 22, 1, .ro, .both, fun _ => 0⟩
def VDR.CH_GATED : Fld := ⟨0x400B1018, 32, 0x40, 1, 0x0, 23, 1, .ro, .both, fun _ => 0⟩
def VDR.CH_DIVERTING : Fld := ⟨0x400B1018, 32, 0x40, 1, 0x0, 24, 1, .ro, .both, fun _ => 0⟩
def VDR.CH_START_REFUSED : Fld := ⟨0x400B1018, 32, 0x40, 1, 0x0, 25, 1, .w1c, .both, fun _ => 0⟩
def VDR.CH_I_MEAS : Fld := ⟨0x400B101C, 32, 0x40, 1, 0x0, 0, 16, .ro, .both, fun _ => 0⟩
def VDR.CH_TJ : Fld := ⟨0x400B101C, 32, 0x40, 1, 0x0, 16, 16, .ro, .both, fun _ => 0⟩
def VDR.CH_TTP_LAST_US : Fld := ⟨0x400B1020, 32, 0x40, 1, 0x0, 0, 16, .ro, .both, fun _ => 65535⟩
def VDR.CH_CLOSE_LAST_US : Fld := ⟨0x400B1020, 32, 0x40, 1, 0x0, 16, 16, .ro, .both, fun _ => 65535⟩
def VDR.CH_CLOSE_RESULT : Fld := ⟨0x400B1024, 32, 0x40, 1, 0x0, 0, 3, .ro, .both, fun _ => 0⟩
def VDR.CH_STARVES : Fld := ⟨0x400B1024, 32, 0x40, 1, 0x0, 16, 16, .ro, .both, fun _ => 0⟩
def VDR.CH_P_CLAMP : Fld := ⟨0x400B1028, 32, 0x40, 1, 0x0, 0, 16, .ro, .both, fun _ => 0⟩
def VDR.CH_E_LAST : Fld := ⟨0x400B1028, 32, 0x40, 1, 0x0, 16, 16, .ro, .both, fun _ => 0⟩
def VDR.CH_TTP_FAULTS : Fld := ⟨0x400B102C, 32, 0x40, 1, 0x0, 0, 16, .ro, .both, fun _ => 0⟩
def VDR.CH_CLOSE_MISSES : Fld := ⟨0x400B102C, 32, 0x40, 1, 0x0, 16, 16, .ro, .both, fun _ => 0⟩
def VDR.CH_DEMAND_PT : Fld := ⟨0x400B1030, 32, 0x40, 1, 0x0, 0, 17, .ro, .loader, fun _ => 0⟩
def VDR.CH_DEMAND_USED : Fld := ⟨0x400B1030, 32, 0x40, 1, 0x0, 17, 1, .ro, .loader, fun _ => 0⟩
def VDR.CH_SAFE_SLOT : Fld := ⟨0x400B1030, 32, 0x40, 1, 0x0, 18, 5, .ro, .loader, fun _ => 0⟩
def VDR.CH_SAFE_RUN : Fld := ⟨0x400B1030, 32, 0x40, 1, 0x0, 23, 1, .ro, .loader, fun _ => 0⟩
def VDR.CH_BUILT : Fld := ⟨0x400B1030, 32, 0x40, 1, 0x0, 31, 1, .ro, .loader, fun _ => 0⟩
def VDR.CH_DUTY : Fld := ⟨0x400B1034, 32, 0x40, 1, 0x0, 0, 12, .ro, .both, fun _ => 0⟩

/-! VDR, chapter 12: Profile slot registers. -/
def VDR.PS_N_PH : Fld := ⟨0x400B2000, 32, 0x80, 1, 0x0, 0, 4, .rws, .both, fun _ => 0⟩
def VDR.PS_STOP_DECAY : Fld := ⟨0x400B2000, 32, 0x80, 1, 0x0, 4, 2, .rws, .both, fun _ => 0⟩
def VDR.PS_BUILT : Fld := ⟨0x400B2000, 32, 0x80, 1, 0x0, 31, 1, .ro, .loader, fun _ => 0⟩
def VDR.PS_SRC : Fld := ⟨0x400B2008, 32, 0x80, 8, 0x8, 0, 2, .rws, .both, fun _ => 0⟩
def VDR.PS_KIND : Fld := ⟨0x400B2008, 32, 0x80, 8, 0x8, 2, 2, .rws, .both, fun _ => 0⟩
def VDR.PS_DECAY : Fld := ⟨0x400B2008, 32, 0x80, 8, 0x8, 4, 2, .rws, .both, fun _ => 0⟩
def VDR.PS_DEMAND : Fld := ⟨0x400B2008, 32, 0x80, 8, 0x8, 6, 1, .rws, .both, fun _ => 0⟩
def VDR.PS_TTP : Fld := ⟨0x400B2008, 32, 0x80, 8, 0x8, 7, 1, .rws, .both, fun _ => 0⟩
def VDR.PS_ITGT_MA : Fld := ⟨0x400B2008, 32, 0x80, 8, 0x8, 8, 14, .rws, .both, fun _ => 0⟩
def VDR.PS_HYST_MA : Fld := ⟨0x400B2008, 32, 0x80, 8, 0x8, 22, 10, .rws, .both, fun _ => 0⟩
def VDR.PS_T_PH_US : Fld := ⟨0x400B200C, 32, 0x80, 8, 0x8, 0, 20, .rws, .both, fun _ => 0⟩

/-! VDR, chapter 12: banks. -/
def VDR.SRC0 : Fld := ⟨0x400B0014, 1, 0x0, 1, 0x0, 0, 2, .ro, .both, fun _ => 0⟩
def VDR.OVL_FLAGGED0 : Fld := ⟨0x400B0014, 1, 0x0, 1, 0x0, 2, 1, .ro, .loader, fun _ => 0⟩
def VDR.SRC1 : Fld := ⟨0x400B0014, 1, 0x0, 1, 0x0, 4, 2, .ro, .both, fun _ => 0⟩
def VDR.OVL_FLAGGED1 : Fld := ⟨0x400B0014, 1, 0x0, 1, 0x0, 6, 1, .ro, .loader, fun _ => 0⟩
def VDR.SRC2 : Fld := ⟨0x400B0014, 1, 0x0, 1, 0x0, 8, 2, .ro, .both, fun _ => 0⟩
def VDR.OVL_FLAGGED2 : Fld := ⟨0x400B0014, 1, 0x0, 1, 0x0, 10, 1, .ro, .loader, fun _ => 0⟩
def VDR.SRC3 : Fld := ⟨0x400B0014, 1, 0x0, 1, 0x0, 12, 2, .ro, .both, fun _ => 0⟩
def VDR.OVL_FLAGGED3 : Fld := ⟨0x400B0014, 1, 0x0, 1, 0x0, 14, 1, .ro, .loader, fun _ => 0⟩
def VDR.SRC4 : Fld := ⟨0x400B0014, 1, 0x0, 1, 0x0, 16, 2, .ro, .both, fun _ => 0⟩
def VDR.OVL_FLAGGED4 : Fld := ⟨0x400B0014, 1, 0x0, 1, 0x0, 18, 1, .ro, .loader, fun _ => 0⟩
def VDR.SRC5 : Fld := ⟨0x400B0014, 1, 0x0, 1, 0x0, 20, 2, .ro, .both, fun _ => 0⟩
def VDR.OVL_FLAGGED5 : Fld := ⟨0x400B0014, 1, 0x0, 1, 0x0, 22, 1, .ro, .loader, fun _ => 0⟩
def VDR.SRC6 : Fld := ⟨0x400B0014, 1, 0x0, 1, 0x0, 24, 2, .ro, .both, fun _ => 0⟩
def VDR.OVL_FLAGGED6 : Fld := ⟨0x400B0014, 1, 0x0, 1, 0x0, 26, 1, .ro, .loader, fun _ => 0⟩
def VDR.SRC7 : Fld := ⟨0x400B0014, 1, 0x0, 1, 0x0, 28, 2, .ro, .both, fun _ => 0⟩
def VDR.OVL_FLAGGED7 : Fld := ⟨0x400B0014, 1, 0x0, 1, 0x0, 30, 1, .ro, .loader, fun _ => 0⟩

/-- Every field of VDR. -/
def VDR.fields : List Fld :=
  [VDR.EN, VDR.NM600_MODE, VDR.BOOST_READY, VDR.BOOST_LOW, VDR.BOOST_OV, VDR.ANY_LATCHED, VDR.CLAMPED, VDR.LOCKED_WRITE, VDR.EVT_SHORT, VDR.EVT_OPEN, VDR.EVT_TTP_LOW, VDR.EVT_TTP_HIGH, VDR.EVT_THERMAL, VDR.EVT_STARVE, VDR.EVT_CLOSE_MISSING, VDR.EVT_CLAMP_HIGH] ++
  [VDR.EVT_BOOST_LOW, VDR.EVT_BOOST_OV, VDR.EVT_START_REFUSED, VDR.EVT_DEMAND_LOST, VDR.EVT_RUN_END, VDR.GATE, VDR.BOOST_SET, VDR.BOOST_UV_DROP, VDR.BOOST_V, VDR.REPORT_Q, VDR.CH_SLOT, VDR.CH_START, VDR.CH_STOP, VDR.CH_VALVE_PRESET, VDR.CH_PWM_HZ, VDR.CH_DITHER_MODE] ++
  [VDR.CH_DITHER_HZ, VDR.CH_DITHER_MA, VDR.CH_KP, VDR.CH_KI, VDR.CH_TTP_MIN_US, VDR.CH_TTP_MAX_US, VDR.CH_CLOSE_WIN_LO_US, VDR.CH_CLOSE_WIN_HI_US, VDR.CH_CLOSE_THR_MV, VDR.CH_CLOSE_EN, VDR.CH_DEMAND_FS_MA, VDR.CH_STATE, VDR.CH_PHASE, VDR.CH_RUN_SLOT, VDR.CH_CMD_SLOT, VDR.CH_CMD_ON] ++
  [VDR.CH_CAUSE, VDR.CH_STARVING, VDR.CH_DEMAND_LOST, VDR.CH_GATED, VDR.CH_DIVERTING, VDR.CH_START_REFUSED, VDR.CH_I_MEAS, VDR.CH_TJ, VDR.CH_TTP_LAST_US, VDR.CH_CLOSE_LAST_US, VDR.CH_CLOSE_RESULT, VDR.CH_STARVES, VDR.CH_P_CLAMP, VDR.CH_E_LAST, VDR.CH_TTP_FAULTS, VDR.CH_CLOSE_MISSES] ++
  [VDR.CH_DEMAND_PT, VDR.CH_DEMAND_USED, VDR.CH_SAFE_SLOT, VDR.CH_SAFE_RUN, VDR.CH_BUILT, VDR.CH_DUTY, VDR.PS_N_PH, VDR.PS_STOP_DECAY, VDR.PS_BUILT, VDR.PS_SRC, VDR.PS_KIND, VDR.PS_DECAY, VDR.PS_DEMAND, VDR.PS_TTP, VDR.PS_ITGT_MA, VDR.PS_HYST_MA] ++
  [VDR.PS_T_PH_US, VDR.SRC0, VDR.OVL_FLAGGED0, VDR.SRC1, VDR.OVL_FLAGGED1, VDR.SRC2, VDR.OVL_FLAGGED2, VDR.SRC3, VDR.OVL_FLAGGED3, VDR.SRC4, VDR.OVL_FLAGGED4, VDR.SRC5, VDR.OVL_FLAGGED5, VDR.SRC6, VDR.OVL_FLAGGED6, VDR.SRC7] ++
  [VDR.OVL_FLAGGED7]

/-! FIO, chapter 13: R347. The FIO block at 0x400C_0000 holds the registers b. -/
def FIO.GROUP_LOST : Fld := ⟨0x400C0004, 1, 0x0, 1, 0x0, 0, 8, .ro, .both, fun _ => 0⟩
def FIO.WB_INVALID : Fld := ⟨0x400C0004, 1, 0x0, 1, 0x0, 8, 8, .ro, .both, fun _ => 0⟩
def FIO.CLAMPED : Fld := ⟨0x400C0004, 1, 0x0, 1, 0x0, 30, 1, .w1c, .both, fun _ => 0⟩
def FIO.LOCKED_WRITE : Fld := ⟨0x400C0004, 1, 0x0, 1, 0x0, 31, 1, .w1c, .both, fun _ => 0⟩
def FIO.EVT : Fld := ⟨0x400C0008, 1, 0x0, 1, 0x0, 0, 8, .w1c, .both, fun _ => 0⟩
def FIO.GATE_LO : Fld := ⟨0x400C000C, 1, 0x0, 1, 0x0, 0, 32, .rw, .shoit, fun _ => 0⟩
def FIO.GATE_HI : Fld := ⟨0x400C0010, 1, 0x0, 1, 0x0, 0, 32, .rw, .shoit, fun _ => 0⟩
def FIO.OUT_LO : Fld := ⟨0x400C0014, 1, 0x0, 1, 0x0, 0, 32, .rw, .both, fun _ => 0⟩
def FIO.OUT_HI : Fld := ⟨0x400C0018, 1, 0x0, 1, 0x0, 0, 32, .rw, .both, fun _ => 0⟩
def FIO.IN_LO : Fld := ⟨0x400C001C, 1, 0x0, 1, 0x0, 0, 32, .ro, .both, fun _ => 0⟩
def FIO.IN_HI : Fld := ⟨0x400C0020, 1, 0x0, 1, 0x0, 0, 32, .ro, .both, fun _ => 0⟩
def FIO.EDGE_Q : Fld := ⟨0x400C0024, 1, 0x0, 1, 0x0, 0, 6, .ro, .loader, fun _ => 0⟩
def FIO.SS_ON : Fld := ⟨0x400C0028, 1, 0x0, 1, 0x0, 0, 2, .ro, .both, fun _ => 0⟩

/-! FIO, chapter 13: Group registers. -/
def FIO.G_FILT : Fld := ⟨0x400C0100, 8, 0x10, 1, 0x0, 0, 8, .rws, .both, fun _ => 4⟩
def FIO.G_REARM : Fld := ⟨0x400C0100, 8, 0x10, 1, 0x0, 8, 1, .wo, .both, fun _ => 0⟩
def FIO.G_OUT_HELD : Fld := ⟨0x400C0100, 8, 0x10, 1, 0x0, 9, 1, .ro, .both, fun _ => 0⟩
def FIO.G_SUPPLY_LOW : Fld := ⟨0x400C0100, 8, 0x10, 1, 0x0, 10, 1, .ro, .both, fun _ => 0⟩
def FIO.G_BAD_FRAMES : Fld := ⟨0x400C0104, 8, 0x10, 1, 0x0, 0, 16, .ro, .both, fun _ => 0⟩
def FIO.G_LOSSES : Fld := ⟨0x400C0104, 8, 0x10, 1, 0x0, 16, 16, .ro, .both, fun _ => 0⟩
def FIO.G_VSUP : Fld := ⟨0x400C0108, 8, 0x10, 1, 0x0, 0, 16, .ro, .both, fun _ => 0⟩

/-! FIO, chapter 13: Pin registers. -/
def FIO.PIN_KIND : Fld := ⟨0x400C0200, 64, 0x4, 1, 0x0, 0, 2, .ro, .loader, fun _ => 0⟩
def FIO.PIN_WB_EN : Fld := ⟨0x400C0200, 64, 0x4, 1, 0x0, 2, 1, .ro, .loader, fun _ => 0⟩
def FIO.PIN_SAFE_STATE : Fld := ⟨0x400C0200, 64, 0x4, 1, 0x0, 3, 1, .ro, .loader, fun _ => 0⟩
def FIO.PIN_CLASS : Fld := ⟨0x400C0200, 64, 0x4, 1, 0x0, 4, 2, .ro, .both, fun _ => 0⟩
def FIO.PIN_WIRE_BREAK : Fld := ⟨0x400C0200, 64, 0x4, 1, 0x0, 6, 1, .ro, .both, fun _ => 0⟩
def FIO.PIN_INDET : Fld := ⟨0x400C0200, 64, 0x4, 1, 0x0, 7, 1, .ro, .both, fun _ => 0⟩
def FIO.PIN_OUT_FAULT : Fld := ⟨0x400C0200, 64, 0x4, 1, 0x0, 8, 1, .ro, .both, fun _ => 0⟩

/-! FIO, chapter 13: AI registers. -/
def FIO.AI_RANGE : Fld := ⟨0x400C1000, 32, 0x20, 1, 0x0, 0, 2, .ro, .loader, fun _ => 0⟩
def FIO.AI_REF : Fld := ⟨0x400C1000, 32, 0x20, 1, 0x0, 2, 1, .ro, .loader, fun _ => 0⟩
def FIO.AI_IMP : Fld := ⟨0x400C1000, 32, 0x20, 1, 0x0, 3, 1, .ro, .loader, fun _ => 0⟩
def FIO.AI_AVG_N : Fld := ⟨0x400C1000, 32, 0x20, 1, 0x0, 16, 13, .rws, .both, fun _ => 16⟩
def FIO.AI_CODE : Fld := ⟨0x400C1004, 32, 0x20, 1, 0x0, 0, 16, .ro, .both, fun _ => 0⟩
def FIO.AI_IMP_THR : Fld := ⟨0x400C1008, 32, 0x20, 1, 0x0, 0, 16, .rws, .both, fun _ => 0⟩
def FIO.AI_IMP_HYST : Fld := ⟨0x400C1008, 32, 0x20, 1, 0x0, 16, 16, .rws, .both, fun _ => 0⟩
def FIO.AI_IMP_DEAD_US : Fld := ⟨0x400C100C, 32, 0x20, 1, 0x0, 0, 16, .rws, .both, fun _ => 0⟩
def FIO.AI_IMP_BASE_SH : Fld := ⟨0x400C100C, 32, 0x20, 1, 0x0, 16, 4, .rws, .both, fun _ => 0⟩
def FIO.AI_IMP_GATED : Fld := ⟨0x400C100C, 32, 0x20, 1, 0x0, 20, 1, .rws, .both, fun _ => 0⟩
def FIO.AI_GATE_OPEN : Fld := ⟨0x400C100C, 32, 0x20, 1, 0x0, 21, 1, .ro, .both, fun _ => 0⟩
def FIO.AI_IMP_PERIOD_MS : Fld := ⟨0x400C1010, 32, 0x20, 1, 0x0, 0, 16, .rws, .both, fun _ => 100⟩
def FIO.AI_IMP_LAST : Fld := ⟨0x400C1010, 32, 0x20, 1, 0x0, 16, 16, .ro, .both, fun _ => 0⟩
def FIO.AI_IMP_TOTAL : Fld := ⟨0x400C1014, 32, 0x20, 1, 0x0, 0, 32, .ro, .both, fun _ => 0⟩

/-! FIO, chapter 13: FI registers. -/
def FIO.FI_MODE : Fld := ⟨0x400C2000, 16, 0x10, 1, 0x0, 0, 2, .ro, .loader, fun _ => 0⟩
def FIO.FI_LEVEL : Fld := ⟨0x400C2000, 16, 0x10, 1, 0x0, 2, 1, .ro, .loader, fun _ => 0⟩
def FIO.FI_PULL : Fld := ⟨0x400C2000, 16, 0x10, 1, 0x0, 3, 1, .ro, .loader, fun _ => 0⟩
def FIO.FI_GLITCH : Fld := ⟨0x400C2000, 16, 0x10, 1, 0x0, 4, 8, .rws, .both, fun _ => 8⟩
def FIO.FI_TMO_MS : Fld := ⟨0x400C2000, 16, 0x10, 1, 0x0, 16, 12, .rws, .both, fun _ => 1000⟩
def FIO.FI_COUNT : Fld := ⟨0x400C2004, 16, 0x10, 1, 0x0, 0, 32, .ro, .both, fun _ => 0⟩
def FIO.FI_PERIOD : Fld := ⟨0x400C2008, 16, 0x10, 1, 0x0, 0, 32, .ro, .both, fun _ => 0⟩
def FIO.FI_FREQ : Fld := ⟨0x400C200C, 16, 0x10, 1, 0x0, 0, 16, .ro, .both, fun _ => 0⟩
def FIO.FI_QUAD_ERR : Fld := ⟨0x400C200C, 16, 0x10, 1, 0x0, 16, 16, .ro, .both, fun _ => 0⟩

/-! FIO, chapter 13: AI registers. -/
def FIO.AI_UNDER : Fld := ⟨0x400C1004, 32, 0x20, 1, 0x0, 16, 1, .ro, .both, fun _ => 0⟩
def FIO.AI_OVER : Fld := ⟨0x400C1004, 32, 0x20, 1, 0x0, 17, 1, .ro, .both, fun _ => 0⟩
def FIO.AI_SHUNT_OPEN : Fld := ⟨0x400C1004, 32, 0x20, 1, 0x0, 18, 1, .ro, .both, fun _ => 0⟩

/-- Every field of FIO. -/
def FIO.fields : List Fld :=
  [FIO.GROUP_LOST, FIO.WB_INVALID, FIO.CLAMPED, FIO.LOCKED_WRITE, FIO.EVT, FIO.GATE_LO, FIO.GATE_HI, FIO.OUT_LO, FIO.OUT_HI, FIO.IN_LO, FIO.IN_HI, FIO.EDGE_Q, FIO.SS_ON, FIO.G_FILT, FIO.G_REARM, FIO.G_OUT_HELD] ++
  [FIO.G_SUPPLY_LOW, FIO.G_BAD_FRAMES, FIO.G_LOSSES, FIO.G_VSUP, FIO.PIN_KIND, FIO.PIN_WB_EN, FIO.PIN_SAFE_STATE, FIO.PIN_CLASS, FIO.PIN_WIRE_BREAK, FIO.PIN_INDET, FIO.PIN_OUT_FAULT, FIO.AI_RANGE, FIO.AI_REF, FIO.AI_IMP, FIO.AI_AVG_N, FIO.AI_CODE] ++
  [FIO.AI_IMP_THR, FIO.AI_IMP_HYST, FIO.AI_IMP_DEAD_US, FIO.AI_IMP_BASE_SH, FIO.AI_IMP_GATED, FIO.AI_GATE_OPEN, FIO.AI_IMP_PERIOD_MS, FIO.AI_IMP_LAST, FIO.AI_IMP_TOTAL, FIO.FI_MODE, FIO.FI_LEVEL, FIO.FI_PULL, FIO.FI_GLITCH, FIO.FI_TMO_MS, FIO.FI_COUNT, FIO.FI_PERIOD] ++
  [FIO.FI_FREQ, FIO.FI_QUAD_ERR, FIO.AI_UNDER, FIO.AI_OVER, FIO.AI_SHUNT_OPEN]

/-! BLW, chapter 13: R348. The BLW block at 0x400D_0000 holds the registers b. -/
def BLW.EN : Fld := ⟨0x400D0000, 1, 0x0, 1, 0x0, 0, 1, .rw, .both, fun _ => 0⟩
def BLW.WD_FULL : Fld := ⟨0x400D0004, 1, 0x0, 1, 0x0, 0, 4, .ro, .both, fun _ => 0⟩
def BLW.CLAMPED : Fld := ⟨0x400D0004, 1, 0x0, 1, 0x0, 30, 1, .w1c, .both, fun _ => 0⟩
def BLW.LOCKED_WRITE : Fld := ⟨0x400D0004, 1, 0x0, 1, 0x0, 31, 1, .w1c, .both, fun _ => 0⟩
def BLW.EVT : Fld := ⟨0x400D0008, 1, 0x0, 1, 0x0, 0, 7, .w1c, .both, fun _ => 0⟩
def BLW.GATE : Fld := ⟨0x400D000C, 1, 0x0, 1, 0x0, 0, 4, .rw, .shoit, fun _ => 0⟩
def BLW.WD_MS : Fld := ⟨0x400D0010, 1, 0x0, 1, 0x0, 0, 16, .rw, .both, fun _ => 1000⟩
def BLW.WD_KICK : Fld := ⟨0x400D0014, 1, 0x0, 1, 0x0, 0, 8, .wo, .both, fun _ => 0⟩

/-! BLW, chapter 13: Channel registers. -/
def BLW.CH_ON : Fld := ⟨0x400D0100, 4, 0x40, 1, 0x0, 0, 1, .rw, .both, fun _ => 0⟩
def BLW.CH_BLW_PRESET : Fld := ⟨0x400D0100, 4, 0x40, 1, 0x0, 1, 2, .rw, .both, fun _ => 0⟩
def BLW.CH_MODE : Fld := ⟨0x400D0100, 4, 0x40, 1, 0x0, 3, 1, .rws, .both, fun _ => 0⟩
def BLW.CH_REARM : Fld := ⟨0x400D0100, 4, 0x40, 1, 0x0, 4, 1, .wo, .both, fun _ => 0⟩
def BLW.CH_COMMISSION : Fld := ⟨0x400D0100, 4, 0x40, 1, 0x0, 5, 1, .wo, .both, fun _ => 0⟩
def BLW.CH_SPD_MIN : Fld := ⟨0x400D0104, 4, 0x40, 1, 0x0, 0, 8, .rws, .both, fun _ => 30⟩
def BLW.CH_SPD_MAX : Fld := ⟨0x400D0104, 4, 0x40, 1, 0x0, 8, 8, .rws, .both, fun _ => 100⟩
def BLW.CH_SPD_SET : Fld := ⟨0x400D0104, 4, 0x40, 1, 0x0, 16, 8, .rws, .both, fun _ => 100⟩
def BLW.CH_TEMP_LO : Fld := ⟨0x400D0108, 4, 0x40, 1, 0x0, 0, 16, .rws, .both, fun _ => 400⟩
def BLW.CH_TEMP_HI : Fld := ⟨0x400D0108, 4, 0x40, 1, 0x0, 16, 16, .rws, .both, fun _ => 650⟩
def BLW.CH_KP : Fld := ⟨0x400D010C, 4, 0x40, 1, 0x0, 0, 16, .rws, .both, fun _ => 256⟩
def BLW.CH_KI : Fld := ⟨0x400D010C, 4, 0x40, 1, 0x0, 16, 16, .rws, .both, fun _ => 16⟩
def BLW.CH_BLOCK_MA : Fld := ⟨0x400D0110, 4, 0x40, 1, 0x0, 0, 16, .rws, .both, fun _ => 0⟩
def BLW.CH_OPEN_MA : Fld := ⟨0x400D0110, 4, 0x40, 1, 0x0, 16, 16, .rws, .both, fun _ => 0⟩
def BLW.CH_TACH_TMO_MS : Fld := ⟨0x400D0114, 4, 0x40, 1, 0x0, 0, 16, .rws, .both, fun _ => 500⟩
def BLW.CH_AGE_REF_RPM : Fld := ⟨0x400D0114, 4, 0x40, 1, 0x0, 16, 16, .rws, .both, fun _ => 0⟩
def BLW.CH_STATE : Fld := ⟨0x400D0118, 4, 0x40, 1, 0x0, 0, 3, .ro, .both, fun _ => 0⟩
def BLW.CH_CAUSE : Fld := ⟨0x400D0118, 4, 0x40, 1, 0x0, 3, 3, .ro, .both, fun _ => 0⟩
def BLW.CH_ATTEMPTS : Fld := ⟨0x400D0118, 4, 0x40, 1, 0x0, 6, 2, .ro, .both, fun _ => 0⟩
def BLW.CH_TACH_LOST : Fld := ⟨0x400D0118, 4, 0x40, 1, 0x0, 8, 1, .ro, .both, fun _ => 0⟩
def BLW.CH_AGEING : Fld := ⟨0x400D0118, 4, 0x40, 1, 0x0, 9, 1, .ro, .both, fun _ => 0⟩
def BLW.CH_SENSOR_BAD : Fld := ⟨0x400D0118, 4, 0x40, 1, 0x0, 10, 1, .ro, .both, fun _ => 0⟩
def BLW.CH_COMM_RESULT : Fld := ⟨0x400D0118, 4, 0x40, 1, 0x0, 11, 2, .ro, .both, fun _ => 0⟩
def BLW.CH_RPM : Fld := ⟨0x400D011C, 4, 0x40, 1, 0x0, 0, 16, .ro, .both, fun _ => 0⟩
def BLW.CH_V_OUT : Fld := ⟨0x400D011C, 4, 0x40, 1, 0x0, 16, 16, .ro, .both, fun _ => 0⟩
def BLW.CH_I_OUT : Fld := ⟨0x400D0120, 4, 0x40, 1, 0x0, 0, 16, .ro, .both, fun _ => 0⟩
def BLW.CH_TEMP : Fld := ⟨0x400D0120, 4, 0x40, 1, 0x0, 16, 16, .ro, .both, fun _ => 0⟩
def BLW.CH_BASELINE_MV : Fld := ⟨0x400D0124, 4, 0x40, 1, 0x0, 0, 16, .ro, .both, fun _ => 0⟩
def BLW.CH_DRIVE_MEAN_MV : Fld := ⟨0x400D0124, 4, 0x40, 1, 0x0, 16, 16, .ro, .both, fun _ => 0⟩
def BLW.CH_RPM_MAX : Fld := ⟨0x400D0128, 4, 0x40, 1, 0x0, 0, 16, .ro, .loader, fun _ => 0⟩
def BLW.CH_PPR : Fld := ⟨0x400D0128, 4, 0x40, 1, 0x0, 16, 4, .ro, .loader, fun _ => 0⟩
def BLW.CH_AGE_PREG : Fld := ⟨0x400D012C, 4, 0x40, 1, 0x0, 0, 12, .ro, .loader, fun _ => 0⟩
def BLW.CH_SAFE_V : Fld := ⟨0x400D012C, 4, 0x40, 1, 0x0, 12, 8, .ro, .loader, fun _ => 0⟩
def BLW.CH_TEMP_SRC : Fld := ⟨0x400D012C, 4, 0x40, 1, 0x0, 20, 7, .ro, .loader, fun _ => 0⟩
def BLW.CH_BUILT : Fld := ⟨0x400D012C, 4, 0x40, 1, 0x0, 31, 1, .ro, .loader, fun _ => 0⟩

/-- Every field of BLW. -/
def BLW.fields : List Fld :=
  [BLW.EN, BLW.WD_FULL, BLW.CLAMPED, BLW.LOCKED_WRITE, BLW.EVT, BLW.GATE, BLW.WD_MS, BLW.WD_KICK, BLW.CH_ON, BLW.CH_BLW_PRESET, BLW.CH_MODE, BLW.CH_REARM, BLW.CH_COMMISSION, BLW.CH_SPD_MIN, BLW.CH_SPD_MAX, BLW.CH_SPD_SET] ++
  [BLW.CH_TEMP_LO, BLW.CH_TEMP_HI, BLW.CH_KP, BLW.CH_KI, BLW.CH_BLOCK_MA, BLW.CH_OPEN_MA, BLW.CH_TACH_TMO_MS, BLW.CH_AGE_REF_RPM, BLW.CH_STATE, BLW.CH_CAUSE, BLW.CH_ATTEMPTS, BLW.CH_TACH_LOST, BLW.CH_AGEING, BLW.CH_SENSOR_BAD, BLW.CH_COMM_RESULT, BLW.CH_RPM] ++
  [BLW.CH_V_OUT, BLW.CH_I_OUT, BLW.CH_TEMP, BLW.CH_BASELINE_MV, BLW.CH_DRIVE_MEAN_MV, BLW.CH_RPM_MAX, BLW.CH_PPR, BLW.CH_AGE_PREG, BLW.CH_SAFE_V, BLW.CH_TEMP_SRC, BLW.CH_BUILT]

/-! CAN, chapter 14: R375. The CAN block at 0x400E_0000 holds the registers b. -/
def CAN.EN : Fld := ⟨0x400E0000, 1, 0x0, 1, 0x0, 0, 8, .rw, .both, fun _ => 0⟩
def CAN.BUS_OFF : Fld := ⟨0x400E0004, 1, 0x0, 1, 0x0, 0, 8, .ro, .both, fun _ => 0⟩
def CAN.SYNCED : Fld := ⟨0x400E0004, 1, 0x0, 1, 0x0, 8, 8, .ro, .both, fun _ => 0⟩
def CAN.ISO_CLAIMED : Fld := ⟨0x400E0004, 1, 0x0, 1, 0x0, 16, 8, .ro, .both, fun _ => 0⟩
def CAN.CLAMPED : Fld := ⟨0x400E0004, 1, 0x0, 1, 0x0, 30, 1, .w1c, .both, fun _ => 0⟩
def CAN.LOCKED_WRITE : Fld := ⟨0x400E0004, 1, 0x0, 1, 0x0, 31, 1, .w1c, .both, fun _ => 0⟩
def CAN.EVT : Fld := ⟨0x400E0008, 1, 0x0, 1, 0x0, 0, 8, .w1c, .both, fun _ => 0⟩
def CAN.REF_ID_BASE : Fld := ⟨0x400E000C, 1, 0x0, 1, 0x0, 0, 11, .ro, .loader, fun _ => 0⟩
def CAN.CAN1_OFS_US : Fld := ⟨0x400E000C, 1, 0x0, 1, 0x0, 16, 16, .ro, .loader, fun _ => 0⟩
def CAN.CARSIL_ID_BASE : Fld := ⟨0x400E0010, 1, 0x0, 1, 0x0, 0, 11, .ro, .loader, fun _ => 0⟩

/-! CAN, chapter 14: Port registers. -/
def CAN.P_KIND : Fld := ⟨0x400E0100, 8, 0x40, 1, 0x0, 0, 2, .ro, .loader, fun _ => 0⟩
def CAN.P_CAN_PRESET : Fld := ⟨0x400E0100, 8, 0x40, 1, 0x0, 2, 2, .rwl, .both, fun _ => 0⟩
def CAN.P_REF_PRIO : Fld := ⟨0x400E0100, 8, 0x40, 1, 0x0, 4, 3, .ro, .loader, fun _ => 0⟩
def CAN.P_REF_ABLE : Fld := ⟨0x400E0100, 8, 0x40, 1, 0x0, 7, 1, .ro, .loader, fun _ => 0⟩
def CAN.P_NBRP : Fld := ⟨0x400E0104, 8, 0x40, 1, 0x0, 0, 9, .rwl, .both, fun _ => 3⟩
def CAN.P_NTSEG1 : Fld := ⟨0x400E0104, 8, 0x40, 1, 0x0, 9, 8, .rwl, .both, fun _ => 62⟩
def CAN.P_NTSEG2 : Fld := ⟨0x400E0104, 8, 0x40, 1, 0x0, 17, 7, .rwl, .both, fun _ => 15⟩
def CAN.P_NSJW : Fld := ⟨0x400E0104, 8, 0x40, 1, 0x0, 24, 7, .rwl, .both, fun _ => 7⟩
def CAN.P_DBRP : Fld := ⟨0x400E0108, 8, 0x40, 1, 0x0, 0, 5, .rwl, .both, fun _ => 0⟩
def CAN.P_DTSEG1 : Fld := ⟨0x400E0108, 8, 0x40, 1, 0x0, 5, 5, .rwl, .both, fun _ => 28⟩
def CAN.P_DTSEG2 : Fld := ⟨0x400E0108, 8, 0x40, 1, 0x0, 10, 4, .rwl, .both, fun _ => 9⟩
def CAN.P_DSJW : Fld := ⟨0x400E0108, 8, 0x40, 1, 0x0, 14, 4, .rwl, .both, fun _ => 9⟩
def CAN.P_TDC_EN : Fld := ⟨0x400E0108, 8, 0x40, 1, 0x0, 18, 1, .rwl, .both, fun _ => 0⟩
def CAN.P_TDCO : Fld := ⟨0x400E0108, 8, 0x40, 1, 0x0, 19, 7, .rwl, .both, fun _ => 0⟩
def CAN.P_ERR_STATE : Fld := ⟨0x400E010C, 8, 0x40, 1, 0x0, 0, 2, .ro, .both, fun _ => 0⟩
def CAN.P_TEC : Fld := ⟨0x400E010C, 8, 0x40, 1, 0x0, 8, 8, .ro, .both, fun _ => 0⟩
def CAN.P_REC : Fld := ⟨0x400E010C, 8, 0x40, 1, 0x0, 16, 8, .ro, .both, fun _ => 0⟩
def CAN.P_RECOV_SEQ : Fld := ⟨0x400E010C, 8, 0x40, 1, 0x0, 24, 8, .ro, .both, fun _ => 0⟩
def CAN.P_BUSOFF_COUNT : Fld := ⟨0x400E0110, 8, 0x40, 1, 0x0, 0, 16, .ro, .both, fun _ => 0⟩
def CAN.P_ERR_FRAMES : Fld := ⟨0x400E0110, 8, 0x40, 1, 0x0, 16, 16, .ro, .both, fun _ => 0⟩
def CAN.P_SYNC : Fld := ⟨0x400E0114, 8, 0x40, 1, 0x0, 0, 2, .ro, .both, fun _ => 0⟩
def CAN.P_IS_MASTER : Fld := ⟨0x400E0114, 8, 0x40, 1, 0x0, 2, 1, .ro, .both, fun _ => 0⟩
def CAN.P_CYCLE : Fld := ⟨0x400E0114, 8, 0x40, 1, 0x0, 3, 6, .ro, .both, fun _ => 0⟩
def CAN.P_MASTER_PRIO : Fld := ⟨0x400E0114, 8, 0x40, 1, 0x0, 9, 3, .ro, .both, fun _ => 0⟩
def CAN.P_MISSED_WIN : Fld := ⟨0x400E0114, 8, 0x40, 1, 0x0, 16, 16, .ro, .both, fun _ => 0⟩
def CAN.P_RX_DROPPED : Fld := ⟨0x400E0118, 8, 0x40, 1, 0x0, 0, 16, .ro, .both, fun _ => 0⟩
def CAN.P_TX_LATE : Fld := ⟨0x400E0118, 8, 0x40, 1, 0x0, 16, 16, .ro, .both, fun _ => 0⟩
def CAN.P_CYCLE_US : Fld := ⟨0x400E011C, 8, 0x40, 1, 0x0, 0, 14, .ro, .loader, fun _ => 0⟩
def CAN.P_MATRIX_CYCLES : Fld := ⟨0x400E011C, 8, 0x40, 1, 0x0, 16, 7, .ro, .loader, fun _ => 0⟩
def CAN.P_MATRIX_ID : Fld := ⟨0x400E0120, 8, 0x40, 1, 0x0, 0, 16, .ro, .loader, fun _ => 0⟩
def CAN.P_ISO_ADDR : Fld := ⟨0x400E0120, 8, 0x40, 1, 0x0, 16, 8, .ro, .both, fun _ => 254⟩
def CAN.P_NAME_LO : Fld := ⟨0x400E0124, 8, 0x40, 1, 0x0, 0, 32, .ro, .loader, fun _ => 0⟩
def CAN.P_NAME_HI : Fld := ⟨0x400E0128, 8, 0x40, 1, 0x0, 0, 32, .ro, .loader, fun _ => 0⟩

/-! CAN, chapter 14: Node status. -/
def CAN.NODE_LOST : Fld := ⟨0x400E1000, 64, 0x4, 1, 0x0, 0, 32, .ro, .both, fun _ => 0⟩

/-- Every field of CAN. -/
def CAN.fields : List Fld :=
  [CAN.EN, CAN.BUS_OFF, CAN.SYNCED, CAN.ISO_CLAIMED, CAN.CLAMPED, CAN.LOCKED_WRITE, CAN.EVT, CAN.REF_ID_BASE, CAN.CAN1_OFS_US, CAN.CARSIL_ID_BASE, CAN.P_KIND, CAN.P_CAN_PRESET, CAN.P_REF_PRIO, CAN.P_REF_ABLE, CAN.P_NBRP, CAN.P_NTSEG1] ++
  [CAN.P_NTSEG2, CAN.P_NSJW, CAN.P_DBRP, CAN.P_DTSEG1, CAN.P_DTSEG2, CAN.P_DSJW, CAN.P_TDC_EN, CAN.P_TDCO, CAN.P_ERR_STATE, CAN.P_TEC, CAN.P_REC, CAN.P_RECOV_SEQ, CAN.P_BUSOFF_COUNT, CAN.P_ERR_FRAMES, CAN.P_SYNC, CAN.P_IS_MASTER] ++
  [CAN.P_CYCLE, CAN.P_MASTER_PRIO, CAN.P_MISSED_WIN, CAN.P_RX_DROPPED, CAN.P_TX_LATE, CAN.P_CYCLE_US, CAN.P_MATRIX_CYCLES, CAN.P_MATRIX_ID, CAN.P_ISO_ADDR, CAN.P_NAME_LO, CAN.P_NAME_HI, CAN.NODE_LOST]

/-! ETH, chapter 14: R376. The ETH block at 0x400F_0000 holds the registers b. -/
def ETH.EN : Fld := ⟨0x400F0000, 1, 0x0, 1, 0x0, 0, 7, .rw, .both, fun _ => 0⟩
def ETH.TIME_ROLE : Fld := ⟨0x400F0000, 1, 0x0, 1, 0x0, 8, 2, .rwl, .both, fun _ => 0⟩
def ETH.LINK_UP : Fld := ⟨0x400F0004, 1, 0x0, 1, 0x0, 0, 7, .ro, .both, fun _ => 0⟩
def ETH.IS_MASTER : Fld := ⟨0x400F0004, 1, 0x0, 1, 0x0, 8, 1, .ro, .both, fun _ => 0⟩
def ETH.NT_GNSS : Fld := ⟨0x400F0004, 1, 0x0, 1, 0x0, 9, 1, .ro, .both, fun _ => 0⟩
def ETH.DISC_FORCED : Fld := ⟨0x400F0004, 1, 0x0, 1, 0x0, 10, 1, .ro, .both, fun _ => 0⟩
def ETH.HOLD : Fld := ⟨0x400F0004, 1, 0x0, 1, 0x0, 11, 1, .ro, .both, fun _ => 0⟩
def ETH.CLAMPED : Fld := ⟨0x400F0004, 1, 0x0, 1, 0x0, 30, 1, .w1c, .both, fun _ => 0⟩
def ETH.LOCKED_WRITE : Fld := ⟨0x400F0004, 1, 0x0, 1, 0x0, 31, 1, .w1c, .both, fun _ => 0⟩
def ETH.EVT : Fld := ⟨0x400F0008, 1, 0x0, 1, 0x0, 0, 10, .w1c, .both, fun _ => 0⟩
def ETH.JOIN_STATE : Fld := ⟨0x400F000C, 1, 0x0, 1, 0x0, 0, 2, .ro, .both, fun _ => 0⟩
def ETH.IS_LEADER : Fld := ⟨0x400F000C, 1, 0x0, 1, 0x0, 2, 1, .ro, .both, fun _ => 0⟩
def ETH.JOIN_EN : Fld := ⟨0x400F000C, 1, 0x0, 1, 0x0, 3, 1, .ro, .loader, fun _ => 0⟩
def ETH.LEADER_ADDR : Fld := ⟨0x400F000C, 1, 0x0, 1, 0x0, 8, 8, .ro, .both, fun _ => 255⟩
def ETH.OWN_ADDR : Fld := ⟨0x400F000C, 1, 0x0, 1, 0x0, 16, 8, .ro, .loader, fun _ => 0⟩
def ETH.MEMBERS : Fld := ⟨0x400F000C, 1, 0x0, 1, 0x0, 24, 5, .ro, .both, fun _ => 0⟩
def ETH.PEER_SEEN : Fld := ⟨0x400F0010, 1, 0x0, 1, 0x0, 0, 16, .ro, .both, fun _ => 0⟩
def ETH.PEER_MATCH : Fld := ⟨0x400F0010, 1, 0x0, 1, 0x0, 16, 16, .ro, .both, fun _ => 0⟩
def ETH.PEER_SAFE : Fld := ⟨0x400F0014, 1, 0x0, 1, 0x0, 0, 16, .ro, .both, fun _ => 0⟩
def ETH.PEER_LAG : Fld := ⟨0x400F0014, 1, 0x0, 1, 0x0, 16, 16, .ro, .both, fun _ => 0⟩
def ETH.PEER_PERIOD_MS : Fld := ⟨0x400F0018, 1, 0x0, 1, 0x0, 0, 7, .rws, .both, fun _ => 10⟩
def ETH.PEER_LOSS_N : Fld := ⟨0x400F0018, 1, 0x0, 1, 0x0, 8, 4, .rws, .both, fun _ => 3⟩
def ETH.JOIN_WAIT_MS : Fld := ⟨0x400F0018, 1, 0x0, 1, 0x0, 16, 16, .rws, .both, fun _ => 300⟩
def ETH.SYNC_LOG : Fld := ⟨0x400F001C, 1, 0x0, 1, 0x0, 0, 3, .rws, .both, fun _ => 2⟩
def ETH.AS_PRIO1 : Fld := ⟨0x400F001C, 1, 0x0, 1, 0x0, 8, 8, .ro, .loader, fun _ => 0⟩
def ETH.DISAGREES : Fld := ⟨0x400F0020, 1, 0x0, 1, 0x0, 0, 16, .ro, .both, fun _ => 0⟩
def ETH.PEER_LOSSES : Fld := ⟨0x400F0020, 1, 0x0, 1, 0x0, 16, 16, .ro, .both, fun _ => 0⟩
def ETH.UNKNOWN_PEER : Fld := ⟨0x400F0024, 1, 0x0, 1, 0x0, 0, 16, .ro, .both, fun _ => 0⟩
def ETH.FOREIGN_ANN : Fld := ⟨0x400F0024, 1, 0x0, 1, 0x0, 16, 16, .ro, .both, fun _ => 0⟩
def ETH.MIRROR_DEFER : Fld := ⟨0x400F0028, 1, 0x0, 1, 0x0, 0, 16, .ro, .both, fun _ => 0⟩
def ETH.DGRAM_DROP : Fld := ⟨0x400F0028, 1, 0x0, 1, 0x0, 16, 16, .ro, .both, fun _ => 0⟩

/-! ETH, chapter 14: Port registers. -/
def ETH.P_IPV4 : Fld := ⟨0x400F0100, 7, 0x10, 1, 0x0, 0, 32, .ro, .loader, fun _ => 0⟩
def ETH.P_RX_DROPPED : Fld := ⟨0x400F0104, 7, 0x10, 1, 0x0, 0, 16, .ro, .both, fun _ => 0⟩
def ETH.P_CRC_ERR : Fld := ⟨0x400F0104, 7, 0x10, 1, 0x0, 16, 16, .ro, .both, fun _ => 0⟩
def ETH.P_AS_ROLE : Fld := ⟨0x400F0108, 7, 0x10, 1, 0x0, 0, 2, .ro, .both, fun _ => 0⟩
def ETH.P_AS_EN : Fld := ⟨0x400F0108, 7, 0x10, 1, 0x0, 4, 1, .ro, .loader, fun _ => 0⟩
def ETH.P_PEER_PORT : Fld := ⟨0x400F0108, 7, 0x10, 1, 0x0, 5, 1, .ro, .loader, fun _ => 0⟩
def ETH.P_LINK_DOWNS : Fld := ⟨0x400F010C, 7, 0x10, 1, 0x0, 0, 16, .ro, .both, fun _ => 0⟩

/-! ETH, chapter 14: Peer table. -/
def ETH.PE_ADDR : Fld := ⟨0x400F0200, 16, 0x8, 1, 0x0, 0, 8, .ro, .loader, fun _ => 0⟩
def ETH.PE_BUILT : Fld := ⟨0x400F0200, 16, 0x8, 1, 0x0, 8, 1, .ro, .loader, fun _ => 0⟩
def ETH.PE_MODE : Fld := ⟨0x400F0200, 16, 0x8, 1, 0x0, 9, 4, .ro, .both, fun _ => 0⟩
def ETH.PE_MATCH : Fld := ⟨0x400F0200, 16, 0x8, 1, 0x0, 13, 1, .ro, .both, fun _ => 0⟩
def ETH.PE_SAFE : Fld := ⟨0x400F0200, 16, 0x8, 1, 0x0, 14, 1, .ro, .both, fun _ => 0⟩
def ETH.PE_JOINING : Fld := ⟨0x400F0200, 16, 0x8, 1, 0x0, 15, 1, .ro, .both, fun _ => 0⟩
def ETH.PE_FW_VER : Fld := ⟨0x400F0204, 16, 0x8, 1, 0x0, 0, 32, .ro, .both, fun _ => 0⟩

/-- Every field of ETH. -/
def ETH.fields : List Fld :=
  [ETH.EN, ETH.TIME_ROLE, ETH.LINK_UP, ETH.IS_MASTER, ETH.NT_GNSS, ETH.DISC_FORCED, ETH.HOLD, ETH.CLAMPED, ETH.LOCKED_WRITE, ETH.EVT, ETH.JOIN_STATE, ETH.IS_LEADER, ETH.JOIN_EN, ETH.LEADER_ADDR, ETH.OWN_ADDR, ETH.MEMBERS] ++
  [ETH.PEER_SEEN, ETH.PEER_MATCH, ETH.PEER_SAFE, ETH.PEER_LAG, ETH.PEER_PERIOD_MS, ETH.PEER_LOSS_N, ETH.JOIN_WAIT_MS, ETH.SYNC_LOG, ETH.AS_PRIO1, ETH.DISAGREES, ETH.PEER_LOSSES, ETH.UNKNOWN_PEER, ETH.FOREIGN_ANN, ETH.MIRROR_DEFER, ETH.DGRAM_DROP, ETH.P_IPV4] ++
  [ETH.P_RX_DROPPED, ETH.P_CRC_ERR, ETH.P_AS_ROLE, ETH.P_AS_EN, ETH.P_PEER_PORT, ETH.P_LINK_DOWNS, ETH.PE_ADDR, ETH.PE_BUILT, ETH.PE_MODE, ETH.PE_MATCH, ETH.PE_SAFE, ETH.PE_JOINING, ETH.PE_FW_VER]

end Sys2Proof.Machine
end

