-- ==== Sys2Proof/Machine/RegsSense.lean ====
section
/-! DEFINITION. Machine/RegsSense.lean: the register fields of FUS, ISP, GNS, from the register maps of their chapters. -/

namespace Sys2Proof.Machine

/-! FUS, chapter 08: FUS_CTL. -/
def FUS.EN : Fld := ⟨0x40070000, 1, 0x0, 1, 0x0, 0, 1, .rw, .both, fun _ => 0⟩
def FUS.FUSE_PRESET : Fld := ⟨0x40070000, 1, 0x0, 1, 0x0, 1, 2, .rw, .both, fun _ => 0⟩

/-! FUS, chapter 08: FUS_STAT. -/
def FUS.STATE : Fld := ⟨0x40070004, 1, 0x0, 1, 0x0, 0, 2, .ro, .both, fun _ => 0⟩
def FUS.BUILDING : Fld := ⟨0x40070004, 1, 0x0, 1, 0x0, 2, 1, .ro, .both, fun _ => 0⟩
def FUS.EGO_VALID : Fld := ⟨0x40070004, 1, 0x0, 1, 0x0, 3, 1, .ro, .both, fun _ => 0⟩
def FUS.ST_CAM_BUILT : Fld := ⟨0x40070004, 1, 0x0, 1, 0x0, 8, 8, .ro, .loader, fun _ => 0⟩
def FUS.CAM_PRESENT : Fld := ⟨0x40070004, 1, 0x0, 1, 0x0, 16, 8, .ro, .both, fun _ => 0⟩
def FUS.CLAMPED : Fld := ⟨0x40070004, 1, 0x0, 1, 0x0, 30, 1, .w1c, .both, fun _ => 0⟩
def FUS.LOCKED_WRITE : Fld := ⟨0x40070004, 1, 0x0, 1, 0x0, 31, 1, .w1c, .both, fun _ => 0⟩

/-! FUS, chapter 08: FUS_EVT. -/
def FUS.EVT_PUBLISHED : Fld := ⟨0x40070008, 1, 0x0, 1, 0x0, 0, 1, .w1c, .both, fun _ => 0⟩
def FUS.EVT_LATE : Fld := ⟨0x40070008, 1, 0x0, 1, 0x0, 1, 1, .w1c, .both, fun _ => 0⟩
def FUS.EVT_DROPPED : Fld := ⟨0x40070008, 1, 0x0, 1, 0x0, 2, 1, .w1c, .both, fun _ => 0⟩
def FUS.EVT_SKIPPED : Fld := ⟨0x40070008, 1, 0x0, 1, 0x0, 3, 1, .w1c, .both, fun _ => 0⟩
def FUS.EVT_EGO_INVALID : Fld := ⟨0x40070008, 1, 0x0, 1, 0x0, 4, 1, .w1c, .both, fun _ => 0⟩
def FUS.EVT_TAP_SKIPPED : Fld := ⟨0x40070008, 1, 0x0, 1, 0x0, 5, 1, .w1c, .both, fun _ => 0⟩
def FUS.EVT_TABLE_TAKEN : Fld := ⟨0x40070008, 1, 0x0, 1, 0x0, 6, 1, .w1c, .both, fun _ => 0⟩
def FUS.EVT_SUPERSEDED : Fld := ⟨0x40070008, 1, 0x0, 1, 0x0, 7, 1, .w1c, .both, fun _ => 0⟩

/-! FUS, chapter 08: Configuration. -/
def FUS.ACQ_OFS_US : Fld := ⟨0x4007000C, 1, 0x0, 1, 0x0, 0, 17, .rwl, .both, fun _ => 0⟩
def FUS.MIN_CAMERAS : Fld := ⟨0x4007000C, 1, 0x0, 1, 0x0, 17, 4, .rws, .both, fun _ => 1⟩
def FUS.EGO_EN : Fld := ⟨0x4007000C, 1, 0x0, 1, 0x0, 21, 1, .rws, .both, fun _ => 1⟩
def FUS.EGO_MIN_Q : Fld := ⟨0x4007000C, 1, 0x0, 1, 0x0, 24, 8, .rws, .both, fun _ => 64⟩
def FUS.EGO_ROW0 : Fld := ⟨0x40070010, 1, 0x0, 1, 0x0, 0, 9, .rws, .both, fun _ => 0⟩
def FUS.EGO_CH_BASE : Fld := ⟨0x40070010, 1, 0x0, 1, 0x0, 16, 5, .rws, .both, fun _ => 0⟩

/-! FUS, chapter 08: Counters. -/
def FUS.CNT_FUS_LATE : Fld := ⟨0x40070020, 1, 0x0, 1, 0x0, 0, 32, .ro, .both, fun _ => 0⟩
def FUS.CNT_LATE_PT : Fld := ⟨0x40070024, 1, 0x0, 1, 0x0, 0, 16, .ro, .both, fun _ => 0⟩
def FUS.CNT_SUPERSEDED : Fld := ⟨0x40070024, 1, 0x0, 1, 0x0, 16, 16, .ro, .both, fun _ => 0⟩
def FUS.CNT_DROPPED : Fld := ⟨0x40070028, 1, 0x0, 1, 0x0, 0, 16, .ro, .both, fun _ => 0⟩
def FUS.CNT_SKIPPED : Fld := ⟨0x40070028, 1, 0x0, 1, 0x0, 16, 16, .ro, .both, fun _ => 0⟩
def FUS.CNT_EGO_INVALIDS : Fld := ⟨0x4007002C, 1, 0x0, 1, 0x0, 0, 16, .ro, .both, fun _ => 0⟩
def FUS.CNT_TAP_SKIPS : Fld := ⟨0x4007002C, 1, 0x0, 1, 0x0, 16, 16, .ro, .both, fun _ => 0⟩

/-! FUS, chapter 08: Last frame and ego-motion. -/
def FUS.OUT_MT_LO : Fld := ⟨0x40070030, 1, 0x0, 1, 0x0, 0, 32, .ro, .both, fun _ => 0⟩
def FUS.OUT_MT_HI : Fld := ⟨0x40070034, 1, 0x0, 1, 0x0, 0, 32, .ro, .both, fun _ => 0⟩
def FUS.SEQ : Fld := ⟨0x40070038, 1, 0x0, 1, 0x0, 0, 16, .ro, .both, fun _ => 0⟩
def FUS.PT_PRESENT : Fld := ⟨0x40070038, 1, 0x0, 1, 0x0, 16, 16, .ro, .both, fun _ => 0⟩
def FUS.BUILD_PEAK_US : Fld := ⟨0x4007003C, 1, 0x0, 1, 0x0, 0, 16, .ro, .both, fun _ => 0⟩
def FUS.ACC_SAT : Fld := ⟨0x4007003C, 1, 0x0, 1, 0x0, 16, 1, .w1c, .both, fun _ => 0⟩
def FUS.EGO_SPEED : Fld := ⟨0x40070040, 1, 0x0, 1, 0x0, 0, 32, .ro, .both, fun _ => 0⟩
def FUS.EGO_LAT : Fld := ⟨0x40070044, 1, 0x0, 1, 0x0, 0, 32, .ro, .both, fun _ => 0⟩
def FUS.EGO_Q : Fld := ⟨0x40070048, 1, 0x0, 1, 0x0, 0, 8, .ro, .both, fun _ => 0⟩
def FUS.EGO_CAUSE : Fld := ⟨0x40070048, 1, 0x0, 1, 0x0, 8, 3, .ro, .both, fun _ => 5⟩

/-! FUS, chapter 08: Output. -/
def FUS.OUT_BASE : Fld := ⟨0x40070050, 1, 0x0, 1, 0x0, 0, 30, .ro, .loader, fun _ => 0⟩
def FUS.OUT_Q : Fld := ⟨0x40070054, 1, 0x0, 1, 0x0, 0, 6, .ro, .loader, fun _ => 0⟩

/-! FUS, chapter 08: Camera registers. -/
def FUS.CAM_BUILT : Fld := ⟨0x40070100, 8, 0x10, 1, 0x0, 0, 1, .ro, .loader, fun _ => 0⟩
def FUS.CAM_TENSOR_W : Fld := ⟨0x40070100, 8, 0x10, 1, 0x0, 1, 9, .ro, .loader, fun _ => 0⟩
def FUS.CAM_TENSOR_H : Fld := ⟨0x40070100, 8, 0x10, 1, 0x0, 16, 8, .ro, .loader, fun _ => 0⟩
def FUS.CAM_CAL_ID : Fld := ⟨0x40070104, 8, 0x10, 1, 0x0, 0, 32, .ro, .loader, fun _ => 0⟩
def FUS.CAM_TAP_KIND : Fld := ⟨0x40070108, 8, 0x10, 1, 0x0, 0, 2, .rw, .both, fun _ => 0⟩
def FUS.CAM_TAP_CH_BASE : Fld := ⟨0x40070108, 8, 0x10, 1, 0x0, 2, 5, .rw, .both, fun _ => 0⟩
def FUS.CAM_TAP_DECIM : Fld := ⟨0x40070108, 8, 0x10, 1, 0x0, 8, 8, .rw, .both, fun _ => 1⟩
def FUS.CAM_LATE : Fld := ⟨0x4007010C, 8, 0x10, 1, 0x0, 0, 16, .ro, .both, fun _ => 0⟩

/-! FUS, chapter 08: Point-sensor registers. -/
def FUS.PT_POINT : Fld := ⟨0x40070200, 16, 0x8, 1, 0x0, 0, 17, .ro, .loader, fun _ => 0⟩
def FUS.PT_BUILT : Fld := ⟨0x40070200, 16, 0x8, 1, 0x0, 31, 1, .ro, .loader, fun _ => 0⟩
def FUS.PT_LATE : Fld := ⟨0x40070204, 16, 0x8, 1, 0x0, 0, 16, .ro, .both, fun _ => 0⟩

/-! FUS, chapter 08: Band-point registers. -/
def FUS.BAND_POINT : Fld := ⟨0x40070400, 64, 0x10, 1, 0x0, 0, 17, .ro, .loader, fun _ => 0⟩
def FUS.BAND_MAP : Fld := ⟨0x40070400, 64, 0x10, 1, 0x0, 17, 2, .ro, .loader, fun _ => 0⟩
def FUS.BAND_REDUCE : Fld := ⟨0x40070400, 64, 0x10, 1, 0x0, 19, 2, .ro, .loader, fun _ => 0⟩
def FUS.BAND_BUILT : Fld := ⟨0x40070400, 64, 0x10, 1, 0x0, 31, 1, .ro, .loader, fun _ => 0⟩
def FUS.BAND_ROW0 : Fld := ⟨0x40070404, 64, 0x10, 1, 0x0, 0, 9, .ro, .loader, fun _ => 0⟩
def FUS.BAND_ROW1 : Fld := ⟨0x40070404, 64, 0x10, 1, 0x0, 16, 9, .ro, .loader, fun _ => 0⟩
def FUS.BAND_COL0 : Fld := ⟨0x40070408, 64, 0x10, 1, 0x0, 0, 8, .ro, .loader, fun _ => 0⟩
def FUS.BAND_COL1 : Fld := ⟨0x40070408, 64, 0x10, 1, 0x0, 16, 8, .ro, .loader, fun _ => 0⟩
def FUS.BAND_GAIN : Fld := ⟨0x4007040C, 64, 0x10, 1, 0x0, 0, 16, .rws, .both, fun _ => 0⟩
def FUS.BAND_THRESH : Fld := ⟨0x4007040C, 64, 0x10, 1, 0x0, 16, 8, .rws, .both, fun _ => 0⟩

/-- Every field of FUS. -/
def FUS.fields : List Fld :=
  [FUS.EN, FUS.FUSE_PRESET, FUS.STATE, FUS.BUILDING, FUS.EGO_VALID, FUS.ST_CAM_BUILT, FUS.CAM_PRESENT, FUS.CLAMPED, FUS.LOCKED_WRITE, FUS.EVT_PUBLISHED, FUS.EVT_LATE, FUS.EVT_DROPPED, FUS.EVT_SKIPPED, FUS.EVT_EGO_INVALID, FUS.EVT_TAP_SKIPPED, FUS.EVT_TABLE_TAKEN] ++
  [FUS.EVT_SUPERSEDED, FUS.ACQ_OFS_US, FUS.MIN_CAMERAS, FUS.EGO_EN, FUS.EGO_MIN_Q, FUS.EGO_ROW0, FUS.EGO_CH_BASE, FUS.CNT_FUS_LATE, FUS.CNT_LATE_PT, FUS.CNT_SUPERSEDED, FUS.CNT_DROPPED, FUS.CNT_SKIPPED, FUS.CNT_EGO_INVALIDS, FUS.CNT_TAP_SKIPS, FUS.OUT_MT_LO, FUS.OUT_MT_HI] ++
  [FUS.SEQ, FUS.PT_PRESENT, FUS.BUILD_PEAK_US, FUS.ACC_SAT, FUS.EGO_SPEED, FUS.EGO_LAT, FUS.EGO_Q, FUS.EGO_CAUSE, FUS.OUT_BASE, FUS.OUT_Q, FUS.CAM_BUILT, FUS.CAM_TENSOR_W, FUS.CAM_TENSOR_H, FUS.CAM_CAL_ID, FUS.CAM_TAP_KIND, FUS.CAM_TAP_CH_BASE] ++
  [FUS.CAM_TAP_DECIM, FUS.CAM_LATE, FUS.PT_POINT, FUS.PT_BUILT, FUS.PT_LATE, FUS.BAND_POINT, FUS.BAND_MAP, FUS.BAND_REDUCE, FUS.BAND_BUILT, FUS.BAND_ROW0, FUS.BAND_ROW1, FUS.BAND_COL0, FUS.BAND_COL1, FUS.BAND_GAIN, FUS.BAND_THRESH]

/-! ISP, chapter 09: ISP_CTL. -/
def ISP.EN : Fld := ⟨0x40080000, 1, 0x0, 1, 0x0, 0, 1, .rw, .both, fun _ => 0⟩

/-! ISP, chapter 09: ISP_STAT. -/
def ISP.CP0_UP : Fld := ⟨0x40080004, 1, 0x0, 1, 0x0, 0, 1, .ro, .both, fun _ => 0⟩
def ISP.CP1_UP : Fld := ⟨0x40080004, 1, 0x0, 1, 0x0, 1, 1, .ro, .both, fun _ => 0⟩
def ISP.CLAMPED : Fld := ⟨0x40080004, 1, 0x0, 1, 0x0, 30, 1, .w1c, .both, fun _ => 0⟩
def ISP.LOCKED_WRITE : Fld := ⟨0x40080004, 1, 0x0, 1, 0x0, 31, 1, .w1c, .both, fun _ => 0⟩

/-! ISP, chapter 09: ISP_EVT. -/
def ISP.EVT_FRAME_DONE : Fld := ⟨0x40080008, 1, 0x0, 1, 0x0, 0, 1, .w1c, .both, fun _ => 0⟩
def ISP.EVT_FRAME_START : Fld := ⟨0x40080008, 1, 0x0, 1, 0x0, 1, 1, .w1c, .both, fun _ => 0⟩
def ISP.EVT_INCOMPLETE : Fld := ⟨0x40080008, 1, 0x0, 1, 0x0, 2, 1, .w1c, .both, fun _ => 0⟩
def ISP.EVT_DAMAGED : Fld := ⟨0x40080008, 1, 0x0, 1, 0x0, 3, 1, .w1c, .both, fun _ => 0⟩
def ISP.EVT_OVERFLOW : Fld := ⟨0x40080008, 1, 0x0, 1, 0x0, 4, 1, .w1c, .both, fun _ => 0⟩
def ISP.EVT_LINK_LOST : Fld := ⟨0x40080008, 1, 0x0, 1, 0x0, 5, 1, .w1c, .both, fun _ => 0⟩
def ISP.EVT_TAP_SKIPPED : Fld := ⟨0x40080008, 1, 0x0, 1, 0x0, 6, 1, .w1c, .both, fun _ => 0⟩
def ISP.EVT_TOO_FAST : Fld := ⟨0x40080008, 1, 0x0, 1, 0x0, 7, 1, .w1c, .both, fun _ => 0⟩
def ISP.EVT_POC_TRIP : Fld := ⟨0x40080008, 1, 0x0, 1, 0x0, 8, 1, .w1c, .both, fun _ => 0⟩

/-! ISP, chapter 09: ISP_QUEUES. -/
def ISP.FRAME_Q : Fld := ⟨0x4008000C, 1, 0x0, 1, 0x0, 0, 6, .ro, .loader, fun _ => 0⟩
def ISP.STATS_Q : Fld := ⟨0x4008000C, 1, 0x0, 1, 0x0, 8, 6, .ro, .loader, fun _ => 0⟩

/-! ISP, chapter 09: Port registers. -/
def ISP.P_GEAR : Fld := ⟨0x40080100, 2, 0x40, 1, 0x0, 0, 2, .ro, .loader, fun _ => 0⟩
def ISP.P_POC_EN : Fld := ⟨0x40080100, 2, 0x40, 1, 0x0, 4, 1, .rw, .both, fun _ => 0⟩
def ISP.P_FSYNC_EN : Fld := ⟨0x40080100, 2, 0x40, 1, 0x0, 5, 1, .rws, .both, fun _ => 0⟩
def ISP.P_FSYNC_OFS_US : Fld := ⟨0x40080104, 2, 0x40, 1, 0x0, 0, 16, .rws, .both, fun _ => 0⟩
def ISP.P_LINK_UP : Fld := ⟨0x40080108, 2, 0x40, 1, 0x0, 0, 1, .ro, .both, fun _ => 0⟩
def ISP.P_POC_TRIP : Fld := ⟨0x40080108, 2, 0x40, 1, 0x0, 1, 1, .ro, .both, fun _ => 0⟩
def ISP.P_LINK_DROPS : Fld := ⟨0x4008010C, 2, 0x40, 1, 0x0, 0, 16, .ro, .both, fun _ => 0⟩
def ISP.P_ECC_CORR : Fld := ⟨0x4008010C, 2, 0x40, 1, 0x0, 16, 16, .ro, .both, fun _ => 0⟩
def ISP.P_ECC_UNCORR : Fld := ⟨0x40080110, 2, 0x40, 1, 0x0, 0, 16, .ro, .both, fun _ => 0⟩
def ISP.P_DISCARDED : Fld := ⟨0x40080110, 2, 0x40, 1, 0x0, 16, 16, .ro, .both, fun _ => 0⟩
def ISP.P_I2C_ADDR : Fld := ⟨0x40080114, 2, 0x40, 1, 0x0, 0, 7, .rw, .both, fun _ => 0⟩
def ISP.P_I2C_READ : Fld := ⟨0x40080114, 2, 0x40, 1, 0x0, 7, 1, .rw, .both, fun _ => 0⟩
def ISP.P_I2C_REG : Fld := ⟨0x40080114, 2, 0x40, 1, 0x0, 8, 16, .rw, .both, fun _ => 0⟩
def ISP.P_I2C_DATA : Fld := ⟨0x40080118, 2, 0x40, 1, 0x0, 0, 8, .rw, .both, fun _ => 0⟩
def ISP.P_I2C_GO : Fld := ⟨0x4008011C, 2, 0x40, 1, 0x0, 0, 1, .wo, .both, fun _ => 0⟩
def ISP.P_I2C_STATE : Fld := ⟨0x4008011C, 2, 0x40, 1, 0x0, 8, 2, .ro, .both, fun _ => 0⟩

/-! ISP, chapter 09: Camera registers. -/
def ISP.C_EN : Fld := ⟨0x40081000, 8, 0x1000, 1, 0x0, 0, 1, .rw, .both, fun _ => 0⟩
def ISP.C_DPC_PRESET : Fld := ⟨0x40081000, 8, 0x1000, 1, 0x0, 1, 2, .rw, .both, fun _ => 1⟩
def ISP.C_TONE_PRESET : Fld := ⟨0x40081000, 8, 0x1000, 1, 0x0, 3, 2, .rw, .both, fun _ => 1⟩
def ISP.C_TAP_POINT : Fld := ⟨0x40081000, 8, 0x1000, 1, 0x0, 5, 3, .rws, .both, fun _ => 0⟩
def ISP.C_TAP_DECIM : Fld := ⟨0x40081000, 8, 0x1000, 1, 0x0, 8, 8, .rws, .both, fun _ => 1⟩
def ISP.C_DM_MODE : Fld := ⟨0x40081000, 8, 0x1000, 1, 0x0, 16, 1, .rws, .both, fun _ => 0⟩
def ISP.C_SHADING_EN : Fld := ⟨0x40081000, 8, 0x1000, 1, 0x0, 17, 1, .rws, .both, fun _ => 0⟩
def ISP.C_DPC_DYN_EN : Fld := ⟨0x40081000, 8, 0x1000, 1, 0x0, 18, 1, .rws, .both, fun _ => 1⟩
def ISP.C_DPC_STATIC_EN : Fld := ⟨0x40081000, 8, 0x1000, 1, 0x0, 19, 1, .rws, .both, fun _ => 1⟩
def ISP.C_WIDTH : Fld := ⟨0x40081004, 8, 0x1000, 1, 0x0, 0, 12, .ro, .loader, fun _ => 0⟩
def ISP.C_HEIGHT : Fld := ⟨0x40081004, 8, 0x1000, 1, 0x0, 16, 12, .ro, .loader, fun _ => 0⟩
def ISP.C_CFA : Fld := ⟨0x40081008, 8, 0x1000, 1, 0x0, 0, 2, .ro, .loader, fun _ => 0⟩
def ISP.C_DT : Fld := ⟨0x40081008, 8, 0x1000, 1, 0x0, 2, 2, .ro, .loader, fun _ => 0⟩
def ISP.C_FPS_MAX : Fld := ⟨0x40081008, 8, 0x1000, 1, 0x0, 8, 8, .ro, .loader, fun _ => 0⟩
def ISP.C_N_BUF : Fld := ⟨0x40081008, 8, 0x1000, 1, 0x0, 16, 4, .ro, .loader, fun _ => 0⟩
def ISP.C_TAP_MAX : Fld := ⟨0x40081008, 8, 0x1000, 1, 0x0, 20, 3, .ro, .loader, fun _ => 0⟩
def ISP.C_BUILT : Fld := ⟨0x40081008, 8, 0x1000, 1, 0x0, 31, 1, .ro, .loader, fun _ => 0⟩
def ISP.C_PSET_TAG : Fld := ⟨0x4008100C, 8, 0x1000, 1, 0x0, 0, 16, .rws, .both, fun _ => 0⟩
def ISP.C_CAPT_OFS_US : Fld := ⟨0x4008100C, 8, 0x1000, 1, 0x0, 16, 16, .rws, .both, fun _ => 0⟩
def ISP.C_BL0 : Fld := ⟨0x40081010, 8, 0x1000, 1, 0x0, 0, 16, .rws, .both, fun _ => 0⟩
def ISP.C_BL1 : Fld := ⟨0x40081010, 8, 0x1000, 1, 0x0, 16, 16, .rws, .both, fun _ => 0⟩
def ISP.C_BL2 : Fld := ⟨0x40081014, 8, 0x1000, 1, 0x0, 0, 16, .rws, .both, fun _ => 0⟩
def ISP.C_BL3 : Fld := ⟨0x40081014, 8, 0x1000, 1, 0x0, 16, 16, .rws, .both, fun _ => 0⟩
def ISP.C_WB0 : Fld := ⟨0x40081018, 8, 0x1000, 1, 0x0, 0, 16, .rws, .both, fun _ => 0⟩
def ISP.C_WB1 : Fld := ⟨0x40081018, 8, 0x1000, 1, 0x0, 16, 16, .rws, .both, fun _ => 0⟩
def ISP.C_WB2 : Fld := ⟨0x4008101C, 8, 0x1000, 1, 0x0, 0, 16, .rws, .both, fun _ => 0⟩
def ISP.C_WB3 : Fld := ⟨0x4008101C, 8, 0x1000, 1, 0x0, 16, 16, .rws, .both, fun _ => 0⟩
def ISP.C_DPC_HI : Fld := ⟨0x40081020, 8, 0x1000, 1, 0x0, 0, 16, .rws, .both, fun _ => 4096⟩
def ISP.C_DPC_LO : Fld := ⟨0x40081020, 8, 0x1000, 1, 0x0, 16, 16, .rws, .both, fun _ => 4096⟩
def ISP.C_SAT_THR : Fld := ⟨0x40081024, 8, 0x1000, 1, 0x0, 0, 16, .rws, .both, fun _ => 61440⟩
def ISP.C_DM_THR : Fld := ⟨0x40081024, 8, 0x1000, 1, 0x0, 16, 16, .rws, .both, fun _ => 0⟩
def ISP.C_FRAME_NO : Fld := ⟨0x40081040, 8, 0x1000, 1, 0x0, 0, 32, .ro, .both, fun _ => 0⟩
def ISP.C_SENSOR_FN : Fld := ⟨0x40081044, 8, 0x1000, 1, 0x0, 0, 16, .ro, .both, fun _ => 0⟩
def ISP.C_STATIC_N : Fld := ⟨0x40081044, 8, 0x1000, 1, 0x0, 16, 13, .ro, .loader, fun _ => 0⟩
def ISP.C_INCOMPLETE : Fld := ⟨0x40081048, 8, 0x1000, 1, 0x0, 0, 16, .ro, .both, fun _ => 0⟩
def ISP.C_DAMAGED : Fld := ⟨0x40081048, 8, 0x1000, 1, 0x0, 16, 16, .ro, .both, fun _ => 0⟩
def ISP.C_OVERFLOW : Fld := ⟨0x4008104C, 8, 0x1000, 1, 0x0, 0, 16, .ro, .both, fun _ => 0⟩
def ISP.C_TAP_SKIPS : Fld := ⟨0x4008104C, 8, 0x1000, 1, 0x0, 16, 16, .ro, .both, fun _ => 0⟩
def ISP.C_TOO_FAST : Fld := ⟨0x40081050, 8, 0x1000, 1, 0x0, 0, 16, .ro, .both, fun _ => 0⟩
def ISP.C_LONG : Fld := ⟨0x40081050, 8, 0x1000, 1, 0x0, 16, 16, .ro, .both, fun _ => 0⟩
def ISP.C_C00 : Fld := ⟨0x40081028, 8, 0x1000, 1, 0x0, 0, 16, .rws, .both, fun _ => 0⟩
def ISP.C_C01 : Fld := ⟨0x40081028, 8, 0x1000, 1, 0x0, 16, 16, .rws, .both, fun _ => 0⟩
def ISP.C_C02 : Fld := ⟨0x4008102C, 8, 0x1000, 1, 0x0, 0, 16, .rws, .both, fun _ => 0⟩
def ISP.C_C10 : Fld := ⟨0x4008102C, 8, 0x1000, 1, 0x0, 16, 16, .rws, .both, fun _ => 0⟩
def ISP.C_C11 : Fld := ⟨0x40081030, 8, 0x1000, 1, 0x0, 0, 16, .rws, .both, fun _ => 0⟩
def ISP.C_C12 : Fld := ⟨0x40081030, 8, 0x1000, 1, 0x0, 16, 16, .rws, .both, fun _ => 0⟩
def ISP.C_C20 : Fld := ⟨0x40081034, 8, 0x1000, 1, 0x0, 0, 16, .rws, .both, fun _ => 0⟩
def ISP.C_C21 : Fld := ⟨0x40081034, 8, 0x1000, 1, 0x0, 16, 16, .rws, .both, fun _ => 0⟩
def ISP.C_C22 : Fld := ⟨0x40081038, 8, 0x1000, 1, 0x0, 0, 16, .rws, .both, fun _ => 0⟩
def ISP.C_T_EVEN : Fld := ⟨0x40081200, 8, 0x1000, 129, 0x4, 0, 16, .rws, .both, fun i => toneGamma.getD (2 * (i % 129)) 0⟩
def ISP.C_T_ODD : Fld := ⟨0x40081200, 8, 0x1000, 128, 0x4, 16, 16, .rws, .both, fun i => toneGamma.getD (2 * (i % 128) + 1) 0⟩
def ISP.C_G0_EVEN : Fld := ⟨0x40081440, 8, 0x1000, 145, 0x4, 0, 16, .rws, .both, fun _ => 0⟩
def ISP.C_G0_ODD : Fld := ⟨0x40081440, 8, 0x1000, 144, 0x4, 16, 16, .rws, .both, fun _ => 0⟩
def ISP.C_G1_EVEN : Fld := ⟨0x40081690, 8, 0x1000, 145, 0x4, 0, 16, .rws, .both, fun _ => 0⟩
def ISP.C_G1_ODD : Fld := ⟨0x40081690, 8, 0x1000, 144, 0x4, 16, 16, .rws, .both, fun _ => 0⟩
def ISP.C_G2_EVEN : Fld := ⟨0x400818E0, 8, 0x1000, 145, 0x4, 0, 16, .rws, .both, fun _ => 0⟩
def ISP.C_G2_ODD : Fld := ⟨0x400818E0, 8, 0x1000, 144, 0x4, 16, 16, .rws, .both, fun _ => 0⟩
def ISP.C_G3_EVEN : Fld := ⟨0x40081B30, 8, 0x1000, 145, 0x4, 0, 16, .rws, .both, fun _ => 0⟩
def ISP.C_G3_ODD : Fld := ⟨0x40081B30, 8, 0x1000, 144, 0x4, 16, 16, .rws, .both, fun _ => 0⟩

/-- Every field of ISP. -/
def ISP.fields : List Fld :=
  [ISP.EN, ISP.CP0_UP, ISP.CP1_UP, ISP.CLAMPED, ISP.LOCKED_WRITE, ISP.EVT_FRAME_DONE, ISP.EVT_FRAME_START, ISP.EVT_INCOMPLETE, ISP.EVT_DAMAGED, ISP.EVT_OVERFLOW, ISP.EVT_LINK_LOST, ISP.EVT_TAP_SKIPPED, ISP.EVT_TOO_FAST, ISP.EVT_POC_TRIP, ISP.FRAME_Q, ISP.STATS_Q] ++
  [ISP.P_GEAR, ISP.P_POC_EN, ISP.P_FSYNC_EN, ISP.P_FSYNC_OFS_US, ISP.P_LINK_UP, ISP.P_POC_TRIP, ISP.P_LINK_DROPS, ISP.P_ECC_CORR, ISP.P_ECC_UNCORR, ISP.P_DISCARDED, ISP.P_I2C_ADDR, ISP.P_I2C_READ, ISP.P_I2C_REG, ISP.P_I2C_DATA, ISP.P_I2C_GO, ISP.P_I2C_STATE] ++
  [ISP.C_EN, ISP.C_DPC_PRESET, ISP.C_TONE_PRESET, ISP.C_TAP_POINT, ISP.C_TAP_DECIM, ISP.C_DM_MODE, ISP.C_SHADING_EN, ISP.C_DPC_DYN_EN, ISP.C_DPC_STATIC_EN, ISP.C_WIDTH, ISP.C_HEIGHT, ISP.C_CFA, ISP.C_DT, ISP.C_FPS_MAX, ISP.C_N_BUF, ISP.C_TAP_MAX] ++
  [ISP.C_BUILT, ISP.C_PSET_TAG, ISP.C_CAPT_OFS_US, ISP.C_BL0, ISP.C_BL1, ISP.C_BL2, ISP.C_BL3, ISP.C_WB0, ISP.C_WB1, ISP.C_WB2, ISP.C_WB3, ISP.C_DPC_HI, ISP.C_DPC_LO, ISP.C_SAT_THR, ISP.C_DM_THR, ISP.C_FRAME_NO] ++
  [ISP.C_SENSOR_FN, ISP.C_STATIC_N, ISP.C_INCOMPLETE, ISP.C_DAMAGED, ISP.C_OVERFLOW, ISP.C_TAP_SKIPS, ISP.C_TOO_FAST, ISP.C_LONG, ISP.C_C00, ISP.C_C01, ISP.C_C02, ISP.C_C10, ISP.C_C11, ISP.C_C12, ISP.C_C20, ISP.C_C21] ++
  [ISP.C_C22, ISP.C_T_EVEN, ISP.C_T_ODD, ISP.C_G0_EVEN, ISP.C_G0_ODD, ISP.C_G1_EVEN, ISP.C_G1_ODD, ISP.C_G2_EVEN, ISP.C_G2_ODD, ISP.C_G3_EVEN, ISP.C_G3_ODD]

/-! GNS, chapter 10: GNS_CTL. -/
def GNS.EN : Fld := ⟨0x40090000, 1, 0x0, 1, 0x0, 0, 1, .rw, .both, fun _ => 1⟩
def GNS.GNSS_PRESET : Fld := ⟨0x40090000, 1, 0x0, 1, 0x0, 1, 2, .rw, .both, fun _ => 0⟩
def GNS.POS_SRC : Fld := ⟨0x40090000, 1, 0x0, 1, 0x0, 4, 1, .rws, .both, fun _ => 0⟩
def GNS.EXT_FALLBACK : Fld := ⟨0x40090000, 1, 0x0, 1, 0x0, 5, 1, .rws, .both, fun _ => 0⟩
def GNS.PPS_MODE : Fld := ⟨0x40090000, 1, 0x0, 1, 0x0, 6, 2, .rw, .both, fun _ => 1⟩
def GNS.PPS_WIDTH_MS : Fld := ⟨0x40090000, 1, 0x0, 1, 0x0, 8, 10, .rw, .both, fun _ => 100⟩

/-! GNS, chapter 10: GNS_STAT. -/
def GNS.FIX : Fld := ⟨0x40090004, 1, 0x0, 1, 0x0, 0, 2, .ro, .both, fun _ => 0⟩
def GNS.TIME_VALID : Fld := ⟨0x40090004, 1, 0x0, 1, 0x0, 2, 1, .ro, .both, fun _ => 0⟩
def GNS.HDG_VALID : Fld := ⟨0x40090004, 1, 0x0, 1, 0x0, 3, 1, .ro, .both, fun _ => 0⟩
def GNS.START_TYPE : Fld := ⟨0x40090004, 1, 0x0, 1, 0x0, 4, 2, .ro, .both, fun _ => 0⟩
def GNS.ANT0_STATE : Fld := ⟨0x40090004, 1, 0x0, 1, 0x0, 6, 2, .ro, .both, fun _ => 3⟩
def GNS.ANT1_STATE : Fld := ⟨0x40090004, 1, 0x0, 1, 0x0, 8, 2, .ro, .both, fun _ => 3⟩
def GNS.NSV : Fld := ⟨0x40090004, 1, 0x0, 1, 0x0, 10, 6, .ro, .both, fun _ => 0⟩
def GNS.TRACKING : Fld := ⟨0x40090004, 1, 0x0, 1, 0x0, 16, 8, .ro, .both, fun _ => 0⟩
def GNS.CLAMPED : Fld := ⟨0x40090004, 1, 0x0, 1, 0x0, 30, 1, .w1c, .both, fun _ => 0⟩
def GNS.LOCKED_WRITE : Fld := ⟨0x40090004, 1, 0x0, 1, 0x0, 31, 1, .w1c, .both, fun _ => 0⟩

/-! GNS, chapter 10: GNS_EVT. -/
def GNS.EVT_FIX_GAINED : Fld := ⟨0x40090008, 1, 0x0, 1, 0x0, 0, 1, .w1c, .both, fun _ => 0⟩
def GNS.EVT_FIX_LOST : Fld := ⟨0x40090008, 1, 0x0, 1, 0x0, 1, 1, .w1c, .both, fun _ => 0⟩
def GNS.EVT_HDG_LOST : Fld := ⟨0x40090008, 1, 0x0, 1, 0x0, 2, 1, .w1c, .both, fun _ => 0⟩
def GNS.EVT_ANT_FAULT : Fld := ⟨0x40090008, 1, 0x0, 1, 0x0, 3, 1, .w1c, .both, fun _ => 0⟩
def GNS.EVT_PPS_MISSED : Fld := ⟨0x40090008, 1, 0x0, 1, 0x0, 4, 1, .w1c, .both, fun _ => 0⟩
def GNS.EVT_EXT_LATE : Fld := ⟨0x40090008, 1, 0x0, 1, 0x0, 5, 1, .w1c, .both, fun _ => 0⟩
def GNS.EVT_STORE_FAIL : Fld := ⟨0x40090008, 1, 0x0, 1, 0x0, 6, 1, .w1c, .both, fun _ => 0⟩

/-! GNS, chapter 10: Configuration. -/
def GNS.RATE_HZ : Fld := ⟨0x4009000C, 1, 0x0, 1, 0x0, 0, 3, .rws, .both, fun _ => 3⟩
def GNS.ELEV_MASK : Fld := ⟨0x4009000C, 1, 0x0, 1, 0x0, 4, 8, .rws, .both, fun _ => 10⟩
def GNS.CN0_MASK : Fld := ⟨0x4009000C, 1, 0x0, 1, 0x0, 12, 6, .rws, .both, fun _ => 30⟩
def GNS.CONST_EN : Fld := ⟨0x4009000C, 1, 0x0, 1, 0x0, 20, 3, .rws, .both, fun _ => 7⟩
def GNS.BAND_EN : Fld := ⟨0x4009000C, 1, 0x0, 1, 0x0, 24, 2, .rws, .both, fun _ => 3⟩
def GNS.ANT0_BIAS : Fld := ⟨0x40090010, 1, 0x0, 1, 0x0, 0, 2, .rwl, .both, fun _ => 0⟩
def GNS.ANT1_BIAS : Fld := ⟨0x40090010, 1, 0x0, 1, 0x0, 2, 2, .rwl, .both, fun _ => 0⟩
def GNS.ANT1_EN : Fld := ⟨0x40090010, 1, 0x0, 1, 0x0, 4, 1, .rwl, .both, fun _ => 0⟩

/-! GNS, chapter 10: Monitors. -/
def GNS.ANT0_MA : Fld := ⟨0x40090014, 1, 0x0, 1, 0x0, 0, 8, .ro, .both, fun _ => 0⟩
def GNS.ANT1_MA : Fld := ⟨0x40090014, 1, 0x0, 1, 0x0, 8, 8, .ro, .both, fun _ => 0⟩
def GNS.AGC0 : Fld := ⟨0x40090014, 1, 0x0, 1, 0x0, 16, 8, .ro, .both, fun _ => 0⟩
def GNS.AGC1 : Fld := ⟨0x40090014, 1, 0x0, 1, 0x0, 24, 8, .ro, .both, fun _ => 0⟩
def GNS.PPS_QERR : Fld := ⟨0x40090018, 1, 0x0, 1, 0x0, 0, 32, .ro, .both, fun _ => 0⟩
def GNS.PPS_EDGE : Fld := ⟨0x4009001C, 1, 0x0, 1, 0x0, 0, 32, .ro, .both, fun _ => 0⟩
def GNS.LEAP_S : Fld := ⟨0x40090020, 1, 0x0, 1, 0x0, 0, 8, .ro, .both, fun _ => 0⟩
def GNS.TTFF_MS : Fld := ⟨0x40090020, 1, 0x0, 1, 0x0, 8, 16, .ro, .both, fun _ => 0⟩
def GNS.FIX_LOSSES : Fld := ⟨0x40090024, 1, 0x0, 1, 0x0, 0, 16, .ro, .both, fun _ => 0⟩
def GNS.ANT_TRIPS : Fld := ⟨0x40090024, 1, 0x0, 1, 0x0, 16, 16, .ro, .both, fun _ => 0⟩
def GNS.CH_DISPLACED : Fld := ⟨0x40090028, 1, 0x0, 1, 0x0, 0, 16, .ro, .both, fun _ => 0⟩
def GNS.SLIPS : Fld := ⟨0x40090028, 1, 0x0, 1, 0x0, 16, 16, .ro, .both, fun _ => 0⟩

/-! GNS, chapter 10: Geometry and queues. -/
def GNS.ANT0_X : Fld := ⟨0x40090030, 1, 0x0, 1, 0x0, 0, 16, .rws, .both, fun _ => 0⟩
def GNS.ANT0_Y : Fld := ⟨0x40090030, 1, 0x0, 1, 0x0, 16, 16, .rws, .both, fun _ => 0⟩
def GNS.ANT0_Z : Fld := ⟨0x40090034, 1, 0x0, 1, 0x0, 0, 16, .rws, .both, fun _ => 0⟩
def GNS.BASELINE_MM : Fld := ⟨0x40090038, 1, 0x0, 1, 0x0, 0, 16, .rws, .both, fun _ => 0⟩
def GNS.BASE_YAW : Fld := ⟨0x40090038, 1, 0x0, 1, 0x0, 16, 16, .rws, .both, fun _ => 0⟩
def GNS.MEAS_Q : Fld := ⟨0x4009003C, 1, 0x0, 1, 0x0, 0, 6, .ro, .loader, fun _ => 0⟩
def GNS.PVT_Q : Fld := ⟨0x4009003C, 1, 0x0, 1, 0x0, 8, 6, .ro, .loader, fun _ => 0⟩

/-! GNS, chapter 10: External solution. -/
def GNS.EXT_SEQ : Fld := ⟨0x40090080, 1, 0x0, 1, 0x0, 0, 16, .rw, .both, fun _ => 0⟩
def GNS.EXT_TMO_MS : Fld := ⟨0x40090080, 1, 0x0, 1, 0x0, 16, 9, .rws, .both, fun _ => 100⟩
def GNS.EXT_LAT : Fld := ⟨0x40090084, 1, 0x0, 1, 0x0, 0, 32, .rw, .both, fun _ => 0⟩
def GNS.EXT_LON : Fld := ⟨0x40090088, 1, 0x0, 1, 0x0, 0, 32, .rw, .both, fun _ => 0⟩
def GNS.EXT_LAT_HP : Fld := ⟨0x4009008C, 1, 0x0, 1, 0x0, 0, 8, .rw, .both, fun _ => 0⟩
def GNS.EXT_LON_HP : Fld := ⟨0x4009008C, 1, 0x0, 1, 0x0, 8, 8, .rw, .both, fun _ => 0⟩
def GNS.EXT_HEIGHT : Fld := ⟨0x40090090, 1, 0x0, 1, 0x0, 0, 32, .rw, .both, fun _ => 0⟩
def GNS.EXT_HEADING : Fld := ⟨0x40090094, 1, 0x0, 1, 0x0, 0, 16, .rw, .both, fun _ => 0⟩
def GNS.EXT_HDG_VALID : Fld := ⟨0x40090094, 1, 0x0, 1, 0x0, 16, 1, .rw, .both, fun _ => 0⟩
def GNS.EXT_H_ACC : Fld := ⟨0x40090098, 1, 0x0, 1, 0x0, 0, 16, .rw, .both, fun _ => 0⟩
def GNS.EXT_GO : Fld := ⟨0x4009009C, 1, 0x0, 1, 0x0, 0, 1, .wo, .both, fun _ => 0⟩

/-- Every field of GNS. -/
def GNS.fields : List Fld :=
  [GNS.EN, GNS.GNSS_PRESET, GNS.POS_SRC, GNS.EXT_FALLBACK, GNS.PPS_MODE, GNS.PPS_WIDTH_MS, GNS.FIX, GNS.TIME_VALID, GNS.HDG_VALID, GNS.START_TYPE, GNS.ANT0_STATE, GNS.ANT1_STATE, GNS.NSV, GNS.TRACKING, GNS.CLAMPED, GNS.LOCKED_WRITE] ++
  [GNS.EVT_FIX_GAINED, GNS.EVT_FIX_LOST, GNS.EVT_HDG_LOST, GNS.EVT_ANT_FAULT, GNS.EVT_PPS_MISSED, GNS.EVT_EXT_LATE, GNS.EVT_STORE_FAIL, GNS.RATE_HZ, GNS.ELEV_MASK, GNS.CN0_MASK, GNS.CONST_EN, GNS.BAND_EN, GNS.ANT0_BIAS, GNS.ANT1_BIAS, GNS.ANT1_EN, GNS.ANT0_MA] ++
  [GNS.ANT1_MA, GNS.AGC0, GNS.AGC1, GNS.PPS_QERR, GNS.PPS_EDGE, GNS.LEAP_S, GNS.TTFF_MS, GNS.FIX_LOSSES, GNS.ANT_TRIPS, GNS.CH_DISPLACED, GNS.SLIPS, GNS.ANT0_X, GNS.ANT0_Y, GNS.ANT0_Z, GNS.BASELINE_MM, GNS.BASE_YAW] ++
  [GNS.MEAS_Q, GNS.PVT_Q, GNS.EXT_SEQ, GNS.EXT_TMO_MS, GNS.EXT_LAT, GNS.EXT_LON, GNS.EXT_LAT_HP, GNS.EXT_LON_HP, GNS.EXT_HEIGHT, GNS.EXT_HEADING, GNS.EXT_HDG_VALID, GNS.EXT_H_ACC, GNS.EXT_GO]

end Sys2Proof.Machine
end

