-- ==== Sys2Proof/Machine/RegMap.lean ====
section
/-! DEFINITION. Machine/RegMap.lean: the fields of each block by block number (Table 1.10, R36). -/

namespace Sys2Proof.Machine

/-- The fields of the block at 0x4000_0000 + b × 0x1_0000 (Table 1.10). -/
def blockFields (b : Nat) : List Fld :=
  match b with
  | 0 => SYS.fields
  | 1 => CFG.fields
  | 2 => PREG.fields
  | 3 => TMB.fields
  | 4 => LAH.fields
  | 5 => SLU.fields
  | 6 => CTL.fields
  | 7 => FUS.fields
  | 8 => ISP.fields
  | 9 => GNS.fields
  | 10 => LSW.fields
  | 11 => VDR.fields
  | 12 => FIO.fields
  | 13 => BLW.fields
  | 14 => CAN.fields
  | 15 => ETH.fields
  | 16 => QUE.fields
  | 17 => REC.fields
  | 18 => THM.fields
  | 19 => FLT.fields
  | 20 => UPD.fields
  | _ => []

end Sys2Proof.Machine
end

