-- ==== Sys2Proof/Machine/State.lean ====
section
/-! DEFINITION. Machine/State.lean: what the machine holds. -/

namespace Sys2Proof.Machine

/-- Faults of the model: a run ends. -/
inductive Fault where
  /-- Raised by a supply event whose voltage lies outside the ratings of R50 and R51: the spec gives the module no
  behaviour there (Table 2.4). Safe: the model stops where the hardware may be damaged or go on. -/
  | outsideRatings
  deriving DecidableEq, Repr

/-- Refusals of the model. -/
inductive Refusal where
  /-- Raised by an arm of `exec` whose command has no meaning yet. Safe. -/
  | notModelled (mnemonic : String)
  deriving DecidableEq, Repr

/-- DRAM: (address, byte) pairs, addresses rising, no byte equal to what an unlisted address reads as. -/
abbrev Memory := List Host.Cell

/-- The register file: (field key, value) pairs, keys rising; an unlisted field reads its reset value (R6). -/
abbrev RegFile := List (Nat × Nat)

/-- What leaves the module, and what a command makes observable at its contacts. -/
inductive Emission where
  /-- A CAN frame sent on a port (R349, R168). -/
  | can (port id : Nat) (data : List Nat)
  /-- An Ethernet message sent on a port, by kind, to a peer or address (R360 to R371). -/
  | eth (port kind dst : Nat) (data : List Nat)
  /-- A response of the configuration bus or of a window: 0 accepted, 1 bus error (R4, R18). -/
  | busResponse (err : Nat)
  /-- A pulse or level on a pin that is no gated output: PPS, FSYNC and the like. -/
  | pin (unit n level : Nat)
  /-- A tunnelled I2C transfer started: port, address, read, register, byte (R258). -/
  | i2c (port addr : Nat) (read : Bool) (reg byte : Nat)
  /-- An Opdofy datagram on SVC to a host (R428 to R431). -/
  | opdofy (host : Nat) (data : List Nat)
  /-- A frame from the field cores' rings, or one that passes to them: port and bytes (R361, R362). -/
  | ring (port : Nat) (data : List Nat)
  /-- The field cores are reset (R59). -/
  | coreReset
  deriving DecidableEq, Repr, Inhabited

/-- Happenings that a command leaves to the fault manager, taken up in order at its end (R436, R437, R443). -/
inductive Raised where
  /-- A fault is detected: code and instance (channel, slot, node ...). -/
  | fault (code inst : Nat)
  /-- A fault's recovery is reported (R439). -/
  | recover (code inst : Nat)
  /-- Event causes or masks changed: the summaries are looked at again (R436). -/
  | route
  /-- The gates are formed again (R40). -/
  | gates
  /-- SAFE is to be entered on a granted request: byte 2 of the MODE record (Table 16.5). -/
  | safe (why : Nat)
  deriving DecidableEq, Repr, Inhabited

/-- A process-image point record (Table 1.5) with the instant its freshness limit runs from (R29). -/
structure Point where
  value : Nat
  status : Nat
  seq : Nat
  stamp : Nat
  since : Nat
  deriving DecidableEq, Repr, Inhabited

/-- A formed record: Table 16.1 without REC_NO, which is assigned at storing (R399). -/
structure Rec where
  kind : Nat
  code : Nat
  severity : Nat
  flags : Nat
  ref : Nat
  data : List Nat
  opS : Nat
  pwr : Nat
  /-- The instant it was formed: its store completes within 20 µs of it (R399). -/
  formedAt : Nat
  deriving DecidableEq, Repr, Inhabited

/-- Hidden state of the event recorder (chapter 16). -/
structure RecH where
  /-- Formed records waiting, oldest first, at most 64 (R399). -/
  backlog : List Rec
  /-- Stored records: (REC_NO, 32 bytes). -/
  stored : List (Nat × List Nat)
  /-- The mode in force has been latched (R400). -/
  latched : Bool
  /-- Crust is still filling (R400). -/
  crustOpen : Bool
  /-- The single area or Tide holds records from this REC_NO (R403). -/
  lostSince : Nat
  /-- REC-FULL has been raised for this filling (R401). -/
  fullRaised : Bool
  /-- The challenge and the instant it was given; none when missing or used (R404). -/
  challenge : Option (List Nat × Nat)
  /-- The instants of the USER records accepted in the last second (R402). -/
  userAt : List Nat
  /-- The instant the last clear was accepted (R405). -/
  clearedAt : Nat
  /-- The instant the last store completed (R399). -/
  storedAt : Nat
  /-- The instant REC_OPS last counted on, or PD2 was last seen off (R398). -/
  opsAt : Nat
  deriving DecidableEq, Repr, Inhabited

/-- Hidden state of the fault manager (chapter 18). -/
structure FltH where
  /-- Active faults: (code, instance) (R438). -/
  active : List (Nat × Nat)
  /-- The open reaction window: its end, and the REC_NO of the record that opened it (R441). -/
  window : Option (Nat × Nat)
  /-- Codes reacted to in the open window (R439). -/
  reacted : List Nat
  /-- Gates closed by reactions of the open window, kept closed until it ends (R439). -/
  held : List Chan
  /-- Per fault code, the instant of its last record (R440). -/
  lastRec : List (Nat × Nat)
  /-- The instant MODE came to read SAFE (R445). -/
  safeAt : Nat
  /-- The summaries pending when last looked at, one bit per EVn (R436). -/
  pending : Nat
  /-- Recoveries that come about by the passing of time: instant, code, instance (Table 18.6). -/
  due : List (Nat × Nat × Nat)
  /-- A SAFE entry waits for step 8 of Table 2.7 (R43, R442): byte 2 of its MODE record. -/
  safeWaits : Option Nat
  deriving DecidableEq, Repr, Inhabited

/-- An entry of a queue with its stored tag (Table 15.2). -/
structure QEntry where
  data : List Nat
  valid : Nat
  first : Bool
  last : Bool
  broken : Bool
  seq : Nat
  void : Bool
  /-- The instant the entry was formed (R382). -/
  formedAt : Nat
  deriving DecidableEq, Repr, Inhabited

/-- Hidden state of one queue (chapter 15). -/
structure QueH where
  /-- Head file, or the class L chain, oldest first (R381, R382). -/
  head : List QEntry
  /-- Entries in Brine, oldest first. -/
  middle : List QEntry
  /-- Tail file, oldest first. -/
  tail : List QEntry
  /-- The open item at the write port: its number, the bytes of the entry being filled, and whether an entry of it was
  formed (R380). -/
  item : Option (Nat × List Nat × Bool)
  /-- Words up to the next START or ONE are discarded (R384, R389). -/
  discarding : Bool
  /-- An entry that waits for the tail file, with the instant it began to wait (R384). -/
  waiting : Option (QEntry × Nat)
  /-- A completed entry in the second assembly register behind the waiting one (R384). -/
  second : Option QEntry
  /-- ITEM_SEQ of the next item. -/
  nextSeq : Nat
  fgen : Nat
  lastPopOk : Bool
  /-- The head entry is presented, with POISON as found (R383, R390). -/
  presented : Option Bool
  /-- The instant the stale timer runs from (R393). -/
  staleFrom : Option Nat
  /-- Class L: the earliest instant at which the head entry can stand at stage 0 behind what left before it (R382). -/
  readyAt : Nat
  /-- The instant up to which the write port has taken words, one a clock cycle (R380). -/
  portAt : Nat
  deriving DecidableEq, Repr, Inhabited

/-- Hidden state of modes, power and start-up (chapter 2). -/
structure SysH where
  /-- WAKE as debounced (R54). -/
  wake : Bool
  /-- The instant WAKE fell below its falling threshold (R62). -/
  wakeFell : Option Nat
  /-- SHUTDOWN_PENDING: the after-run runs (Table 2.9). -/
  shutdown : Bool
  /-- Parameters captured at step 1 of Table 2.9: AFTERRUN_MAX s, DORMANT_EN, DORMANT_DAYS (R61). -/
  afterRun : Nat
  dormantEn : Bool
  dormantDays : Nat
  afterRunFrom : Nat
  /-- The instant DORMANT was entered (R55). -/
  dormantAt : Nat
  /-- The mode requested by the transition in progress (R44). -/
  target : Option Nat
  /-- A crank or shutdown holds every gate closed (Tables 2.5 and 2.9). -/
  gatesShut : Bool
  /-- The supply class the boot ROM detected (R49). -/
  detected : Nat
  /-- The field-core watchdog runs from this instant (R60). -/
  fcwdFrom : Option Nat
  /-- Module time at which SYS_RTC last advanced. -/
  rtcAt : Nat
  /-- The lockstep pairs that work, 0 to 2 (R434). -/
  pairs : Nat
  /-- A brown-out has reset the module and LOG has not risen above 9.0 V since (R53). -/
  brownOut : Bool
  /-- WAKE fell while a transition ran: the shutdown delay starts with its end (R44). -/
  fellBusy : Bool
  /-- The instant BOOT was entered: step 1 of Table 2.7. -/
  bootAt : Nat
  /-- Records to be formed when the Shoit firmware next runs: kind, code, DATA (R58, R427, R472). -/
  owed : List (Nat × Nat × List Nat)
  deriving DecidableEq, Repr, Inhabited

/-- The content of one region as the loader has decoded it: field values, PARAM-BLOCK entries and structure. -/
structure Content where
  no : Nat
  length : Nat
  bytes : List Nat
  fields : List (Nat × Nat)
  params : List (Nat × Nat)
  items : List BuildItem
  deriving DecidableEq, Repr, Inhabited

/-- A live region waiting for its swap (R78), and a persisted patch (R84): its content and the partial image that carried it. -/
structure Swap where
  content : Content
  since : Nat
  persist : Bool
  image : Image
  deriving DecidableEq, Repr, Inhabited

/-- A static load being built (R79). -/
structure Build where
  image : Image
  persist : Bool
  contents : List Content
  deriving DecidableEq, Repr, Inhabited

/-- A load command whose image is being checked (Table 3.4): until when. -/
structure Checking where
  image : Image
  persist : Bool
  doneAt : Nat
  deriving DecidableEq, Repr, Inhabited

/-- An accepted load whose LOAD_RESULT is not final (R474): its image, the parts still to come (a region that waits for its swap to be
persisted, 16 for the static build), and the result so far. -/
structure Unrecorded where
  image : Image
  left : List Nat
  result : Nat
  deriving DecidableEq, Repr, Inhabited

/-- Hidden state of the image loader (chapter 3). -/
structure CfgH where
  /-- The copies of the stored full image, newest first, at most two (R84). -/
  full : List Image
  /-- The copies of each region's persisted patch, newest first, at most two (R84). -/
  patches : List (Nat × List Swap)
  /-- The load being checked (R77). -/
  checking : Option Checking
  /-- Accepted loads that have no record yet (R474). -/
  unrecorded : List Unrecorded
  /-- Live regions in their shadow copies (R78). -/
  swaps : List (Nat × Swap)
  /-- The static build under way (R79). -/
  building : Option Build
  /-- The running body of each region, as bytes (R71). -/
  bodies : List (Nat × List Nat)
  /-- The field values each region's running image gives (R91). -/
  sets : List (Nat × List (Nat × Nat))
  /-- Regions left unbuilt by an abandoned load (R80). -/
  unbuilt : List Nat
  /-- START_MODE of the image built (R67). -/
  startMode : Nat
  deriving DecidableEq, Repr, Inhabited

/-- One MD source at the fusion (R107). -/
structure MdSrc where
  /-- Latest sample in 2^-8 mm/s, none before the first. -/
  v : Option Int
  validAt : Int
  fresh : Bool
  pass : Bool
  passrun : Nat
  admitted : Bool
  deriving DecidableEq, Repr, Inhabited

/-- A pending scheduler event (R115). -/
structure Event where
  cls : Nat
  target : Int
  arg : Nat
  /-- 0 look-ahead, 1 Sluice, 2 field cores. -/
  filer : Nat
  order : Nat
  /-- The coordinate at filing was at or above the target (R116, BOTH). -/
  above : Bool
  /-- The instant it crossed its target, while it waits to be delivered or is noted during a hold (R118, R120). -/
  crossed : Option Nat
  /-- Noted during a hold that has ended, to be issued late (R120). -/
  held : Bool
  /-- Late at filing under ISSUE-NOW, while it waits (R117). -/
  late : Bool
  /-- To be discarded instead of issued, which waits while MD_STATE is LOST (R117, R120, Table 4.4). -/
  drop : Bool
  deriving DecidableEq, Repr, Inhabited

/-- An entry of the position history (R124). -/
structure HistEntry where
  mt : Nat
  md : Int
  state : Nat
  east : Int
  north : Int
  heading : Nat
  speed : Int
  deriving DecidableEq, Repr, Inhabited

/-- Hidden state of the Machine Timebase (chapter 4). -/
structure TmbH where
  /-- MT in ns; the fraction steering has built up, in 10^-9 ns; the rate steered, in ns for each second (R103). -/
  mt : Nat
  mtFrac : Int
  mtRate : Int
  /-- The 72-bit accumulator of MD in units of 2^-24 of 0.1 mm, and what the cycles have left below such a unit, in 390,625ths of it
  (R100; assumption 8). -/
  mdAcc : Int
  mdRem : Int
  /-- The fused speed in 2^-8 mm/s (R101). -/
  fused : Int
  /-- The rate at which MD advances now, in 2^-8 mm/s (Table 4.3). -/
  rate : Int
  /-- Fused speeds with the MT from which each held, newest first (R107). -/
  speeds : List (Nat × Int)
  /-- The MT since which MD speed has stayed at or below 0.2 km/h, and above 0.5 km/h, without a break (R41, R46). -/
  slowFrom : Option Nat
  fastFrom : Option Nat
  srcs : List (Nat × MdSrc)
  anchor : Nat
  /-- The instant of the last admitted sample as MT, or of the start (Table 4.3). -/
  lastAdmitted : Nat
  /-- MT of the next base tick. -/
  nextTick : Nat
  /-- PPS discipline: offset set; edges in a row below 1 µs, above 1 µs, above 1 ms; MT of the last edge (R104). -/
  ofsSet : Bool
  goodRun : Nat
  badRun : Nat
  bigRun : Nat
  lastEdge : Nat
  /-- RA at the last pulse, MT of it, the last pulse interval, direction, whether a pulse was seen (R105). -/
  raBase : Nat
  raPulse : Nat
  raInterval : Nat
  raBack : Bool
  raSeen : Bool
  /-- Pending events by slot and the generation of each slot (R115). -/
  slots : List (Nat × Event)
  gens : List (Nat × Nat)
  fileOrder : Nat
  /-- The slots whose last event issued, for ALREADY-ISSUED (R119): slot and MT of issue. -/
  issued : List (Nat × Nat)
  /-- WHEEL counts of the two pairs since the last base tick (R106). -/
  wheelA : Int
  wheelB : Int
  /-- MT of the last GSS pulse, none before the first (R106). -/
  gssPulse : Option Nat
  /-- The instant from which MD events are held (R120). -/
  holdFrom : Nat
  /-- Forward travel since the start or the last reversal; where the travel against the confirmed sense began, as the accumulator stood
  (R121). -/
  sawFwd : Bool
  turn : Option Int
  /-- History, newest first (R124). -/
  hist : List HistEntry
  deriving DecidableEq, Repr, Inhabited

/-- A Pan entry (R140, Table 5.4). -/
structure PanEntry where
  /-- A rate entry for an implement, or a switch entry for a section. -/
  isRate : Bool
  /-- Section number, or implement number for a rate entry. -/
  who : Nat
  /-- The implement the entry was filed for (R147). -/
  impl : Nat
  value : Nat
  /-- Target and issue point as MD in 0.1 mm. -/
  target : Int
  issueMd : Int
  /-- ISSUED, else FILED. -/
  issued : Bool
  /-- The scheduler handle while FILED (R115). -/
  handle : Nat
  mtIssue : Nat
  /-- Delay in ms the entry issued with. -/
  delayMs : Nat
  /-- Largest check-point deviation since filing, mm (Table 5.7). -/
  dev : Int
  /-- The rate in force before a rate entry issued (R150). -/
  before : Nat
  /-- An OFF that rule 3 of R137 decided. -/
  stall : Bool
  /-- Flags of its issue record, for the RAKE item (Table 5.7). -/
  flags : Nat
  deriving DecidableEq, Repr, Inhabited

/-- A committed path, or a prediction: constant curvature from a start pose (R130, R133). Positions in µm, heading in
2^-32 revolution, curvature in 10^-6 per m. -/
structure Path where
  md0 : Int
  east : Int
  north : Int
  heading : Nat
  curv : Int
  /-- The implement's own heading at the start, for TRAILED. -/
  trail : Nat
  deriving DecidableEq, Repr, Inhabited

/-- Hidden state of one section (R139): delivered commands whose delay runs, newest first, with their effective instants in
MT. -/
structure SecH where
  due : List (Bool × Nat)
  deriving DecidableEq, Repr, Inhabited

/-- A flood trigger not yet taken up (R147, R148). -/
structure Trigger where
  cause : Nat
  impls : List Nat
  sections : List Nat
  deriving DecidableEq, Repr, Inhabited

/-- Hidden state of the look-ahead unit (chapter 5). -/
structure LahH where
  /-- The pose: µm in the local grid, heading in 2^-32 revolution (R129). -/
  east : Int
  north : Int
  heading : Nat
  /-- MD at the last prediction cycle. -/
  lastMd : Int
  /-- Module time of the last epoch, none before the first (R129). -/
  epochAt : Option Nat
  /-- Committed path per implement (R133). -/
  paths : List (Nat × Path)
  /-- Heading of TRAILED implements now (R130). -/
  trails : List (Nat × Nat)
  /-- Tiles in the on-chip cache, newest first, at most 256, with their bytes as fetched and marked since (R135). -/
  cache : List (Nat × Memory)
  /-- Where each implement stood at the end of the last prediction cycle, from where own marking goes on (R139). -/
  marked : List (Nat × Path)
  /-- Pan entries by number, and generations (Table 5.7). -/
  pan : List (Nat × PanEntry)
  gens : List (Nat × Nat)
  triggers : List Trigger
  /-- Entries that wait for room in the Pan (R144). -/
  waiting : List PanEntry
  /-- Sections still to be refiled after a Flood (R148). -/
  refile : List Nat
  secs : List (Nat × SecH)
  /-- Records of the import batch still to apply: next address and count (R153, R154). -/
  impAt : Nat
  impLeft : Nat
  deriving DecidableEq, Repr, Inhabited

/-- What a remote node of a group has answered (R172 to R176). -/
structure SlNode where
  addr : Nat
  /-- Its vote, none before it. -/
  vote : Option Bool
  /-- RESULT of its OUTCOME (Table 6.6), 0 none yet, 9 given up. -/
  res : Nat
  /-- Compensation: 0 not asked, 1 COMP waits to be sent, 2 sent, its answer due, 3 the answer's window has passed, 4 COMPENSATED,
  5 given up. -/
  comp : Nat
  /-- QUERYs asked for in the present phase. -/
  tries : Nat
  deriving DecidableEq, Repr, Inhabited

/-- An open Sluice group (chapter 6), kept under its template number; its state stands in SLU T_STATE. -/
structure SlGroup where
  inst : Nat
  /-- The target is an MD, not yet frozen (R166, R167). -/
  isMd : Bool
  target : Int
  remote : Bool
  /-- The prepare instant in MT, once known (R163). -/
  prepMt : Option Nat
  /-- The commit instant in MT, once known. -/
  commitMt : Option Nat
  /-- The content taken up at prepare (R181), and the local actions reserved and staged. -/
  acts : List SlAct
  comps : List SlAct
  staged : List SlAct
  /-- Local prepare failed, with its reason (R164, R173). -/
  prepFail : Option Nat
  /-- GRACE_US, DECIDE_MARGIN_US, VOTE_WINDOWS and OUTCOME_TRIES: a prepared group keeps those it was prepared with (R182, Table 3.6). -/
  grace : Nat
  margin : Nat
  votes : Nat
  tries : Nat
  /-- Scheduler handles of an MD group: prepare event and commit event (R163). -/
  prepEvent : Option Nat
  commitEvent : Option Nat
  /-- FLAGS of Table 6.8. -/
  flags : Nat
  nodes : List SlNode
  /-- End of the last vote window, MT (R172). -/
  voteEnd : Nat
  /-- A decision message has gone out (R172). -/
  told : Bool
  /-- The reason carried by ABORT. -/
  reason : Nat
  /-- First node that voted NO, went late or gave no answer (Table 6.8). -/
  blame : Option Nat
  nLate : Nat
  /-- SAFE was entered between decision and commit instant (R178). -/
  safe : Bool
  /-- The local targets whose gate was closed at the commit instant: they are not compensated (R174). -/
  gated : List (Nat × Nat)
  /-- The compensation list has been run (R175). -/
  comped : Bool
  deriving DecidableEq, Repr, Inhabited

/-- A Carsil frame that waits for a Carsil window: link 0, 1 a CAN port, 2 + n the Ethernet link of node n; the template whose
PREPARE it is, if it is one. -/
structure SlTx where
  link : Nat
  prepOf : Option Nat
  data : List Nat
  deriving DecidableEq, Repr, Inhabited

/-- A group in which the module is a participant (R170): coordinator, group and instance. -/
structure SlPart where
  src : Nat
  group : Nat
  inst : Nat
  /-- COMMIT_TIME, network time, and GRACE_US. -/
  time : Nat
  grace : Nat
  /-- The fragments held by index, and the last one's index once held (R169). -/
  frags : List (Nat × List SlAct)
  last : Option Nat
  /-- Voted; YES means the actions are staged. -/
  vote : Option Bool
  /-- RESULT, 0 none yet, and APPLY_TIME. -/
  res : Nat
  applied : Nat
  /-- OUTCOME has been sent in its window. -/
  sent : Bool
  deriving DecidableEq, Repr, Inhabited

/-- Hidden state of the Sluice unit (chapter 6). -/
structure SluH where
  groups : List (Nat × SlGroup)
  tx : List SlTx
  /-- The Carsil window last started, start and end in MT, and whether it is open. -/
  window : Option (Nat × Nat)
  opened : Bool
  /-- Frames the module has sent in the open window on CAN0 and CAN1 (R172). -/
  used : List (Nat × Nat)
  /-- Commit events that have issued, with HELD and LATE: their groups act once the scheduler's issues of that cycle are delivered (R165). -/
  due : List (Nat × Bool × Bool)
  /-- Nodes given up whose fault still stands (Table 18.6). -/
  givenUp : List Nat
  parts : List SlPart
  deriving DecidableEq, Repr, Inhabited

/-- The gain set a loop slot uses: mantissas and exponents of KP, KI, KD, KFF (R199). -/
structure Gains where
  kp : Int
  ki : Int
  kd : Int
  kff : Int
  ep : Nat
  ei : Nat
  ed : Nat
  ef : Nat
  deriving DecidableEq, Repr, Inhabited

/-- A notch: enable, half coefficients b0, b1, b2, a1, a2, and its states (R196). -/
structure Notch where
  on : Bool
  b0 : Int
  b1 : Int
  b2 : Int
  a1 : Int
  a2 : Int
  x1 : Int
  x2 : Int
  y1 : Int
  y2 : Int
  deriving DecidableEq, Repr, Inhabited

/-- Hidden state of one loop slot (chapter 7). -/
structure LoopCh where
  /-- State of Table 7.4 and the region in force (R199). -/
  st : Nat
  region : Nat
  /-- The slot starts, or resumes, at its next run (R197, R205). -/
  start : Bool
  i : Int
  pvPrev : Int
  dvPrev : Int
  spPrev : Int
  outPrev : Int
  n1 : Notch
  n2 : Notch
  /-- Following-error time in ns (R203). -/
  fe : Nat
  gains : Gains
  /-- A blend runs: the old set, and the blend runs done (R200). -/
  blend : Option (Gains × Nat)
  /-- The last feed-forward term, and a fall to zero: its start and the runs done (Table 7.3). -/
  fPrev : Int
  ffFall : Option (Int × Nat)
  gated : Bool
  /-- The output to publish at the next base tick, with STATUS (Table 7.2). -/
  out : Option (Int × Nat)
  /-- The slot is to fire its FE_ACTION (R203). -/
  fire : Bool
  /-- The values of CR10 fields that act until a swap is taken up, by field key (R201). -/
  old : RegFile
  /-- The slot takes up new notch coefficients of a swap at this run (R197, R201). -/
  fresh : Bool
  deriving DecidableEq, Repr, Inhabited

/-- A slot computed in the tick in progress, as it was before its run: its state, its registers, and the causes its run gave, bit 0 SAT,
bit 1 REGION, bit 2 INPUT_LOST; whether it had a swap to take up (R188). -/
structure LoopWas where
  ch : LoopCh
  regs : RegFile
  causes : Nat
  reload : Bool
  deriving DecidableEq, Repr, Inhabited

/-- Hidden state of the loop engine (chapter 7). -/
structure CtlH where
  slots : List (Nat × LoopCh)
  /-- The next base tick's number (R185). -/
  tick : Nat
  /-- Trip groups written to CTL_TRIP (R204). -/
  trips : Nat
  /-- The slots computed in the tick in progress, as they were before their runs, and the causes that stood before it, as in
`LoopWas` (R188). -/
  before : List (Nat × LoopWas)
  causesWere : Nat
  /-- The slots that have yet to take up the last CR10 swap (R201). -/
  reload : List Nat
  deriving DecidableEq, Repr, Inhabited

/-- A camera frame complete in DRAM (R215, R253): camera, capture MT, address of its buffer, width and height. -/
structure CamFrame where
  cam : Nat
  capture : Nat
  addr : Nat
  width : Nat
  height : Nat
  deriving DecidableEq, Repr, Inhabited

/-- A fusion frame being built (R218). -/
structure FusBuild where
  n : Nat
  cams : List CamFrame
  /-- Present point sensors with the values read (R216). -/
  pts : List (Nat × Int)
  takeup : Bool
  throttled : Bool
  prevLost : Bool
  /-- A word of a frame it reads was uncorrectable (R29). -/
  poisoned : Bool
  deriving DecidableEq, Repr, Inhabited

/-- Hidden state of the fusion engine (chapter 8). -/
structure FusH where
  /-- The number of the last fusion instant passed (R214). -/
  last : Nat
  /-- Complete camera frames not yet taken or dropped. -/
  frames : List CamFrame
  build : Option FusBuild
  /-- SEQ each point sensor's point had at the last read (R216). -/
  seqs : List (Nat × Nat)
  /-- The numbers of skipped frames (R216). -/
  skips : List Nat
  /-- The transform tables in use: camera, and entries of 32 bits in cell order (R220, R224). -/
  tables : List (Nat × List Nat)
  /-- The frame before was dropped or skipped (Table 8.6). -/
  prevLost : Bool
  /-- The ego-motion reference: its fusion instant, and its region's bytes in row, column, channel order (R229). -/
  ref : Option (Nat × List Int)
  /-- Published frames since EN was set (Table 8.6). -/
  seq : Nat
  /-- The output buffer to use next (R228). -/
  buf : Nat
  deriving DecidableEq, Repr, Inhabited

/-- What the stages need of a camera's parameter set (R251). -/
structure CamSet where
  w : Nat
  h : Nat
  cfa : Nat
  bits : Nat
  bl : List Nat
  wb : List Nat
  staticEn : Bool
  dynEn : Bool
  hi : Nat
  lo : Nat
  defects : List Nat
  shading : Bool
  /-- Shading gains by phase, node 17 j + i. -/
  gains : List (List Nat)
  dmMode : Nat
  dmThr : Nat
  matrix : List Int
  tone : List Nat
  satThr : Nat
  deriving DecidableEq, Repr, Inhabited

/-- A camera frame in progress (R244). -/
structure IspFrame where
  no : Nat
  fsMt : Nat
  /-- The parameters taken up at its Frame Start, which hold for the whole frame (R251). -/
  set : CamSet
  tag : Nat
  /-- CAPTURE_MT (R242). -/
  capture : Nat
  sensorFn : Nat
  /-- The lines received so far, newest first; none for one to be replaced (Table 9.2). -/
  lines : List (Option (List Nat))
  /-- A line was lost or its header uncorrectable. -/
  missing : Bool
  long : Bool
  replaced : Nat
  takeup : Bool
  throttled : Bool
  /-- The buffer it is written to. -/
  addr : Nat
  /-- The tap buffer it is copied to and the tap point, while its tap is being written (R256, R257). -/
  tap : Option (Nat × Nat)
  deriving DecidableEq, Repr, Inhabited

/-- Hidden state of one camera (chapter 9). -/
structure IspCam where
  frame : Option IspFrame
  /-- Module time of the last accepted Frame Start (Table 9.2). -/
  lastFs : Option Nat
  /-- Lines of a rejected Frame Start are discarded. -/
  discarding : Bool
  nextBuf : Nat
  nextStat : Nat
  nextTap : Nat
  /-- CR12 content waits for this camera's boundary (R251). -/
  takeup : Bool
  deriving DecidableEq, Repr, Inhabited

/-- Hidden state of the image pipeline (chapter 9). -/
structure IspH where
  cams : List (Nat × IspCam)
  /-- Module time at which a port's link went down, while it is down (R240). -/
  downAt : List (Nat × Nat)
  /-- Per port, the lines waiting in the cameras' line stores: camera and the work left of it in twentieths of a pixel, oldest first (R239). -/
  stores : List (Nat × List (Nat × Nat))
  /-- The lines waiting to be written to raw taps: camera and bytes left, oldest first (R257). -/
  taps : List (Nat × Nat)
  /-- Module time up to which the line stores and the taps have drained. -/
  drainedAt : Nat
  /-- Module time of the last packet of each port. -/
  packetAt : List (Nat × Nat)
  deriving DecidableEq, Repr, Inhabited

/-- What the baseband has solved for an epoch (Table 10.6), ANT0's position in 10^-9 degree before the lever arm. -/
structure GnsFix where
  seq : Nat
  /-- Module time of the epoch, its MT and its GNSS time. -/
  at_ : Nat
  mt : Nat
  gt : Nat
  fix : Nat
  nsv : Nat
  hdgValid : Bool
  heading : Nat
  sol : GnssSol
  /-- What the receiver clock read at the epoch, ns (R265). -/
  clock : Nat
  deriving DecidableEq, Repr, Inhabited

/-- The hot-start store in MRAM (R274). -/
structure GnsStore where
  /-- Satellite and collection time of each ephemeris, RTC seconds. -/
  eph : List (Nat × Nat)
  almanac : Nat
  lat : Int
  lon : Int
  osc : Int
  rtc : Nat
  ok : Bool
  deriving DecidableEq, Repr, Inhabited

/-- Hidden state of the GNSS baseband (chapter 10). -/
structure GnsH where
  /-- Epochs since EN (R270). -/
  seq : Nat
  /-- Signals tracked at the last epoch: signal, satellite, antenna (R263). -/
  tracked : List (Nat × Nat × Nat)
  /-- Signals received at the last epoch, none before the first: what is not among them has risen (R263). -/
  seen : Option (List (Nat × Nat × Nat))
  last : Option GnsFix
  /-- Epochs whose external solution is awaited, oldest first (R269). -/
  awaiting : List GnsFix
  everValid : Bool
  /-- Edges have been suppressed since the last one (R271). -/
  gap : Bool
  /-- The published coming edge: GPS second, error in ps, MT (R272). -/
  edge : Option (Nat × Int × Nat)
  /-- MT of the last pin edge. -/
  lastPin : Option Nat
  /-- Module time at which a shorted bias was switched off (R262). -/
  shortAt : List (Nat × Nat)
  /-- PD6 power-up, while the first fix is awaited (Table 10.3). -/
  upAt : Option Nat
  store : Option GnsStore
  /-- The last fixed position in 10^-9 degree (R274). -/
  fixPos : Option (Int × Int)
  /-- Module time of the last store write. -/
  storedAt : Nat
  deriving DecidableEq, Repr, Inhabited

/-- Hidden state of one load switch (chapter 11). -/
structure LsCh where
  /-- The two thermal stores of the wire model, units of 2^-24 (R283). -/
  t1 : Nat
  t2 : Nat
  /-- End of the inrush window, in module time (R290). -/
  winEnd : Option Nat
  /-- What was left of the window when THERMAL froze it, ns (R292). -/
  winLeft : Nat
  /-- End of the wait between attempts (R290). -/
  retryAt : Option Nat
  /-- Instant of the THERMAL entry (R292). -/
  thermAt : Nat
  /-- THERMAL is latched (R292). -/
  thermLatched : Bool
  /-- CLAMP-COOL has been entered (R288). -/
  cooling : Bool
  /-- A protective switch-off met the closed gate: the output stays off (R282). -/
  safeOff : Bool
  /-- A deferred switch-off: 0 none, 1 command, 2 shed, 3 gate closure (R298). -/
  deferred : Nat
  /-- Instant of the last instantaneous trip (R291). -/
  tripAt : Option Nat
  /-- Current before shedding, 10 mA (R296). -/
  shedMa : Nat
  deriving DecidableEq, Repr, Inhabited

/-- Hidden state of the load switches (chapter 11). -/
structure LswH where
  chs : List (Nat × LsCh)
  /-- Shed channels, last first (R295). -/
  shed : List Nat
  /-- Since when each limit (0 IA, 1 IB, 2 PSW) has been exceeded (R294). -/
  past : List (Nat × Nat)
  /-- The limits for whose unbroken excess LSW-GOV-OVER has been raised (R294). -/
  overRaised : List Nat
  /-- Since when all three stand at or below the restore limits (R296). -/
  underSince : Option Nat
  /-- When each power input (0 PWR-A, 1 PWR-B) last returned to 40.0 V or below (R298). -/
  backAt : List (Nat × Nat)
  deriving DecidableEq, Repr, Inhabited

/-- A phase as a channel took it up at its profile start (R308, R309). -/
structure VdPhase where
  src : Nat
  kind : Nat
  decay : Nat
  demand : Bool
  ttp : Bool
  itgt : Nat
  hyst : Nat
  tph : Nat
  deriving DecidableEq, Repr, Inhabited

/-- Hidden state of one valve channel (chapter 12). -/
structure VdCh where
  /-- A profile runs; its phases and STOP_DECAY (R308, R309). -/
  running : Bool
  phases : List VdPhase
  stopDecay : Nat
  /-- The run is the SAFE_SLOT behind a closed gate (R311). -/
  safeRun : Bool
  /-- A switch-off is decaying, watched by closing detection (R311, R320). -/
  closing : Bool
  startAt : Nat
  phaseAt : Nat
  startMt : Nat
  offAt : Nat
  offMt : Nat
  offMd : Int
  /-- Loop accumulator (R312). -/
  acc : Int
  /-- Last demand, mA (R313). -/
  demand : Nat
  /-- A CHOP or PWM phase is in an on interval, and since when its interval stands (Table 12.2). -/
  chopOn : Bool
  turnedAt : Nat
  /-- Module time of the last tick of the current loop (R312). -/
  tickAt : Option Nat
  /-- Since when the channel is refused its source; VDR-OVERLAP-STARVE raised in this run, and standing (R316). -/
  starveFrom : Option Nat
  starveRaised : Bool
  starveStands : Bool
  /-- A RISE phase was refused its source (R316). -/
  riseRefused : Bool
  /-- FLAGS, TTP_US and PEAK_MA of the report item (Table 12.7). -/
  flags : Nat
  ttpUs : Nat
  peak : Nat
  /-- The decay mode in force; CLAMP is diverted to RECOVER; VDR-CLAMP-HIGH stands (R317). -/
  mode : Nat
  pulseHigh : Bool
  clampRaised : Bool
  /-- Clamp pulses of the last 10 s: module time and energy in 0.1 mJ (Table 12.1, P_CLAMP). -/
  pulses : List (Nat × Nat)
  /-- NO-KINK or NOT-ZERO results in a row (R320). -/
  misses : Nat
  deriving DecidableEq, Repr, Inhabited

/-- One barrier link of field I/O: both sides (R328 to R330). -/
structure FioGrp where
  /-- SEQ of the next refresh. -/
  seq : Nat
  /-- Isolated side: bad frames and good frames in a row, LOST, HELD, output states. -/
  isoBad : Nat
  isoGood : Nat
  lost : Bool
  held : Bool
  outs : Nat
  /-- Host side: bad frames and good frames without LOST in a row; REARM to be carried. -/
  hostBad : Nat
  hostGood : Nat
  rearm : Bool
  /-- MT and MD of the last sample. -/
  mt : Nat
  md : Int
  /-- Module time of the last refresh. -/
  refreshAt : Option Nat
  deriving DecidableEq, Repr, Inhabited

/-- The class filter of one input pin (R331): the class taken, none before the first; the candidate and its run. -/
structure FioPin where
  taken : Option Nat
  cand : Nat
  run : Nat
  deriving DecidableEq, Repr, Inhabited

/-- Hidden state of one AI channel (R335, R337). -/
structure AiCh where
  shuntAt : Nat
  /-- Module time of the last published mean (R334). -/
  meanAt : Nat
  /-- Baseline, none before the first sample; armed; µs of the last impact; count of the period. -/
  base : Option Int
  armed : Bool
  last : Int
  count : Nat
  /-- µs of the next sample, and the gate's changes in this period: instant and state, newest first. -/
  periodAt : Nat
  gates : List (Nat × Bool)
  gateBefore : Bool
  deriving DecidableEq, Repr, Inhabited

/-- Hidden state of one FI input (R338): filtered level, the instant of the last rising edge and of the last edge. -/
structure FiCh where
  level : Bool
  rise : Option Nat
  edge : Option Nat
  /-- Module time of the last publication. -/
  publishedAt : Option Nat
  deriving DecidableEq, Repr, Inhabited

/-- Hidden state of field I/O (chapter 13). -/
structure FioH where
  grps : List (Nat × FioGrp)
  pins : List (Nat × FioPin)
  ais : List (Nat × AiCh)
  fis : List (Nat × FiCh)
  /-- The instants SSA and SSB tripped (R336). -/
  ssAt : List (Nat × Nat)
  deriving DecidableEq, Repr, Inhabited

/-- Hidden state of one blower (R339 to R344). -/
structure BlwCh where
  acc : Int
  kickAt : Nat
  waitAt : Nat
  runAt : Nat
  /-- Tach edges run without a break from this instant (Table 13.5). -/
  tachFrom : Option Nat
  lastTach : Nat
  /-- The speed has been within 2 % of AGE_REF_RPM from this instant; drive summed since, and the periods (R344). -/
  steadyFrom : Option Nat
  driveSum : Nat
  driveN : Nat
  commAt : Nat
  deriving DecidableEq, Repr, Inhabited

/-- Hidden state of the blowers. -/
structure BlwH where
  chs : List (Nat × BlwCh)
  /-- The watchdog runs from this instant; a kick has come since it expired (R343). -/
  wdFrom : Nat
  wdKicked : Bool
  /-- Module time of the last control period (R339). -/
  periodAt : Option Nat
  deriving DecidableEq, Repr, Inhabited

/-- What the module knows of a peer (R366 to R372). -/
structure PeerH where
  /-- Module time of its last STATUS. -/
  heardAt : Nat
  /-- Its key: IMAGE_HASH, 48 bytes, and FW_VER (R368). -/
  hash : List Nat
  fw : Nat
  member : Bool
  excluded : Bool
  deriving DecidableEq, Repr, Inhabited

/-- An ISO 11783 transport session (R363): port, whether the module receives, the other end, PGN, whether ETP, whether broadcast,
message length, the bytes so far (all of them for a transmit session), and packets done. -/
structure TpSession where
  port : Nat
  rx : Bool
  peer : Nat
  pgn : Nat
  ext : Bool
  bam : Bool
  size : Nat
  data : List Nat
  done : Nat
  deriving DecidableEq, Repr, Inhabited

/-- Hidden state of the network block (chapter 14). -/
structure NetH where
  /-- MT of the last reference mark of a time-triggered port. -/
  marks : List (Nat × Nat)
  /-- TMB_GPS_OFS at a port's last own mark (R354). -/
  markOfs : List (Nat × Int)
  /-- Matching reference messages in a row on a port, and the last one's CYCLE (R356). -/
  refRun : List (Nat × Nat)
  /-- Ports on which the module, a potential master, has taken over the reference messages (R355). -/
  backup : List Nat
  /-- Module time of the last STATUS of a period, and of the last MIRROR (R366, R369). -/
  statusAt : Option Nat
  mirrorAt : Option Nat
  /-- Mode, leader and JOIN_STATE as the last STATUS told them (R366). -/
  statusTold : Nat × Nat × Nat
  /-- Module time of the last Sync sent (R360). -/
  syncSentAt : Option Nat
  /-- Module time at which a port entered bus-off (R351). -/
  busOffAt : List (Nat × Nat)
  /-- The port on which 802.1AS time is taken (Table 14.6). -/
  syncPort : Option Nat
  /-- Measurements in a row above 100 µs, and at or below 20 µs (R373). -/
  timeBad : Nat
  timeGood : Nat
  /-- The module has agreed with network time since it began to join (R368, R373). -/
  agreed : Bool
  peers : List (Nat × PeerH)
  /-- SEQ of the next peer message (Table 14.9). -/
  sentSeq : Nat
  /-- Module time at which JOINING was entered. -/
  joinAt : Nat
  /-- The last submission of the leader's mode was refused (R372). -/
  modeLag : Bool
  /-- SAFE messages still to be repeated: CAUSE, how many, module time of the next (R371). -/
  safeRepeat : Option (Nat × Nat × Nat)
  /-- SEQ and module time of the last sending of each mirrored point (R369). -/
  mirrored : List (Nat × (Nat × Nat))
  /-- Module time of the last mapped frame of each node (R365). -/
  heard : List (Nat × Nat)
  /-- The frame in a message slot, keyed 64 × port + slot (R353, R365). -/
  slots : List (Nat × List Nat)
  /-- Event-triggered frames waiting on a port, oldest first: port, identifier, data (R365). -/
  tx : List (Nat × Nat × List Nat)
  /-- VALUE of each transmit-mapped point when last taken up (R365). -/
  txSeen : List (Nat × Nat)
  /-- Value of each condensed group when last sent, and module time (R364). -/
  condSent : List (Nat × (Nat × Nat))
  /-- Address a port is claiming, and module time of its last cannot-claim (R363). -/
  claiming : List (Nat × Nat)
  cannotAt : List (Nat × Nat)
  sessions : List TpSession
  deriving DecidableEq, Repr, Inhabited

/-- Hidden state of one sensor group (R408, R413). -/
structure ThmGrp where
  /-- Module time of the last sample. -/
  at_ : Nat
  /-- Sampled at 1 kHz; since when G has stayed below the bound of R408. -/
  fast : Bool
  slowFrom : Option Nat
  /-- THM-CRITICAL stands; REF of its END record; since when G has stayed 10 °C below CRIT. -/
  crit : Bool
  critRef : Nat
  coolFrom : Option Nat
  /-- Group temperature, 0.1 °C. -/
  g : Int
  deriving DecidableEq, Repr, Inhabited

/-- Hidden state of thermal supervision (R407 to R413). -/
structure ThmH where
  grps : List (Nat × ThmGrp)
  /-- Consecutive samples in which a sensor was marked, and in which it was not (R409). -/
  marks : List (Nat × (Nat × Nat))
  /-- Temperature levels of the divider (0, 1, 2) and of the NPU (R411, R412). -/
  fcLevel : Nat
  npuLevel : Nat
  /-- Since when the group temperature calls for less than a level with its 2 °C to spare: by level, for the divider and for the NPU
  (R411, R412). -/
  fcBelow : List (Nat × Nat)
  npuBelow : List (Nat × Nat)
  /-- Sensors whose channels a THM-CRITICAL reaction closes (R413). -/
  shut : List Nat
  deriving DecidableEq, Repr, Inhabited


/-- What a firmware slot holds (R417): the bytes written, and the numbers the signers of its ISLAND and HOST parts used (assumption 4). -/
structure FwSlot where
  data : List Nat
  k1 : Nat
  k2 : Nat
  deriving DecidableEq, Repr, Inhabited

/-- An Opdofy session (R430): its transport (0 UDP on SVC, 1 CAN0), the host, SESSION, TOTAL_LEN, and the instant of its last
message. -/
structure OpSession where
  transport : Nat
  host : Nat
  id : Nat
  total : Nat
  heardAt : Nat
  deriving DecidableEq, Repr, Inhabited

/-- Hidden state of update and recovery (chapter 17). -/
structure UpdH where
  /-- The content of slots 0 (A) and 1 (B). -/
  slots : List (Nat × FwSlot)
  /-- The image a STAGE is writing, the instant of the last test of the gate, and the instant by which it is written (R421). -/
  staging : Option (FwSlot × Nat × Nat)
  /-- A trial has failed: the next boot reads FALLBACK 1 (R425). -/
  fallback : Bool
  /-- Bit n: slot n passed its last verification (Table 17.7). -/
  passed : Nat
  /-- The challenge and the instant it was given (R426). -/
  challenge : Option (List Nat × Nat)
  /-- CAUSE of HELLO, the instant RECOVERY was entered or the last HELLO sent, and the module's count of messages (Table 17.7). -/
  why : Nat
  helloAt : Nat
  sent : Nat
  session : Option OpSession
  deriving DecidableEq, Repr, Inhabited

/-- Everything the block holds besides the queue of commands and DRAM. -/
structure Dev where
  /-- Module time in ns, from which every timer of the model runs. -/
  now : Nat
  /-- Every register field of the spec's register maps (R6, R36). -/
  regs : RegFile
  /-- Shadowed writes waiting for their block's safe boundary, by field key (R87). -/
  wait : RegFile
  /-- The structure the image has built, by region (R3, R72). -/
  built : List (Nat × List BuildItem)
  /-- Process-image records that differ from all zeros or have been built (R27). -/
  points : List (Nat × Point)
  sys : SysH
  cfg : CfgH
  flt : FltH
  recd : RecH
  que : List (Nat × QueH)
  /-- The queues' share of DRAM for Brine: the instant it is free, and the queue whose burst it served last (R381). -/
  brineFree : Nat
  brineTurn : Nat
  tmb : TmbH
  lah : LahH
  slu : SluH
  ctl : CtlH
  fus : FusH
  isp : IspH
  gns : GnsH
  lsw : LswH
  vdr : List (Nat × VdCh)
  fio : FioH
  blw : BlwH
  net : NetH
  thm : ThmH
  upd : UpdH
  /-- Happenings the command in progress leaves to the fault manager; empty between commands. -/
  raised : List Raised
  /-- What the last command sent out. -/
  out : List Emission
  /-- The model's own count of free values taken (assumption 3). -/
  freeSeq : Nat
  deriving DecidableEq, Repr, Inhabited

/-- The block: the commands waiting, first in first out, DRAM, and the rest. -/
structure State where
  pending : List Instr
  dram : Memory
  dev : Dev
  deriving DecidableEq, Repr

/-- The block right after power-on reset: every register at its reset value, BOOT entered (R6, R58), nothing built,
nothing stored, no command waiting. The values the spec leaves open are those of assumptions 1 and 2. -/
def State.reset : State := { pending := [], dram := [], dev := { (default : Dev) with
  sys := { (default : SysH) with pairs := 2, detected := 1 },
  recd := { (default : RecH) with crustOpen := true } } }

end Sys2Proof.Machine
end

