-- ==== Sys2Proof/Machine/Ops.lean ====
section
/-! DEFINITION. Machine/Ops.lean: the named operations on registers, DRAM, events and time that every meaning uses. -/

namespace Sys2Proof.Machine

/-! Registers. -/

/-- The value in force of element (i, j) of a field. -/
def Dev.rd (d : Dev) (f : Fld) (i : Nat := 0) (j : Nat := 0) : Nat := (tget? (f.key i j) d.regs).getD (f.resetAt i j)

/-- Writes element (i, j) of a field; bits beyond its width are dropped. A field at its reset value is not listed. -/
def Dev.wr (d : Dev) (f : Fld) (v : Nat) (i : Nat := 0) (j : Nat := 0) : Dev :=
  { d with regs := if v % 2 ^ f.w = f.resetAt i j then tdel (f.key i j) d.regs
                   else tset (f.key i j) (v % 2 ^ f.w) d.regs }

/-- A one-bit field as a truth value. -/
def Dev.flag (d : Dev) (f : Fld) (i : Nat := 0) (j : Nat := 0) : Bool := d.rd f i j % 2 = 1

/-- Adds one to a field, stopping at its largest value. -/
def Dev.count (d : Dev) (f : Fld) (i : Nat := 0) (j : Nat := 0) : Dev := d.wr f (satInc f.w (d.rd f i j)) i j

/-- Adds one to a field, wrapping. -/
def Dev.bump (d : Dev) (f : Fld) (i : Nat := 0) (j : Nat := 0) : Dev := d.wr f (d.rd f i j + 1) i j

/-- Sets or clears bit `k` of a field. -/
def Dev.wrBit (d : Dev) (f : Fld) (k : Nat) (b : Bool) (i : Nat := 0) : Dev := d.wr f (putBit k b (d.rd f i)) i

/-- A field read as two's complement. -/
def Dev.rdS (d : Dev) (f : Fld) (i : Nat := 0) (j : Nat := 0) : Int := sgn f.w (d.rd f i j)

/-- A field written in two's complement, wrapping. -/
def Dev.wrS (d : Dev) (f : Fld) (v : Int) (i : Nat := 0) (j : Nat := 0) : Dev := d.wr f (enc f.w v) i j

/-- A field written in two's complement, saturating. -/
def Dev.wrSat (d : Dev) (f : Fld) (v : Int) (i : Nat := 0) (j : Nat := 0) : Dev :=
  d.wrS f (clampI (-(2 ^ (f.w - 1) : Nat)) ((2 ^ (f.w - 1) : Nat) - 1) v) i j

/-- The last value written to a field, whether or not it has taken effect (R7, code RWS). -/
def Dev.lastWritten (d : Dev) (f : Fld) (i : Nat := 0) (j : Nat := 0) : Nat :=
  (tget? (f.key i j) d.wait).getD (d.rd f i j)

/-- Drops every field whose key a condition picks back to its reset value. -/
def Dev.resetKeys (d : Dev) (p : Nat → Bool) : Dev :=
  { d with regs := d.regs.filter (fun e => !p e.1), wait := d.wait.filter (fun e => !p e.1) }

/-- A field key lies in the register addresses from `lo` up to, not including, `hi`. -/
def keyIn (lo hi k : Nat) : Bool := decide (lo * 32 ≤ k ∧ k < hi * 32)

/-- The block number (Table 1.10) of a field key. -/
def keyBlock (k : Nat) : Nat := (k / 32 - 0x40000000) / 0x10000

/-! Events and faults: left to the fault manager at the end of the command. -/

/-- Leaves a happening to the fault manager. -/
def Dev.note (d : Dev) (r : Raised) : Dev := { d with raised := d.raised ++ [r] }

/-- Detects a fault (R437). -/
def Dev.raise (d : Dev) (code : Nat) (inst : Nat := 0) : Dev := d.note (.fault code inst)

/-- Reports a fault's recovery (R439). -/
def Dev.recover (d : Dev) (code : Nat) (inst : Nat := 0) : Dev := d.note (.recover code inst)

/-- Sets an event cause (R433). -/
def Dev.cause (d : Dev) (f : Fld) (k : Nat := 0) : Dev := (d.wrBit f k true).note .route

/-- Sends something out. -/
def Dev.emit (d : Dev) (e : Emission) : Dev := { d with out := d.out ++ [e] }

/-- Answers a bus error (R4). -/
def Dev.busError (d : Dev) : Dev := d.emit (.busResponse 1)

/-- Answers a bus access accepted. -/
def Dev.busOk (d : Dev) : Dev := d.emit (.busResponse 0)

/-- A write refused by R18: a bus error, and FLT-ACCESS. -/
def Dev.violation (d : Dev) : Dev := (d.raise Flt.FLT_ACCESS).busError

/-- Takes a fresh free value (assumption 3). -/
def Dev.free (d : Dev) : Nat := Config.freeValue d.freeSeq

/-- Counts a free value as taken. -/
def Dev.freeTaken (d : Dev) : Dev := { d with freeSeq := d.freeSeq + 1 }

/-- `sig` is the signature the holder of `pub` made of a message with the number `k` (R70, R404, R417; assumption 4). -/
def signedBy (pub sig msg : List Nat) (k : Nat) : Bool := decide (sig = Config.ecdsaSign pub (Config.sha384 msg) k)

/-! DRAM. -/

/-- What a byte of DRAM that nothing has written reads as (assumption 2). -/
def dramEmpty : Byte := 0

/-- First address of DRAM (Table 1.11). -/
def dramBase : Nat := 0x80000000

/-- First address beyond DRAM (Table 1.11). -/
def dramEnd : Nat := 0x280000000

/-- Reads one byte of DRAM. -/
def memRead (m : Memory) (a : Nat) : Byte := (tget? a m).getD dramEmpty

/-- Writes one byte of DRAM, keeping the canonical form. -/
def memWrite (m : Memory) (a : Nat) (b : Byte) : Memory := if b = dramEmpty then tdel a m else tset a b m

/-- Writes bytes at rising addresses. -/
def memWriteBytes : Memory → Nat → List Nat → Memory
  | m, _, [] => m
  | m, a, b :: bs => memWriteBytes (memWrite m a (BitVec.ofNat 8 b)) (a + 1) bs

/-- Reads bytes at rising addresses. -/
def memReadBytes (m : Memory) (a n : Nat) : List Nat := (List.range n).map (fun k => (memRead m (a + k)).toNat)

/-- Addresses rise strictly. -/
def sortedFrom : Nat → Memory → Bool
  | _, [] => true
  | lo, (a, _) :: t => decide (lo ≤ a) && sortedFrom (a + 1) t

/-- The canonical form of DRAM: addresses strictly rising, no byte equal to what an unlisted address reads as. -/
def Memory.wf (m : Memory) : Bool := sortedFrom 0 m && m.all (fun c => decide (c.2 ≠ dramEmpty))

/-! Hidden state by index. -/

/-- Hidden state of queue `q`. -/
def Dev.queue (d : Dev) (q : Nat) : QueH := tget q d.que

/-- Replaces the hidden state of queue `q`. -/
def Dev.setQueue (d : Dev) (q : Nat) (h : QueH) : Dev := { d with que := tset q h d.que }

/-- The structure built by region `r`. -/
def Dev.itemsOf (d : Dev) (r : Nat) : List BuildItem := (tget? r d.built).getD []

/-- Every item of structure built. -/
def Dev.items (d : Dev) : List BuildItem := d.built.flatMap (fun p => p.2)

/-! Time. -/

/-- One millisecond, in ns. -/
def ms : Nat := 1000000

/-- One second, in ns. -/
def second : Nat := 1000000000

/-- The base tick, in ns (R107). -/
def baseTick : Nat := 50000

/-- MD of the broadcast word: the accumulator of 24 fraction bits rounded toward minus infinity, in 0.1 mm (R100, Table 4.1). -/
def TmbH.md (t : TmbH) : Int := Int.fdiv t.mdAcc (2 ^ 24 : Nat)

/-- Signed speed in mm/s, rounded to nearest, from 2^-8 mm/s (R101). -/
def mmps (v : Int) : Int := if v < 0 then -((-v + 128) / 256) else (v + 128) / 256

/-- The machine runs its timebase (R102). -/
def Dev.running (d : Dev) : Bool := d.flag TMB.RUN

/-- MT of the broadcast word (R22). -/
def Dev.mt (d : Dev) : Nat := d.tmb.mt

/-- MD of the broadcast word (R22). -/
def Dev.md (d : Dev) : Int := d.tmb.md

/-- The steering limit in force, ppm (R103). -/
def Dev.slewPpm (d : Dev) : Int := (clampN 1 200 (d.rd TMB.SLEW_PPM) : Nat)

/-- The rate at which MT is steered, in ns for each second: none while MT runs free, never above SLEW_PPM (R103, R359). -/
def Dev.slew (d : Dev) : Int :=
  if d.flag ETH.DISC_FORCED || decide (d.rd TMB.MT_DISC ≠ 0) then clampI (-(1000 * d.slewPpm)) (1000 * d.slewPpm) d.tmb.mtRate else 0

/-! Coordinates and crossings. -/

/-- Pulses per revolution CR6 gives the RA source (R105). -/
def Dev.raPpr (d : Dev) : Nat :=
  ((d.itemsOf 6).findSome? fun it => match it with | .raSource p _ _ => some p | _ => none).getD 0

/-- RA of the broadcast word: the value at the last pulse and a fraction extrapolated from the last interval, never past the
next whole pulse step; held while RA_VALID is 0 (R105). -/
def Dev.ra (d : Dev) : Nat :=
  let t := d.tmb
  if d.flag TMB.RA_VALID ∧ d.raPpr ≠ 0 ∧ t.raInterval ≠ 0 then
    let step := 65536 / d.raPpr
    let f := Nat.min (step - 1) (step * (t.mt - t.raPulse) / t.raInterval)
    if t.raBack then (t.raBase + 2 ^ 40 - f) % 2 ^ 40 else (t.raBase + f) % 2 ^ 40
  else t.raBase

/-- Signed difference of two RA values (R99). -/
def raDiff (a b : Nat) : Int := sgn 40 (a + 2 ^ 40 - b % 2 ^ 40)

/-- The coordinate of class `c` as it stands (R22, R114): 0 MD, 1 RA, 2 MT. -/
def Dev.coordNow (d : Dev) (c : Nat) : Int :=
  match d.rd TMB.CLASS_COORD c with
  | 0 => d.md
  | 1 => d.ra
  | _ => d.mt

/-- The signed distance from a target to the coordinate, RA by its 40-bit difference (R99). -/
def Dev.beyond (d : Dev) (c : Nat) (target : Int) : Int :=
  if d.rd TMB.CLASS_COORD c = 1 then raDiff d.ra target.toNat else d.coordNow c - target

/-- The direction a class acts in: MT is always FWD, RA FWD or REPEAT (R116): 0 FWD, 1 REV, 2 BOTH, 3 REPEAT. -/
def Dev.dirOf (d : Dev) (c : Nat) : Nat := if d.rd TMB.CLASS_COORD c = 2 then 0 else d.rd TMB.CLASS_DIR c

/-- An event meets its condition now (R116). -/
def Dev.meets (d : Dev) (e : Event) : Bool :=
  let x := d.beyond e.cls e.target
  match d.dirOf e.cls with
  | 1 => decide (x ≤ 0)
  | 2 => if e.above then decide (x ≤ 0) else decide (0 ≤ x)
  | _ => decide (0 ≤ x)

/-- An MD class (R120). -/
def Dev.isMd (d : Dev) (c : Nat) : Bool := decide (d.rd TMB.CLASS_COORD c = 0)

/-- The event has not crossed and may: while MD_STATE is LOST no MD event crosses (Table 4.4). -/
def Dev.mayCross (d : Dev) (e : Event) : Bool := e.crossed.isNone && !(d.isMd e.cls && decide (d.rd TMB.MD_STATE = 3))

/-- The first of the counts above `lo`, up to `lo + 2 ^ k`, at which a condition that stays once it holds is met; the last where it
never is. -/
def firstFrom (p : Nat → Bool) : Nat → Nat → Nat
  | 0, lo => lo + 1
  | k + 1, lo => if p (lo + 2 ^ k) then firstFrom p k lo else firstFrom p k (lo + 2 ^ k)

/-- The clock alone runs: `n` data-path clock cycles of 4 ns. MT and MD follow once the timebase runs; what a cycle adds to MD below
2^-24 of 0.1 mm is carried on in `mdRem` (R100, R103; assumption 8). -/
def Dev.clock (d : Dev) (n : Nat) : Dev :=
  if d.running then
    let m := d.tmb.mdRem + d.tmb.rate * 1024 * n
    { d with now := d.now + 4 * n,
             tmb := { d.tmb with
               mt := (d.tmb.mt + 4 * n + (d.tmb.mtFrac + 4 * n * d.slew) / 1000000000).toNat,
               mtFrac := (d.tmb.mtFrac + 4 * n * d.slew) % 1000000000,
               mdAcc := clampI (-(2 ^ 71 : Nat)) ((2 ^ 71 : Nat) - 1) (d.tmb.mdAcc + m / 390625),
               mdRem := m % 390625 } }
  else { d with now := d.now + 4 * n }

/-- Every event that meets its condition now is noted as crossing now (R116, R120). -/
def Dev.markCrossings (d : Dev) : Dev :=
  { d with tmb := { d.tmb with
      slots := d.tmb.slots.map fun (k, e) => if d.mayCross e && d.meets e then (k, { e with crossed := some d.now }) else (k, e) } }

/-- The instant of the first of the next `n` cycles in which an event meets its condition, if it does: within them every coordinate
moves one way (R116). -/
def Dev.crossesIn (d : Dev) (n : Nat) (e : Event) : Option Nat :=
  if n ≠ 0 ∧ (d.clock n).meets e then
    some (d.now + 4 * Nat.min n (firstFrom (fun j => decide (n ≤ j) || (d.clock j).meets e) (Nat.log2 n + 1) 0))
  else none

/-- Time passes: `n` data-path clock cycles. Every event that crosses within them is noted with the cycle of its crossing (R100, R103,
R116). -/
def Dev.cycles (d : Dev) (n : Nat) : Dev :=
  let l := d.tmb.slots.map fun (k, e) => if d.running && d.mayCross e then (k, { e with crossed := d.crossesIn n e }) else (k, e)
  let c := d.clock n
  { c with tmb := { c.tmb with slots := l } }

/-- Time passes up to an instant, in whole cycles; nothing when it is past. -/
def Dev.waitUntil (d : Dev) (t : Nat) : Dev := if d.now < t then d.cycles (ceilDiv (t - d.now) 4) else d

/-- The next instant of a period of `p` ns that has not been served: the first multiple of it from now on, after `last` (Table 1.4). -/
def Dev.nextPeriod (d : Dev) (p : Nat) (last : Option Nat) : Nat :=
  let t := ceilDiv d.now p * p
  match last with
  | some a => if t ≤ a then (a / p + 1) * p else t
  | none => t

/-- Time passes up to a value of MT, in whole cycles; nothing when it is reached (R103, R185). -/
def Dev.waitMt (d : Dev) (t : Nat) : Dev :=
  if d.running ∧ d.tmb.mt < t then
    d.cycles ((((t : Int) - d.tmb.mt) * 1000000000 - d.tmb.mtFrac + 4 * (1000000000 + d.slew) - 1) / (4 * (1000000000 + d.slew))).toNat
  else d

/-- The RTC in seconds (R54): what SYS_RTC last showed and the whole seconds since. -/
def Dev.rtc (d : Dev) : Nat := (d.rd SYS.RTC_S + (d.now - d.sys.rtcAt) / second) % 2 ^ 32

/-! Power domains and blocks. -/

/-- The power domain of block `b` (Table 2.3). -/
def domainOf (b : Nat) : Nat :=
  if b = 2 then 1 else if b = 0 ∨ b = 1 ∨ 17 ≤ b then 2 else if b = 3 ∨ b = 4 ∨ b = 5 ∨ b = 6 ∨ b = 16 then 3
  else if b = 7 then 4 else if b = 8 then 5 else if b = 9 then 6 else if b = 14 ∨ b = 15 then 7 else 8

/-- Power domain `p` is on. -/
def Dev.pdOn (d : Dev) (p : Nat) : Bool := (d.rd SYS.PD_ON).testBit p

/-- SYS_RTC is brought up to date; without PD1 it stands (R55). -/
def Dev.rtcShow (d : Dev) : Dev :=
  if d.pdOn 1 then
    { d with sys := { d.sys with rtcAt := d.sys.rtcAt + (d.now - d.sys.rtcAt) / second * second } }.wr SYS.RTC_S d.rtc
  else { d with sys := { d.sys with rtcAt := d.now } }

/-- Block `b` is powered (R37). -/
def Dev.powered (d : Dev) (b : Nat) : Bool := d.pdOn (domainOf b)

/-- The mode (Table 2.1). -/
def Dev.mode (d : Dev) : Nat := d.rd SYS.MODE

end Sys2Proof.Machine
end

