-- ==== Sys2Proof/Machine/Shadow.lean ====
section
/-! DEFINITION. Machine/Shadow.lean: the Live, Shadowed and Locked classes (R87 to R90): when a Shadowed write waits, what a
safe boundary applies, and preset expansion. -/

namespace Sys2Proof.Machine

/-- The index of the element a register of block `b` belongs to for enables and safe boundaries: a CAN or ETH port, a loop
slot, a camera, a load-switch or valve channel, an I/O group, a queue; 0 for block-wide registers (Table 3.6). -/
def elemOf (b addr : Nat) : Nat :=
  let o := addr % 0x10000
  match b with
  | 6 => if 0x1000 ≤ o ∧ o < 0x5000 then (o - 0x1000) / 0x40 + 1
         else if 0x5000 ≤ o ∧ o < 0x7000 then (o - 0x5000) / 0x20 + 1
         else if 0x8000 ≤ o then (o - 0x8000) / 0x80 + 1 else 0
  | 8 => if 0x1000 ≤ o ∧ o < 0x9000 then (o - 0x1000) / 0x1000 + 1 else 0
  | 10 => if 0x1000 ≤ o ∧ o < 0x1800 then (o - 0x1000) / 0x20 + 1 else 0
  | 11 => if 0x1000 ≤ o ∧ o < 0x1800 then (o - 0x1000) / 0x40 + 1 else if 0x2000 ≤ o then 255 else 0
  | 12 => if 0x100 ≤ o ∧ o < 0x180 then (o - 0x100) / 0x10 + 1 else 0
  | 14 => if 0x100 ≤ o ∧ o < 0x300 then (o - 0x100) / 0x40 + 1 else 0
  | 16 => if 0x100 ≤ o ∧ o < 0x900 then (o - 0x100) / 0x20 + 1
          else if 0x1000 ≤ o ∧ o < 0x2000 then (o - 0x1000) / 0x40 + 1 else 0
  | _ => 0

/-- The block, or the camera or port a register belongs to, is enabled (R87, R209, R350, R375, R376). A block without an enable field counts
as enabled: its Shadowed writes wait for their boundary. -/
def Dev.enabled (d : Dev) (b e : Nat) : Bool :=
  match b with
  | 4 => d.flag LAH.EN
  | 5 => d.flag SLU.EN
  | 6 => d.flag CTL.EN
  | 7 => d.flag FUS.EN
  | 8 => d.flag ISP.EN && (e = 0 || d.flag ISP.C_EN (e - 1))
  | 9 => d.flag GNS.EN
  | 11 => d.flag VDR.EN
  | 13 => d.flag BLW.EN
  | 14 => if e = 0 then decide (d.rd CAN.EN ≠ 0) else (d.rd CAN.EN).testBit (e - 1)
  | 15 => decide (d.rd ETH.EN % 64 ≠ 0)
  | _ => true

/-- A Shadowed write of element `e` of block `b` takes effect at once: the block is disabled, or its boundary is standing now
(Table 3.6): a queue that is empty, a valve channel with no running profile, a profile slot (each channel keeps the content it took up at its
profile start, R309), FLT with no window open. -/
def Dev.boundaryNow (d : Dev) (b e : Nat) : Bool :=
  !d.enabled b e
  || (b = 16 && decide (d.rd QUE.Q_OCC (e - 1) = 0))
  || (b = 11 && decide (e = 255))
  || (b = 11 && e ≠ 0 && !(tget (e - 1) d.vdr).running && !(tget (e - 1) d.vdr).closing)
  || (b = 19 && d.flt.window.isNone)

/-- A write to a Shadowed field: it waits for the safe boundary, or takes effect at once (R87). -/
def Dev.shadow (d : Dev) (f : Fld) (v : Nat) (i : Nat := 0) (j : Nat := 0) : Dev :=
  let b := keyBlock (f.key i j)
  if d.boundaryNow b (elemOf b (f.addr i j)) then { d.wr f v i j with wait := tdel (f.key i j) d.wait }
  else { d with wait := tset (f.key i j) (v % 2 ^ f.w) d.wait }

/-- A write a preset expansion makes to a field: Shadowed fields wait as any Shadowed write does (R9, R87). -/
def Dev.presetTo (d : Dev) (f : Fld) (v : Nat) (i : Nat := 0) (j : Nat := 0) : Dev :=
  if f.acc = .rws then d.shadow f v i j else d.wr f v i j

/-- The replaced cell of an expansion table, if CR15 carries one: selector field, selector value, field (R90). -/
def Dev.override? (d : Dev) (sel : Fld) (si v : Nat) (f : Fld) (i j : Nat) : Option Nat :=
  (d.itemsOf 15).findSome? fun it => match it with
    | .presetCell s v' k x => if s = sel.key si 0 ∧ v' = v ∧ k = f.key i j then some x else none
    | _ => none

/-- The image defines selector value `v` (R90). -/
def Dev.definesPreset (d : Dev) (sel : Fld) (si v : Nat) : Bool :=
  (d.itemsOf 15).any fun it => match it with
    | .presetCell s v' _ _ => s = sel.key si 0 ∧ v' = v
    | _ => false

/-- One cell of a preset expansion: the image's replacement where it has one, else the table's value; a value the table does
not define leaves the field (R9, R90). -/
def Dev.expand (d : Dev) (sel : Fld) (si v : Nat) (f : Fld) (i j : Nat) (x : Option Nat) : Dev :=
  match d.override? sel si v f i j, x with
  | some y, _ => d.presetTo f y i j
  | none, some y => d.presetTo f y i j
  | none, none => d

/-- Lets the waiting writes that a condition on keys picks take effect: their safe boundary has come (R87, R88). -/
def Dev.applyWaiting (d : Dev) (p : Nat → Bool) (fieldOf : Nat → Option (Fld × Nat × Nat)) : Dev :=
  let due := d.wait.filter (fun e => p e.1)
  forAll due (fun e d => match fieldOf e.1 with
      | some (f, i, j) => d.wr f e.2 i j
      | none => d)
    { d with wait := d.wait.filter (fun e => !p e.1) }

/-- The same field. -/
def Fld.is (f g : Fld) : Bool := decide (f.base = g.base ∧ f.lo = g.lo)

/-- The element of a field at a register address, if the field has one there. -/
def Fld.find (f : Fld) (addr : Nat) : Option (Nat × Nat) :=
  if addr < f.base then none
  else
    let o := addr - f.base
    let i := if f.n1 ≤ 1 then 0 else if f.s1 = 0 then 0 else Nat.min (f.n1 - 1) (o / f.s1)
    let r := o - i * f.s1
    let j := if f.n2 ≤ 1 then 0 else if f.s2 = 0 then 0 else r / f.s2
    if f.addr i j = addr ∧ i < f.n1 ∧ j < f.n2 then some (i, j) else none

/-- The fields of the register at an address, with their elements (R36). -/
def fieldsAt (addr : Nat) : List (Fld × Nat × Nat) :=
  (blockFields ((addr - 0x40000000) / 0x10000)).filterMap fun f => (f.find addr).map fun (i, j) => (f, i, j)

/-- The field and element of a field key. -/
def fieldOfKey (k : Nat) : Option (Fld × Nat × Nat) := (fieldsAt (k / 32)).find? fun (f, _, _) => f.lo = k % 32

/-- The safe boundary of element `e` of block `b` has come: its waiting writes take effect together (R87). Block-wide fields
and the element's are both due for a block whose Table 3.6 row names no element. -/
def Dev.boundary (d : Dev) (b e : Nat) : Dev :=
  d.applyWaiting (fun k => decide (keyBlock k = b ∧ elemOf b (k / 32) = e)) fieldOfKey

end Sys2Proof.Machine
end

