-- ==== Sys2Proof/Machine/Queue.lean ====
section
/-! DEFINITION. Machine/Queue.lean: the queue fabric (chapter 15, R377 to R395). -/

namespace Sys2Proof.Machine

/-- Every entry a queue holds, oldest first. -/
def QueH.all (h : QueH) : List QEntry := h.head ++ h.middle ++ h.tail

/-- OCC: every entry held, void ones and those of an open item included (R384). -/
def QueH.occ (h : QueH) : Nat := h.head.length + h.middle.length + h.tail.length

/-- Brine entries of a queue (Table 15.1). -/
def Dev.brine (d : Dev) (q : Nat) : Nat := if d.rd QUE.Q_BRINE_LOG2 q = 0 then 0 else 2 ^ d.rd QUE.Q_BRINE_LOG2 q

/-- Capacity of a queue in entries (Table 15.1). -/
def Dev.capacity (d : Dev) (q : Nat) : Nat :=
  if d.rd QUE.Q_CLASS q = 1 then 32 + d.brine q else if d.rd QUE.Q_CLASS q = 2 then 4096 else 0

/-- HIGH_WM as it acts (R391). -/
def Dev.highWm (d : Dev) (q : Nat) : Nat := Nat.min (d.rd QUE.Q_HIGH_WM q) (d.capacity q)

/-- LOW_WM as it acts (R391). -/
def Dev.lowWm (d : Dev) (q : Nat) : Nat :=
  if d.highWm q ≤ d.rd QUE.Q_LOW_WM q then d.highWm q - 1 else d.rd QUE.Q_LOW_WM q

/-- BACKP after a change of OCC (R391). -/
def backpAfter (high low occ : Nat) (was : Bool) : Bool :=
  if high = 0 then false else if high ≤ occ then true else if occ ≤ low then false else was

/-- Sets bit `q` of a pair of 32-bit registers. -/
def Dev.wrPair (d : Dev) (lo hi : Fld) (q : Nat) (b : Bool) : Dev :=
  if q < 32 then d.wrBit lo q b else d.wrBit hi (q - 32) b

/-- Bit `q` of a pair of 32-bit registers. -/
def Dev.rdPair (d : Dev) (lo hi : Fld) (q : Nat) : Bool :=
  if q < 32 then (d.rd lo).testBit q else (d.rd hi).testBit (q - 32)

/-- Drives pin FCk from its queue's BACKP, or its safe state behind a closed gate (R392). -/
def Dev.driveFc (d : Dev) (k : Nat) : Dev :=
  if d.flag QUE.FC_BUILT k then
    d.wr QUE.FC_ASSERTED (if !d.powered 10 then 0 else if (d.rd QUE.FC_GATE).testBit k then d.rd QUE.Q_BACKP (d.rd QUE.FC_QUEUE k)
      else d.rd QUE.FC_SAFE k) k
  else d

/-- The level pin FCk carries, none where it is high-impedance (R48, R392). -/
def Dev.fcLevel (d : Dev) (k : Nat) : Option Bool :=
  if d.flag QUE.FC_BUILT k ∧ d.powered 10 then some (d.flag QUE.FC_ASSERTED k != d.flag QUE.FC_POL k) else none

/-- Drives every FC pin that queue `q` drives. -/
def Dev.driveFcOf (d : Dev) (q : Nat) : Dev :=
  forAll (List.range 16) (fun k d => if d.rd QUE.FC_QUEUE k = q then d.driveFc k else d) d

/-- Writes OCC, BACKP and the port's flags as the queue stands (R384, R391). -/
def Dev.queueLevel (d : Dev) (q : Nat) : Dev :=
  let h := d.queue q
  let was := d.flag QUE.Q_BACKP q
  let now := backpAfter (d.highWm q) (d.lowWm q) h.occ was
  let d := ((d.wr QUE.Q_OCC h.occ q).wr QUE.Q_OPEN_ITEM (bit h.item.isSome) q).wr QUE.Q_WAITING (bit h.waiting.isSome) q
  if now = was then d
  else (((d.wr QUE.Q_BACKP (bit now) q).wrPair QUE.BACKP_LO QUE.BACKP_HI q now).driveFcOf q).cause QUE.EVT_BACKP

/-- The tag of the presented entry, or of none (Table 15.2). -/
def QueH.tag (h : QueH) : Nat :=
  let tail := h.fgen * 2048 + bit h.lastPopOk * 16384
  match h.presented, h.head with
  | some poison, e :: _ => e.valid + bit e.first * 64 + bit e.last * 128 + bit poison * 256 + bit e.broken * 512 + tail + e.seq * 65536
  | _, _ => 1024 + tail

/-- Writes the read window of a queue: HEAD0 to HEAD7, TAG and the READY bit (R386). -/
def Dev.queueWindow (d : Dev) (q : Nat) : Dev :=
  let h := d.queue q
  let bs := match h.presented, h.head with
    | some _, e :: _ => e.data
    | _, _ => []
  let d := forAll (List.range 8) (fun k d => d.wr QUE.W_HEAD (leWord k bs) q k) (d.wr QUE.W_TAG h.tag q)
  d.wrPair QUE.READY_LO QUE.READY_HI q h.presented.isSome

/-- The instant the first entry of a class L chain that is not void stands at stage 0, where its head can stand there at `r` at the
earliest: 4,096 cycles after it was formed, behind each void entry skipped (R382, R384). -/
def stageAt : Nat → List QEntry → Nat
  | r, [] => r
  | r, e :: t => if e.void then stageAt (Nat.max (e.formedAt + 16384) r + 8) t else Nat.max (e.formedAt + 16384) r

/-- Void entries leave at the head, in class L once they have come to stage 0 (R384); class S entries pass from the tail file to the
head file while the middle is empty and the head has room (R381). `now` is given for class L. -/
def QueH.settle (now : Option Nat) : Nat → QueH → QueH
  | 0, h => h
  | n + 1, h =>
    match h.head, h.middle, h.tail with
    | e :: rest, _, _ =>
      if e.void then
        match now with
        | some t =>
          if Nat.max (e.formedAt + 16384) h.readyAt ≤ t then
            QueH.settle now n { h with head := rest, readyAt := Nat.max (e.formedAt + 16384) h.readyAt + 8 }
          else h
        | none => QueH.settle now n { h with head := rest }
      else match h.middle, h.tail with
        | [], t :: ts => if h.head.length < 16 then QueH.settle now n { h with head := h.head ++ [t], tail := ts } else h
        | _, _ => h
    | [], [], t :: ts => QueH.settle now n { h with head := [t], tail := ts }
    | [], _, _ => h

/-- A waiting entry enters the tail file once it has room, and the one behind it waits in its place (R384). -/
def QueH.letIn (h : QueH) (now : Nat) : QueH :=
  match h.waiting with
  | some (e, _) =>
    if h.tail.length < 16 then
      { h with tail := h.tail ++ [e], waiting := h.second.map (fun e' => (e', now)), second := none }
    else h
  | none => h

/-- The waiting writes of a queue's own fields take effect at its item start, or at once while it is empty (Table 3.6). -/
def Dev.queueBoundary (d : Dev) (q : Nat) : Dev :=
  forAll [QUE.Q_HIGH_WM, QUE.Q_LOW_WM, QUE.Q_STALE_US] (fun f d => match tget? (f.key q 0) d.wait with
    | some v => { d.wr f v q with wait := tdel (f.key q 0) d.wait }
    | none => d) d

/-- Now, for a queue of class L. -/
def Dev.chainNow (d : Dev) (q : Nat) : Option Nat := if d.rd QUE.Q_CLASS q = 2 then some d.now else none

/-- The queue after any change: movement, the waiting entries, waiting writes of an empty queue, levels and window. -/
def Dev.queueMove (d : Dev) (q : Nat) : Dev :=
  let h := ((((d.queue q).settle (d.chainNow q) ((d.queue q).occ + 64)).letIn d.now).settle (d.chainNow q) 64).letIn d.now
  let d := d.setQueue q h
  ((if h.occ = 0 then d.queueBoundary q else d).queueLevel q).queueWindow q

/-- The entries `es` in the places the queue's own entries have: head file, Brine, tail file. -/
def QueH.place (h : QueH) (es : List QEntry) : QueH :=
  { h with head := es.take h.head.length, middle := (es.drop h.head.length).take h.middle.length,
           tail := (es.drop h.head.length).drop h.middle.length }

/-- Voids the entries of item `seq`, newest entry first: the entries of an item not yet ended are the newest a queue holds, and an
older item that bore the same number ended with its LAST entry (R384). -/
def voidNewest (seq : Nat) : List QEntry → List QEntry
  | [] => []
  | e :: t => if e.seq = seq ∧ e.last = false then { e with void := true } :: voidNewest seq t else e :: t

/-- The item at the front of a list of entries, through its LAST entry (R379). -/
def itemOf : List QEntry → List QEntry
  | [] => []
  | e :: t => if e.last then [e] else e :: itemOf t

/-- What follows the item at the front of a list of entries. -/
def behindItem : List QEntry → List QEntry
  | [] => []
  | e :: t => if e.last then t else behindItem t

/-- Drops item `seq`: its entries become void, what it holds at the port is discarded (R384). -/
def Dev.dropItem (d : Dev) (q seq : Nat) : Dev :=
  let h := d.queue q
  let openHere := match h.item with | some (s, _, _) => decide (s = seq) | none => false
  let w := match h.waiting with | some (e, t) => if e.seq = seq then none else some (e, t) | none => none
  let s2 := match h.second with | some e => if e.seq = seq then none else some e | none => none
  let h := { h.place (voidNewest seq h.all.reverse).reverse with
                    item := if openHere then none else h.item, discarding := h.discarding || openHere,
                    waiting := w.or (s2.map fun e => (e, d.now)), second := if w.isSome then s2 else none }
  (((d.setQueue q h).count QUE.Q_DROPS q).wr QUE.LAST_DROP_Q q).cause QUE.EVT_DROP

/-- What the tail file of queue `q` may spill to Brine: entries that cannot pass to the head file, as far as Brine has room (R381). -/
def Dev.spillable (d : Dev) (q : Nat) : Nat :=
  let h := d.queue q
  if h.middle = [] ∧ h.head.length < 16 then 0 else Nat.min h.tail.length (d.brine q - h.middle.length)

/-- Before an entry formed at `t` finds the tail file full: a burst of up to eight of the file's entries that the share has carried to
Brine by then, 32 ns for each since the share was free and the file held its oldest (R381). -/
def Dev.spillBy (d : Dev) (q t : Nat) : Dev :=
  let h := d.queue q
  match h.tail with
  | e :: _ =>
    let start := Nat.max d.brineFree e.formedAt
    let k := Nat.min (Nat.min 8 (d.spillable q)) ((t - start) / 32)
    if h.tail.length < 16 ∨ k = 0 then d
    else { d.setQueue q ({ h with middle := h.middle ++ h.tail.take k, tail := h.tail.drop k }.letIn t) with
           brineFree := start + 32 * k, brineTurn := q }
  | [] => d

/-- A formed entry enters the queue, waits at the port, or makes its item dropped (R381, R382, R384). -/
def Dev.enterEntry (d : Dev) (q : Nat) (e : QEntry) : Dev :=
  let d := d.spillBy q e.formedAt
  let h := d.queue q
  if d.capacity q ≤ h.occ then d.dropItem q e.seq
  else if d.rd QUE.Q_CLASS q = 2 then d.setQueue q { h with head := h.head ++ [e] }
  else if h.waiting.isSome then
    if h.second.isSome then d.dropItem q e.seq else d.setQueue q { h with second := some e }
  else if h.tail.length < 16 then d.setQueue q { h with tail := h.tail ++ [e] }
  else if h.middle = [] ∧ h.head.length < 16 then d.setQueue q (QueH.settle none 64 { h with tail := h.tail ++ [e] })
  else d.setQueue q { h with waiting := some (e, e.formedAt) }

/-- Forms an entry from the bytes at the port, at the instant of the word that fills it (R380). -/
def Dev.formEntry (d : Dev) (q seq : Nat) (bytes : List Nat) (first last broken : Bool) : Dev :=
  d.enterEntry q ⟨padTo 32 bytes, bytes.length, first, last, broken, seq, false, Nat.max d.now (d.queue q).portAt⟩

/-- Discards words (R380, R384, R389). -/
def Dev.discardWords (d : Dev) (q n : Nat) : Dev :=
  if n = 0 then d else (d.wr QUE.Q_DISC_WORDS (Nat.min 65535 (d.rd QUE.Q_DISC_WORDS q + n)) q).cause QUE.EVT_DISCARD

/-- The write port takes `n` words, one a clock cycle, the first not before now (R380). -/
def Dev.portWords (d : Dev) (q n : Nat) : Dev :=
  let h := d.queue q
  d.setQueue q { h with portAt := Nat.max d.now (h.portAt + 4) + 4 * (n - 1) }

/-- The item of a word that finds both assembly registers occupied is dropped (R384). -/
def Dev.portBlocked (d : Dev) (q : Nat) : Bool := let h := d.queue q; h.waiting.isSome && h.second.isSome

/-- Adds a word's bytes to the open item; a filled or last entry is formed (R380). -/
def Dev.addBytes (d : Dev) (q : Nat) (bs : List Nat) (last : Bool) : Dev :=
  match (d.queue q).item with
  | none => d
  | some (seq, held, formed) =>
    if d.portBlocked q then d.dropItem q seq
    else
      let held := held ++ bs
      if last then
        let d := d.setQueue q { d.queue q with item := none }
        d.formEntry q seq held (!formed) true false
      else if 32 ≤ held.length then
        let d := d.setQueue q { d.queue q with item := some (seq, [], true) }
        d.formEntry q seq held (!formed) false false
      else d.setQueue q { d.queue q with item := some (seq, held, formed) }

/-- Opens an item under the next number; an open item is closed as BROKEN first (R380). -/
def Dev.openItem (d : Dev) (q : Nat) : Dev :=
  let d := match (d.queue q).item with
    | some (seq, held, formed) =>
      let d := d.setQueue q { d.queue q with item := none }
      d.formEntry q seq held (!formed) true true
    | none => d
  let h := d.queue q
  d.setQueue q { h with item := some (h.nextSeq, [], false), nextSeq := (h.nextSeq + 1) % 65536, discarding := false }

/-- QUEUE_WORD_WRITE: a marked word of WIDTH bits arrives at the write port (R380). -/
def Dev.queueWord (d : Dev) (q : Nat) (m : Marker) (word : Nat) : Dev :=
  let bs := leBytes (2 ^ d.rd QUE.Q_WIDTH q) word
  let h := d.queue q
  let d := d.portWords q 1
  let d :=
    match m with
    | .start => ((d.queueBoundary q).openItem q).addBytes q bs false
    | .one => ((d.queueBoundary q).openItem q).addBytes q bs true
    | .cont => if h.discarding ∨ h.item.isNone then d.discardWords q 1 else d.addBytes q bs false
    | .stop => if h.discarding ∨ h.item.isNone then d.discardWords q 1 else d.addBytes q bs true
  d.queueMove q

/-- The queue is built with block `b` as its producer (R377, R436). -/
def Dev.builtWith (d : Dev) (q b : Nat) : Bool := decide (q < 64 ∧ d.rd QUE.Q_CLASS q ≠ 0 ∧ d.rd QUE.Q_PRODUCER q = b)

/-- Words of queue `q` that carry `n` bytes (R380). -/
def Dev.wordsOf (d : Dev) (q n : Nat) : Nat := ceilDiv n (2 ^ d.rd QUE.Q_WIDTH q)

/-- Feeds the bytes of an open item to the port 32 at a time: the entries a data-path producer's consecutive words form (R380). Of an item
dropped on the way, the words still to come are discarded (R384). -/
def Dev.feedItem : Nat → Dev → Nat → List Nat → Dev
  | 0, d, _, _ => d
  | n + 1, d, q, bs =>
    if (d.queue q).item.isNone then d.discardWords q (d.wordsOf q bs.length)
    else
      let chunk := bs.take 32
      let blocked := d.portBlocked q
      let d := (d.portWords q (d.wordsOf q chunk.length)).addBytes q chunk (decide (bs.length ≤ 32))
      let d := if blocked then d.discardWords q (d.wordsOf q chunk.length - 1) else d
      if bs.length ≤ 32 then d else Dev.feedItem n d q (bs.drop 32)

/-- A data-path producer, block `b`, writes one whole item into queue `q`, if CR5 built the queue for it (R17, R380). -/
def Dev.queueItem (d : Dev) (b q : Nat) (bs : List Nat) : Dev :=
  if d.builtWith q b ∧ d.powered 16 ∧ bs ≠ [] then
    (Dev.feedItem (bs.length / 32 + 1) ((d.queueBoundary q).openItem q) q bs).queueMove q
  else d

/-- As `queueItem`, into a queue that may not be named. -/
def Dev.queueItem? (d : Dev) (b : Nat) (q : Option Nat) (bs : List Nat) : Dev :=
  match q with | some q => d.queueItem b q bs | none => d

/-- TAIL_WAIT_TIMEOUT: the waiting entry found no room within 2 µs, so its item is dropped (R384). -/
def tailWaitTimeout (q : Nat) (d : Dev) : Dev :=
  match (d.queue q).waiting with
  | some (e, t) => (((d.waitUntil (t + 2000)).count QUE.Q_SPILL_LATE q).dropItem q e.seq).queueMove q
  | none => d

/-- What the head file of queue `q` may take back from Brine (R381). -/
def Dev.refillable (d : Dev) (q : Nat) : Nat := Nat.min (d.queue q).middle.length (16 - (d.queue q).head.length)

/-- A burst of `k` entries of queue `q` to Brine, or back from it: it holds the share for `k` times 32 ns (R381). -/
def Dev.burst (d : Dev) (q k : Nat) (back : Bool) : Dev :=
  if k = 0 then d
  else
    let d := d.waitUntil (Nat.max d.now d.brineFree + 32 * k)
    let h := d.queue q
    ({ d.setQueue q (if back then { h with head := h.head ++ h.middle.take k, middle := h.middle.drop k }
                     else { h with middle := h.middle ++ h.tail.take k, tail := h.tail.drop k }) with
       brineFree := d.now, brineTurn := q }).queueMove q

/-- The burst that waits at queue `q`, if one does: the refill of its head file before a spill of its tail file (assumption 13). -/
def Dev.burstOf (d : Dev) (q : Nat) : Dev :=
  if d.refillable q ≠ 0 then d.burst q (Nat.min 8 (d.refillable q)) true
  else d.burst q (Nat.min 8 (d.spillable q)) false

/-- The queues with bursts waiting whose turn at the share comes before `q`'s are served one burst each (R32, R381). -/
def Dev.earlierBursts (d : Dev) (q : Nat) : Dev :=
  forAll (((List.range 63).map fun k => (d.brineTurn + 1 + k) % 64).takeWhile fun r => decide (r ≠ q)) (fun r d => d.burstOf r) d

/-- BRINE_SPILL: up to eight tail entries move to Brine in one burst (R381). -/
def brineSpill (q n : Nat) (d : Dev) : Dev :=
  let d := d.earlierBursts q
  d.burst q (Nat.min (Nat.min n 8) (d.spillable q)) false

/-- BRINE_REFILL: the head file is refilled from Brine in order, a burst of up to eight (R381). -/
def brineRefill (q n : Nat) (d : Dev) : Dev :=
  let d := d.earlierBursts q
  d.burst q (Nat.min (Nat.min n 8) (d.refillable q)) true

/-- The LAST entry of the item at the head has been formed (R383); one that still waits at the port may yet be dropped, and does not
count. -/
def QueH.complete (h : QueH) : Bool :=
  match h.head with
  | e :: _ => h.all.any (fun x => decide (x.seq = e.seq) && x.last && !x.void)
  | [] => false

/-- The instant from which the head can be presented: its item's last word has been written and, in class L, the head stands at stage 0
(R382, R383). -/
def Dev.presentAt (d : Dev) (q : Nat) : Nat :=
  let h := d.queue q
  Nat.max (((itemOf (h.all.dropWhile fun e => e.void)).getLast?.map fun e => e.formedAt).getD 0)
    (if d.rd QUE.Q_CLASS q = 2 then stageAt h.readyAt h.head else 0)

/-- Voids the entries behind an unreadable tag, up to the next FIRST (R390). -/
def voidToFirst : List QEntry → List QEntry
  | [] => []
  | e :: t => if e.first then e :: t else { e with void := true } :: voidToFirst t

/-- As `voidToFirst`, over the three stores of a queue in order. -/
def QueH.voidBehindHead (h : QueH) : QueH :=
  h.place (h.head.take 1 ++ voidToFirst (h.head.drop 1 ++ h.middle ++ h.tail))

/-- The stale timer of a privileged queue starts as an entry is presented (R393). -/
def Dev.startStale (d : Dev) (q : Nat) (h : QueH) : QueH :=
  if d.flag QUE.Q_PRIV q then { h with staleFrom := some d.now } else h

/-- ENTRY_PRESENTATION: the head entry of a complete item is checked and presented (R383, R390). -/
def entryPresentation (q : Nat) (err : EntryErr) (d : Dev) : Dev :=
  let d := if (d.queue q).presented.isNone ∧ (d.queue q).head ≠ [] then (d.waitUntil (d.presentAt q)).queueMove q else d
  let h := d.queue q
  match h.presented, h.head with
  | none, e :: rest =>
    if !h.complete ∨ e.void then d
    else
      let d := match err with
        | .clean => d.setQueue q (d.startStale q { h with presented := some false })
        | .corrected =>
          ((d.setQueue q (d.startStale q { h with presented := some false })).count QUE.Q_CORR_COUNT q).cause QUE.EVT_CORR
        | .lane => d.setQueue q (d.startStale q { h with presented := some true })
        | .tag => d.setQueue q (d.startStale q (QueH.voidBehindHead
            { h with presented := some true,
                     head := { e with first := true, last := true, valid := 32, seq := 0, broken := false } :: rest }))
      let d := if err = .lane ∨ err = .tag then
          (((d.count QUE.Q_POISONED q).wr QUE.LAST_POISON_Q q).cause QUE.EVT_POISON).raise Flt.QUE_UNCORRECTABLE q
        else d
      d.queueMove q
  | _, _ => d

/-- An accepted POP, take or flush ends the stale spell (R393). -/
def Dev.endStale (d : Dev) (q : Nat) : Dev :=
  if d.flag QUE.Q_STALE q then
    ((d.wr QUE.Q_STALE 0 q).wrBit QUE.STALE_PRIV (d.rd QUE.Q_PRIV_IDX q) false).recover Flt.QUE_STALE q
  else d

/-- A presented entry with POISON leaves its queue (Table 18.6). -/
def Dev.poisonLeaves (d : Dev) (q : Nat) (p : Option Bool) : Dev :=
  if p = some true then d.recover Flt.QUE_UNCORRECTABLE q else d

/-- The head entry gone from the head file; with `whole`, every later entry up to the end of its item too (R386). -/
def QueH.without (h : QueH) (whole : Bool) : QueH :=
  let keep := if whole then behindItem h.all else h.all.drop 1
  let gone := h.occ - keep.length
  { h with head := h.head.drop gone, middle := h.middle.drop (gone - h.head.length),
           tail := h.tail.drop (gone - h.head.length - h.middle.length) }

/-- What leaves a class L chain at `now` frees its places one stage a cycle: the next entry cannot stand at stage 0 before the places ahead of
it have moved up (R382). -/
def QueH.closeUp (h : QueH) (now : Nat) (whole : Bool) : Nat :=
  let gone := h.occ - (h.without whole).occ
  Nat.max (now + 4 * gone) (stageAt h.readyAt h.head + 8 * gone)

/-- The presented entry leaves; with `whole`, so does the rest of its item (R386). -/
def Dev.takeHead (d : Dev) (q : Nat) (whole : Bool) : Dev :=
  let h := d.queue q
  match h.head with
  | [] => d
  | _ :: _ =>
    let d := (d.poisonLeaves q h.presented).endStale q
    (d.setQueue q { h.without whole with presented := none, staleFrom := none, readyAt := h.closeUp d.now whole }).queueMove q

/-- POP_ENTRY and POP_ITEM: accepted when FGEN matches and an entry is presented (R386). -/
def queuePop (q fgen : Nat) (whole : Bool) (d : Dev) : Dev :=
  let h := d.queue q
  if h.fgen = fgen ∧ h.presented.isSome then
    (d.setQueue q { h with lastPopOk := true }).takeHead q whole
  else ((d.setQueue q { h with lastPopOk := false }).cause QUE.EVT_POP_REFUSED).queueWindow q

/-- The item at the head holds a POISON or BROKEN entry (R388). -/
def QueH.spoilt (h : QueH) : Bool :=
  match h.head with
  | _ :: _ => decide (h.presented = some true) || (itemOf h.all).any (fun x => x.broken)
  | [] => false

/-- DATA_PATH_TAKE: a data-path consumer takes the presented entry; an item with a POISON or BROKEN entry is discarded whole
(R388). -/
def dataPathTake (q : Nat) (d : Dev) : Dev :=
  let h := d.queue q
  if h.presented.isNone ∨ d.rd QUE.Q_CONSUMER q = 0x3F then d
  else if h.spoilt then (d.count QUE.Q_CONS_DISC q).takeHead q true
  else d.takeHead q false

/-- FLUSH: the queue is emptied and its generation counts on (R389). -/
def queueFlush (q : Nat) (d : Dev) : Dev :=
  if d.rd QUE.Q_CLASS q = 0 then d else
  let h := d.queue q
  let d := (d.poisonLeaves q h.presented).endStale q
  let d := d.setQueue q { h with head := [], middle := [], tail := [], waiting := none, second := none, presented := none,
                                 staleFrom := none, readyAt := 0, fgen := (h.fgen + 1) % 8, item := none,
                                 discarding := h.discarding || h.item.isSome }
  (((d.count QUE.Q_FLUSH_COUNT q).cause QUE.EVT_FLUSH).queueBoundary q).queueMove q

/-- QUEUE_STALE: the stale timer of a privileged queue reaches STALE_US while an entry is presented (R393). -/
def queueStale (q : Nat) (d : Dev) : Dev :=
  match (d.queue q).staleFrom with
  | some t =>
    if d.flag QUE.Q_PRIV q ∧ (d.queue q).presented.isSome ∧ !d.flag QUE.Q_STALE q then
      let d := d.waitUntil (t + 1000 * clampN 10 10000000 (d.rd QUE.Q_STALE_US q))
      (((d.wr QUE.Q_STALE 1 q).wrBit QUE.STALE_PRIV (d.rd QUE.Q_PRIV_IDX q) true).cause QUE.EVT_STALE).raise Flt.QUE_STALE q
    else d
  | none => d

/-- WM_PRESET_WRITE: the watermarks of Table 15.3 (R391). -/
def wmPreset (q v : Nat) (d : Dev) : Dev :=
  if d.rd QUE.Q_CLASS q = 0 then d else
  let v := v % 4
  let c := d.capacity q
  let (hi, lo) := match v with
    | 1 => (c / 2, c / 4)
    | 2 => (7 * c / 8, c / 2)
    | 3 => (c / 4, c / 16)
    | _ => (0, 0)
  let d := d.wr QUE.Q_WM_PRESET v q
  ((d.expand QUE.Q_WM_PRESET q v QUE.Q_HIGH_WM q 0 (some hi)).expand QUE.Q_WM_PRESET q v QUE.Q_LOW_WM q 0 (some lo)).queueLevel q

end Sys2Proof.Machine
end

