-- ==== Sys2Proof/Machine/Points.lean ====
section
/-! DEFINITION. Machine/Points.lean: the process image (R27 to R30). -/

namespace Sys2Proof.Machine

/-- What the POINT-TABLE says of point `n`: type, producer, freshness limit in µs (R28, R29). -/
def Dev.pointRow (d : Dev) (n : Nat) : Option (PtType × Producer × Nat) :=
  (d.itemsOf 15).findSome? fun it => match it with
    | .point m ty p f => if m = n then some (ty, p, f) else none
    | _ => none

/-- The record of point `n`; all zeros where the image builds none (R30). -/
def Dev.point (d : Dev) (n : Nat) : Point := tget n d.points

/-- VALUE as a point's type lays a written word out (R30). -/
def layoutValue (ty : PtType) (v : Nat) : Nat :=
  match ty with
  | .q15 => enc 32 (sgn 16 v)
  | .u16 => v % 2 ^ 16
  | .bool => v % 2
  | .s32 => v % 2 ^ 32

/-- STATUS bits of Table 1.5. -/
def stValid : Nat := 1
def stStale : Nat := 2
def stLost : Nat := 4
def stPoison : Nat := 8
def stGated : Nat := 16

/-- An update of a built point by its producer with a STAMP: VALUE, STATUS replaced as a whole, SEQ counted (R27, R29). No point is
updated before the timebase starts (R29). -/
def Dev.pointUpdateAt (d : Dev) (n stamp v : Nat) (status : Nat := stValid) : Dev :=
  match d.pointRow n with
  | none => d
  | some (ty, _, _) =>
    if !d.running then d
    else { d with points := tset n ⟨layoutValue ty v, status, ((d.point n).seq + 1) % 65536, stamp, d.now⟩ d.points }

/-- As `pointUpdateAt`, with the STAMP from the broadcast word (R27). -/
def Dev.pointUpdate (d : Dev) (n : Nat) (v : Nat) (status : Nat := stValid) : Dev := d.pointUpdateAt n d.mt v status

/-- As `pointUpdate`, for a point that may not be named. -/
def Dev.pointUpdate? (d : Dev) (n : Option Nat) (v : Nat) (status : Nat := stValid) : Dev :=
  match n with | some n => d.pointUpdate n v status | none => d

/-- The value of a point as its type reads it. -/
def Dev.pointVal (d : Dev) (n : Nat) : Int :=
  match d.pointRow n with
  | some (.q15, _, _) => sgn 16 (d.point n).value
  | some (.s32, _, _) => sgn 32 (d.point n).value
  | _ => ((d.point n).value : Int)

/-- The point's status has a bit of Table 1.5. -/
def Dev.pointHas (d : Dev) (n : Nat) (b : Nat) : Bool := decide ((d.point n).status / b % 2 = 1)

/-- POINT_VALUE_WRITE: the one write the window permits, a 32-bit write to VALUE of a built point whose producer is the field
cores; any other write answers a bus error and changes nothing (R30). -/
def pointValueWrite (addr width v : Nat) (d : Dev) : Dev :=
  let n := (addr - 0x50000000) / 16
  if width = 32 ∧ 0x50000000 ≤ addr ∧ addr < 0x50200000 ∧ addr % 16 = 0 then
    match d.pointRow n with
    | some (_, .cores, _) => (d.pointUpdate n v).busOk
    | _ => d.busError
  else d.busError

/-- FRESHNESS_EXPIRY: the limit of a built point passes without an update (R29). -/
def freshnessExpiry (n : Nat) (d : Dev) : Dev :=
  match d.pointRow n with
  | none => d
  | some (_, _, f) =>
    let p := d.point n
    let d := d.waitUntil (p.since + 1000 * f)
    if p.status / stStale % 2 = 1 then d
    else { d with points := tset n { p with status := p.status + stStale } d.points }

/-- SOURCE-LOST on every point a lost producer owns (R29). -/
def Dev.sourceLost (d : Dev) (prod : Producer) : Dev :=
  forAll (d.itemsOf 15) (fun it d => match it with
    | .point n _ p _ =>
      let r := d.point n
      if p = prod ∧ r.status / stLost % 2 = 0 then
        { d with points := tset n { r with status := r.status + stLost } d.points }
      else d
    | _ => d) d

/-- SOURCE-LOST of every point of a producer that is back clears, VALUE unchanged (R365). -/
def Dev.sourceFound (d : Dev) (prod : Producer) : Dev :=
  forAll (d.itemsOf 15) (fun it d => match it with
    | .point n _ p _ =>
      let r := d.point n
      if p = prod ∧ r.status / stLost % 2 = 1 then
        { d with points := tset n { r with status := r.status - stLost } d.points }
      else d
    | _ => d) d

/-- A field-core read of 32 or 64 bits of the window (R30): the bytes from an address, low byte first; none is a bus error. -/
def Dev.pointRead (d : Dev) (addr width : Nat) : Option Nat :=
  if (width = 32 ∨ width = 64) ∧ addr % (width / 8) = 0 ∧ 0x50000000 ≤ addr ∧ addr < 0x50200000 then
    let n := (addr - 0x50000000) / 16
    let p := if (d.pointRow n).isSome then d.point n else default
    let all := p.value + p.status * 2 ^ 32 + p.seq * 2 ^ 48 + p.stamp * 2 ^ 64
    some (all / 2 ^ (8 * (addr % 16)) % 2 ^ width)
  else none

end Sys2Proof.Machine
end

