-- ==== Sys2Proof/Machine/Timebase.lean ====
section
/-! DEFINITION. Machine/Timebase.lean: Machine Time, Rotor Angle, Machine Distance, position history and the snapshot
(chapter 4, R98 to R113, R121, R124 to R126). -/

namespace Sys2Proof.Machine

/-- Leaves a flood trigger for the look-ahead unit, which takes none while it does not run (R147, R148). -/
def Dev.floodTrigger (d : Dev) (cause : Nat) (impls sections : List Nat) : Dev :=
  if d.flag LAH.EN then { d with lah := { d.lah with triggers := d.lah.triggers ++ [⟨cause, impls, sections⟩] } } else d

/-- Every implement (R127). -/
def allImpls : List Nat := [0, 1, 2, 3, 4, 5, 6, 7]

/-! Rotor Angle. -/

/-- The FI input CR6 names as the RA source, or the first of its quadrature pair, and whether it is a pair (R105). -/
def Dev.raInput (d : Dev) : Option (Nat × Bool) :=
  (d.itemsOf 6).findSome? fun it => match it with | .raSource _ f q => some (f, q) | _ => none

/-- RA_PULSE: a pulse on the RA source, with its sense; a source on a single FI input has none and counts forward (R105). The count of pulses k within a
revolution stands at k × 65,536 ÷ PPR, rounded up. The first pulse of all measures no interval, so RA still holds. -/
def raPulse (back : Bool) (d : Dev) : Dev :=
  if !d.running ∨ d.raPpr = 0 then d
  else
    let back := back && (d.raInput.map fun p => p.2).getD false
    let t := d.tmb
    let step := 65536 / d.raPpr
    let k := t.raBase % 65536 * d.raPpr / 65536
    let base := if back then
        (if k = 0 then (t.raBase / 65536 * 65536 + 2 ^ 40 - 65536) + ((d.raPpr - 1) * 65536 + d.raPpr - 1) / d.raPpr
         else t.raBase / 65536 * 65536 + ((k - 1) * 65536 + d.raPpr - 1) / d.raPpr)
      else (if k + 1 = d.raPpr then (t.raBase / 65536 + 1) * 65536 else t.raBase / 65536 * 65536 + ((k + 1) * 65536 + d.raPpr - 1) / d.raPpr)
    let base := if step = 0 ∨ !t.raSeen then t.raBase else base % 2 ^ 40
    let d := if t.raSeen then d.wr TMB.RA_VALID 1 else d
    { d with tmb := { d.tmb with raBase := base, raInterval := if t.raSeen then t.mt - t.raPulse else 0,
                                 raPulse := t.mt, raBack := back, raSeen := true } }.markCrossings

/-- RA_PULSE_TIMEOUT: 1 s has passed since the last pulse; RA holds its value (R105). -/
def raPulseTimeout (d : Dev) : Dev :=
  let d := if d.tmb.raSeen then d.waitMt (d.tmb.raPulse + second) else d
  let held := d.ra
  { d.wr TMB.RA_VALID 0 with tmb := { d.tmb with raBase := held, raSeen := false, raInterval := 0 } }

/-! Machine Time. -/

/-- GPS_OFS, signed 64-bit ns (R104). -/
def Dev.gpsOfs (d : Dev) : Int := sgn 64 (d.rd TMB.GPS_OFS_LO + d.rd TMB.GPS_OFS_HI * 2 ^ 32)

/-- Writes GPS_OFS. -/
def Dev.setGpsOfs (d : Dev) (o : Int) : Dev := (d.wr TMB.GPS_OFS_LO (enc 64 o % 2 ^ 32)).wr TMB.GPS_OFS_HI (enc 64 o / 2 ^ 32)

/-- The discipline of MT in force: while network time is taken it is 2 whatever MT_DISC holds (R359). -/
def Dev.mtDisc (d : Dev) : Nat := if d.flag ETH.DISC_FORCED then 2 else d.rd TMB.MT_DISC

/-- PPS_EDGE_MEASURE: at a reference edge of the discipline in force (1 GNSS, 2 network), MT is measured against the reference
time of the edge in ns, the quantisation error already taken off (R104). `ref` is the reference time of the edge. MT is steered so
that the error would be gone within 1 s, at SLEW_PPM at most (assumption 50). -/
def ppsEdgeMeasure (source : Nat) (ref : Int) (d : Dev) : Dev :=
  if !d.running ∨ d.mtDisc ≠ source ∨ source = 0 then d
  else
    let t := d.tmb
    if !t.ofsSet then
      { d.setGpsOfs (ref - t.mt) with tmb := { t with ofsSet := true, lastEdge := t.mt, goodRun := 1, badRun := 0, bigRun := 0, mtRate := 0 } }
        |>.wr TMB.MT_ERR 0 |> fun d => if source = 1 then d.wr ETH.NT_GNSS 1 else d
    else
      let err : Int := t.mt + d.gpsOfs - ref
      let a := err.natAbs
      let big := if 1000000 < a then t.bigRun + 1 else 0
      let good := if a < 1000 then t.goodRun + 1 else 0
      let bad := if 1000 < a then t.badRun + 1 else 0
      let d := d.wrSat TMB.MT_ERR err
      let d := if 10 ≤ big then d.setGpsOfs (ref - t.mt) else d
      let rate := if 10 ≤ big then t.mtRate else clampI (-(1000 * d.slewPpm)) (1000 * d.slewPpm) (-err)
      let locked := d.flag TMB.MT_LOCKED
      let d := if !locked ∧ 10 ≤ good then d.wr TMB.MT_LOCKED 1
               else if locked ∧ 3 ≤ bad then (d.wr TMB.MT_LOCKED 0).cause TMB.EVT_MT_UNLOCK else d
      { d with tmb := { d.tmb with goodRun := good, badRun := bad, bigRun := if 10 ≤ big then 0 else big,
                                   lastEdge := t.mt, mtRate := rate } }

/-- MT_LOCK_TIMEOUT: 3 s with no reference edge (R104). -/
def mtLockTimeout (d : Dev) : Dev :=
  let d := d.waitMt (d.tmb.lastEdge + 3 * second)
  let d := { d with tmb := { d.tmb with goodRun := 0 } }
  if d.flag TMB.MT_LOCKED then (d.wr TMB.MT_LOCKED 0).cause TMB.EVT_MT_UNLOCK else d

/-! Machine Distance. -/

/-- The source is built by CR6 (R106). -/
def Dev.mdPairs (d : Dev) (i : Nat) : Option Nat :=
  (d.itemsOf 6).findSome? fun it => match it with | .mdSource k p => if k = i then some p else none | _ => none

/-- Source `i` of the fusion. -/
def Dev.mdSrc (d : Dev) (i : Nat) : MdSrc := tget i d.tmb.srcs

/-- Replaces source `i`. -/
def Dev.setMdSrc (d : Dev) (i : Nat) (s : MdSrc) : Dev := { d with tmb := { d.tmb with srcs := tset i s d.tmb.srcs } }

/-- A source that CR6 builds delivers a sample in 2^-8 mm/s, valid at an MT (R106). -/
def Dev.mdSample (d : Dev) (i : Nat) (v validAt : Int) : Dev :=
  if (d.mdPairs i).isNone then d
  else (d.setMdSrc i { d.mdSrc i with v := some v, validAt := validAt }).wrSat TMB.SRC_SPEED (mmps v) i

/-- The WHEEL sample of a base tick: counts since the last tick, the mean of two pairs, × WHEEL_SCALE nm in 50 µs (R106), rounded toward
minus infinity to 2^-8 mm/s: the spec gives no rounding (assumption 50). -/
def Dev.wheelSample (d : Dev) : Dev :=
  match d.mdPairs 0 with
  | none => d
  | some pairs =>
    let t := d.tmb
    let scale : Int := d.rd TMB.WHEEL_SCALE
    let v := if pairs = 2 then floorDiv (256 * scale * (t.wheelA + t.wheelB)) 100 else floorDiv (256 * scale * t.wheelA) 50
    { (d.mdSample 0 v t.mt) with tmb := { (d.mdSample 0 v t.mt).tmb with wheelA := 0, wheelB := 0 } }

/-- Rounds a quotient to nearest, ties away from zero (R101). -/
def divAway (a : Int) (b : Nat) : Int := if a < 0 then -(((2 * -a + b) / (2 * b : Nat))) else (2 * a + b) / (2 * b : Nat)

/-- What FI input `fi` serves in MD (R106). -/
def Dev.fiRole (d : Dev) (fi : Nat) : Option Nat :=
  (d.itemsOf 6).findSome? fun it => match it with | .fiUse k r => if k = fi then some r else none | _ => none

/-- A quadrature count of a wheel pair (R106). -/
def Dev.wheelEdge (d : Dev) (pair : Nat) (up : Bool) : Dev :=
  let c : Int := if up then 1 else -1
  if pair = 0 then { d with tmb := { d.tmb with wheelA := d.tmb.wheelA + c } }
  else { d with tmb := { d.tmb with wheelB := d.tmb.wheelB + c } }

/-- A GSS pulse: GSS_SCALE nm in the interval since the last pulse, with the fused sign (R106), rounded to nearest (assumption 50). -/
def Dev.gssEdge (d : Dev) : Dev :=
  let t := d.tmb
  let d := { d with tmb := { t with gssPulse := some t.mt } }
  match t.gssPulse with
  | none => d
  | some p =>
    if t.mt ≤ p then d
    else
      let v := divAway (256000 * (d.rd TMB.GSS_SCALE : Nat)) (t.mt - p)
      d.mdSample 3 (if t.fused < 0 then -v else v) t.mt

/-- The fused speed held for an MT; 0 before the first (R107, R109). -/
def speedAt (l : List (Nat × Int)) (t : Int) : Int := ((l.find? fun p => decide ((p.1 : Int) ≤ t)).map (fun p => p.2)).getD 0

/-- One source through its freshness and gates at a base tick (R107). `vref` is the fused speed for its validity instant. -/
def gateSource (mt : Nat) (staleMs gateAbs gateRel readmit : Nat) (vref : Int) (s : MdSrc) : MdSrc :=
  let v := s.v.getD 0
  let age : Int := mt - s.validAt
  let fresh := s.v.isSome && decide (age ≤ (clampN 1 1000 staleMs * 1000000 : Nat)) && decide (age ≤ 1000000000)
  let gap := (v - vref).natAbs
  let pass := fresh && decide (256 * gap ≤ Nat.max (gateAbs * 65536) (gateRel * vref.natAbs))
  let run := if pass then s.passrun + 50 else 0
  { s with fresh := fresh, pass := pass, passrun := run,
           admitted := if pass then (s.admitted || decide (readmit * 10000 ≤ run)) else false }

/-- The gate of source `i`: counts rejects and losses of freshness (R107). In DEGRADED the anchor's speed is vref for every
other source (Table 4.3); throughout LOST, not only at start (R109), vref is 0 (assumption 50). -/
def Dev.gateOne (d : Dev) (i : Nat) : Dev :=
  let s := d.mdSrc i
  if !d.flag TMB.SRC_USE i ∨ (d.mdPairs i).isNone then d.setMdSrc i { s with fresh := false, pass := false, passrun := 0, admitted := false }
  else
    let degraded := decide (d.rd TMB.MD_STATE = 2)
    let vref := if degraded ∧ i ≠ d.tmb.anchor then ((d.mdSrc d.tmb.anchor).v.getD 0)
                else if d.rd TMB.MD_STATE = 3 then 0 else speedAt d.tmb.speeds s.validAt
    let n := gateSource d.mt (d.rd TMB.SRC_STALE_MS i) (d.rd TMB.SRC_GATE_ABS i) (d.rd TMB.SRC_GATE_REL i) (d.rd TMB.SRC_READMIT i) vref s
    let n := if degraded ∧ i = d.tmb.anchor then { n with admitted := n.fresh } else n
    let d := if s.pass ∧ !n.pass then (d.count TMB.REJECTS i).cause TMB.EVT_SRC_REJECT else d
    let d := if s.fresh ∧ !n.fresh then d.count TMB.STALES i else d
    d.setMdSrc i n

/-- The four sources. -/
def mdSources : List Nat := [0, 1, 2, 3]

/-- The admitted sources with WEIGHT above 0. -/
def Dev.admittedWeighted (d : Dev) : List Nat := mdSources.filter fun i => (d.mdSrc i).admitted && decide (0 < d.rd TMB.SRC_WEIGHT i)

/-- The weighted mean of the admitted sources (R107). -/
def Dev.weightedMean (d : Dev) (l : List Nat) : Int :=
  divAway ((l.map fun i => (d.rd TMB.SRC_WEIGHT i : Int) * (d.mdSrc i).v.getD 0).foldl (· + ·) 0)
    ((l.map fun i => d.rd TMB.SRC_WEIGHT i).foldl (· + ·) 0)

/-- The fresh source of highest PRIORITY that may anchor; equal values go by source number (Table 4.3). -/
def Dev.bestAnchor (d : Dev) : Option Nat :=
  (mdSources.filter fun i => (d.mdSrc i).fresh && d.flag TMB.SRC_USE i && decide (0 < d.rd TMB.SRC_WEIGHT i)).foldl
    (fun best i => match best with
      | none => some i
      | some b => if d.rd TMB.SRC_PRIORITY i < d.rd TMB.SRC_PRIORITY b then some i else some b) none

/-- The next MD_STATE by the rows of Table 4.3, first that holds; else the state stays (R108). -/
def Dev.nextMdState (d : Dev) : Nat :=
  let st := d.rd TMB.MD_STATE
  let adm := d.admittedWeighted
  let anyAdm := mdSources.any fun i => (d.mdSrc i).admitted
  let freshN := (mdSources.filter fun i => (d.mdSrc i).fresh).length
  let held := decide (d.tmb.lastAdmitted + d.rd TMB.HOLD_MS * ms ≤ d.mt)
  let anchorFresh := (d.mdSrc d.tmb.anchor).fresh
  if st ≠ 2 ∧ adm ≠ [] then 0
  else if st = 2 ∧ (2 ≤ adm.length ∨ (anchorFresh ∧ freshN = 1)) then 0
  else if st = 2 ∧ anchorFresh then 2
  else if (st = 0 ∨ st = 2) ∧ !anyAdm then 1
  else if (st = 1 ∨ st = 3) ∧ held ∧ d.bestAnchor.isSome then 2
  else if st = 1 ∧ held ∧ freshN = 0 then 3
  else st

/-- The fault behind an MD_STATE (R110). -/
def mdFault (st : Nat) : Option Nat :=
  if st = 1 then some Flt.MD_HOLDOVER else if st = 2 then some Flt.MD_DEGRADED else if st = 3 then some Flt.MD_LOST else none

/-- Notes a recovery, or a detection, where there is one. -/
def Dev.recover? (d : Dev) (c : Option Nat) : Dev := match c with | some c => d.recover c | none => d
def Dev.raise? (d : Dev) (c : Option Nat) : Dev := match c with | some c => d.raise c | none => d

/-- MD_STATE_CHANGE: a new MD_STATE, its event, its fault and the recovery of the one left; entering LOST clears
STATIONARY and floods every implement (R108, R110, R147). -/
def Dev.mdStateTo (d : Dev) (st : Nat) : Dev :=
  let was := d.rd TMB.MD_STATE
  if st = was then d
  else
    let d := ((d.wr TMB.MD_STATE st).wr TMB.MD_VALID (bit (st ≠ 3))).cause TMB.EVT_STATE_CHANGE
    let d := (d.recover? (mdFault was)).raise? (mdFault st)
    if st = 3 then { (d.wr SYS.STATIONARY 0).floodTrigger 7 allImpls [] with tmb := { d.tmb with slowFrom := none, fastFrom := none } }
    else d

/-- The fused speed and the rate at which MD advances in the state reached (Table 4.3, R101). -/
def Dev.fuse (d : Dev) : Dev :=
  let st := d.rd TMB.MD_STATE
  let t := d.tmb
  let f := if st = 0 then (if d.admittedWeighted = [] then t.fused else d.weightedMean d.admittedWeighted)
           else if st = 1 then t.fused
           else if st = 2 then (d.mdSrc t.anchor).v.getD 0
           else 0
  let rate := if st = 3 then 0 else if f.natAbs < d.rd TMB.STILL_MMS * 256 then 0 else f
  { d with tmb := { t with
      fused := f
      rate := rate
      speeds := ((t.mt, f) :: t.speeds).takeWhile (fun p => decide (t.mt ≤ p.1 + 1100000000)) } }

/-- The fresh source of highest PRIORITY becomes the anchor as DEGRADED is entered, and counts as admitted (Table 4.3). -/
def Dev.takeAnchor (d : Dev) (st : Nat) : Dev :=
  if st = 2 ∧ d.rd TMB.MD_STATE ≠ 2 then
    let a := d.bestAnchor.getD 0
    { (d.setMdSrc a { d.mdSrc a with admitted := true }) with tmb := { (d.setMdSrc a { d.mdSrc a with admitted := true }).tmb with anchor := a } }
  else d

/-- A bit per source. -/
def sourceMask (p : Nat → Bool) : Nat := bit (p 0) + 2 * bit (p 1) + 4 * bit (p 2) + 8 * bit (p 3)

/-- Since when MD speed has stayed at or below 0.2 km/h, and above 0.5 km/h; without a valid MD neither holds (R41, R46, R110). -/
def Dev.speedBands (d : Dev) : Dev :=
  let v := d.tmb.fused.natAbs
  let slow := d.flag TMB.MD_VALID && decide (9 * v ≤ 128000)
  let fast := d.flag TMB.MD_VALID && decide (320000 < 9 * v)
  { d with tmb := { d.tmb with
      slowFrom := if slow then some (d.tmb.slowFrom.getD d.mt) else none
      fastFrom := if fast then some (d.tmb.fastFrom.getD d.mt) else none } }

/-- Travel against the confirmed sense is followed: it begins where the speed MD advances at takes the other sign, after forward travel
where a reversal would be confirmed, and any break ends it (R121). -/
def Dev.followTurn (d : Dev) : Dev :=
  let t := d.tmb
  let against := if d.flag TMB.REVERSE then decide (0 < t.rate) else decide (t.rate < 0) && t.sawFwd
  { d with tmb := { t with
      sawFwd := if d.flag TMB.REVERSE then false else t.sawFwd || decide (0 < t.rate)
      turn := if against then some (t.turn.getD t.mdAcc) else none } }

/-- The state moves, the speed is formed, and ADMITTED and FRESH are shown (R107, R108, R121). -/
def Dev.tickTo (d : Dev) (st : Nat) : Dev :=
  let d := ((d.takeAnchor st).mdStateTo st).fuse.followTurn
  (d.speedBands.wr TMB.ADMITTED (sourceMask fun i => (d.mdSrc i).admitted)).wr TMB.FRESH (sourceMask fun i => (d.mdSrc i).fresh)

/-- The next base tick has come: the safe boundary of the block (Table 3.6). -/
def Dev.toTick (d : Dev) : Dev :=
  let d := (d.waitMt d.tmb.nextTick).boundary 3 0
  { d with tmb := { d.tmb with nextTick := (d.tmb.mt / baseTick + 1) * baseTick } }

/-- The instant of the last admitted sample is kept (R108). -/
def Dev.noteAdmitted (d : Dev) : Dev :=
  { d with tmb := { d.tmb with
      lastAdmitted := mdSources.foldl (fun m i => if (d.mdSrc i).admitted then Nat.max m (d.mdSrc i).validAt.toNat else m) d.tmb.lastAdmitted } }

/-- The sources are sampled and gated (R107). -/
def Dev.gateAll (d : Dev) : Dev := (forAll mdSources (fun i d => d.gateOne i) d.wheelSample).noteAdmitted

/-- MD_FUSION_TICK: the next base tick: every source in use is gated, MD_STATE moves and the fused speed is formed
(R107, R108). -/
def mdFusionTick (d : Dev) : Dev :=
  if d.running then d.toTick.gateAll.tickTo d.toTick.gateAll.nextMdState else d

/-- Timebase start: MT, MD and RA at 0, state LOST, STARTS counted (R102). The state set so is not one entered: MD-LOST is not raised and
nothing is flooded (assumption 50). -/
def timebaseStart (d : Dev) : Dev :=
  let d := d.bump TMB.STARTS
  let d := ((d.wr TMB.RUN 1).wr TMB.MD_STATE 3).wr TMB.MD_VALID 0
  { d with tmb := { (default : TmbH) with gens := d.tmb.gens } }

/-! Presets. -/

/-- Table 4.5: WEIGHT, GATE_ABS, GATE_REL, READMIT of a preset for a source. -/
def mdPresetRow (v i : Nat) : Nat × Nat × Nat × Nat :=
  match v with
  | 0 => (if i = 2 then 4 else 8, 150, 26, 50)
  | 1 => (([2, 10, 6, 10] : List Nat).getD i 0, 80, 13, if i = 0 then 100 else 50)
  | _ => (([8, 0, 6, 10] : List Nat).getD i 0, 150, 26, 50)

/-- STALE_MS of R113. -/
def mdStaleMs (i : Nat) : Nat := ([50, 250, 100, 50] : List Nat).getD i 0

/-- MD_PRESET_WRITE (R113): 3 is ignored unless the image defines it (R90). -/
def mdPreset (v : Nat) (d : Dev) : Dev :=
  if v < 3 ∨ d.definesPreset TMB.MD_PRESET 0 v then
    let cell (i x : Nat) : Option Nat := if v < 3 then some x else if i < 4 then none else none
    let d := d.wr TMB.MD_PRESET v
    let d := forAll mdSources (fun i d =>
      let (w, a, r, m) := mdPresetRow v i
      (((((d.expand TMB.MD_PRESET 0 v TMB.SRC_WEIGHT i 0 (cell i w)).expand TMB.MD_PRESET 0 v TMB.SRC_GATE_ABS i 0 (cell i a)).expand
        TMB.MD_PRESET 0 v TMB.SRC_GATE_REL i 0 (cell i r)).expand TMB.MD_PRESET 0 v TMB.SRC_READMIT i 0 (cell i m)).expand
        TMB.MD_PRESET 0 v TMB.SRC_STALE_MS i 0 (cell i (mdStaleMs i)))) d
    d.expand TMB.MD_PRESET 0 v TMB.HOLD_MS 0 0 (cell 0 200)
  else d

/-! Snapshot. -/

/-- MD as two registers: low word, and the high part sign-extended (R126). -/
def Dev.wrMd (d : Dev) (lo hi : Fld) (md : Int) : Dev := (d.wr lo (enc 64 md % 2 ^ 32)).wr hi (enc 64 md / 2 ^ 32)

/-- The fused speed as registers and records show it: signed mm/s, undefined while MD is not valid (R101, R110). -/
def Dev.shownSpeed (d : Dev) : Int := if d.flag TMB.MD_VALID then mmps d.tmb.fused else (d.free : Int)

/-- SNAPSHOT_LATCH: MT, MD, RA and speed from one broadcast word (R126). -/
def snapshotLatch (d : Dev) : Dev :=
  let d := (d.wr TMB.SNAP_MT_LO (d.mt % 2 ^ 32)).wr TMB.SNAP_MT_HI (d.mt / 2 ^ 32)
  let d := d.wrMd TMB.SNAP_MD_LO TMB.SNAP_MD_HI d.md
  let d := (d.wr TMB.SNAP_RA_FRAC d.ra).wr TMB.SNAP_RA_REV (d.ra / 65536)
  ((d.wrS TMB.SNAP_SPEED d.shownSpeed).bump TMB.SEQ).freeTaken

/-! Position history. -/

/-- Cycles until the next history entry is due: MD has moved HIST_STEP_MM from the last entry, at the rate it moves at, or HIST_MAXT_MS
has passed since; before the first entry both count from the start (R124). -/
def Dev.historyDue (d : Dev) : Nat :=
  let t := d.tmb
  let mt0 := (t.hist.head?.map fun e => e.mt).getD 0
  let md0 := (t.hist.head?.map fun e => e.md).getD 0
  let step : Int := (10 * clampN 50 1000 (d.rd TMB.HIST_STEP_MM) : Nat)
  let due (x : Dev) : Bool := decide (step ≤ (x.md - md0).natAbs ∨ mt0 + Nat.max 1 (d.rd TMB.HIST_MAXT_MS) * ms ≤ x.mt)
  if due d then 0 else firstFrom (fun n => decide (2 ^ 35 ≤ n) || due (d.clock n)) 35 0

/-- HISTORY_ENTRY: MD has moved HIST_STEP_MM, or HIST_MAXT_MS has passed, since the last entry (R124). The pose is the
look-ahead unit's latest. -/
def historyEntry (d : Dev) : Dev :=
  if !d.running then d
  else
    let d := d.cycles d.historyDue
    let e : HistEntry := ⟨d.mt, d.md, d.rd TMB.MD_STATE, d.rdS LAH.POSE_E, d.rdS LAH.POSE_N, d.rd LAH.POSE_HDG, d.shownSpeed⟩
    ({ d with tmb := { d.tmb with hist := (e :: d.tmb.hist).take 16384 } }).freeTaken

/-- The pairs of neighbouring entries, newest first, that bracket a key, older entry first: the older entry's own key counts to its pair,
the newer one's to the next, and the newest entry stands for itself (R125). -/
def brackets (key : HistEntry → Int) (k : Int) : List HistEntry → List (HistEntry × HistEntry)
  | n :: o :: t =>
    let rest := brackets key k (o :: t)
    if (key o ≤ k ∧ k < key n) ∨ (key n < k ∧ k ≤ key o) then (o, n) :: rest else rest
  | _ => []

/-- Every bracket of a key, newest first. -/
def allBrackets (key : HistEntry → Int) (k : Int) (h : List HistEntry) : List (HistEntry × HistEntry) :=
  match h with
  | n :: _ => if key n = k then (n, n) :: brackets key k h else brackets key k h
  | [] => []

/-- Linear interpolation between two values at `num / den`, rounded to nearest (R125). -/
def lerp (a b num : Int) (den : Nat) : Int := if den = 0 then a else a + divAway ((b - a) * num) den

/-- Writes the result registers of a query (R125). -/
def Dev.queryAnswer (d : Dev) (o n : HistEntry) (num : Int) (den : Nat) : Dev :=
  let mt := lerp o.mt n.mt num den
  let d := (d.wr TMB.R_MT_LO (enc 64 mt % 2 ^ 32)).wr TMB.R_MT_HI (enc 64 mt / 2 ^ 32)
  let d := d.wrMd TMB.R_MD_LO TMB.R_MD_HI (lerp o.md n.md num den)
  let d := (d.wrS TMB.R_EAST (lerp o.east n.east num den)).wrS TMB.R_NORTH (lerp o.north n.north num den)
  let hd := (o.heading : Int) + lerp 0 (sgn 16 (n.heading + 65536 - o.heading)) num den
  (d.wrS TMB.R_HEADING hd).wrS TMB.R_SPEED (lerp o.speed n.speed num den)

/-- A key no entry brackets lies beyond the newest entry: above it, or below it where the history as a whole runs down (R125,
assumption 50). -/
def beyondNewest (key : HistEntry → Int) (k : Int) (h : List HistEntry) : Bool :=
  match h, h.getLast? with
  | n :: _, some o => if key n < key o then decide (k < key n) else decide (key n < k)
  | _, _ => false

/-- HISTORY_QUERY: interpolation between the entries that bracket an MT or an MD; the most recent bracket answers, and AMBIGUOUS says that
an MD has more than one (R125). An empty history holds no key: NOT-HELD (assumption 50). -/
def historyQuery (byMd : Bool) (key : Int) (d : Dev) : Dev :=
  let d := (d.wr TMB.Q_AMBIGUOUS 0).wr TMB.Q_BUSY 0
  let of (e : HistEntry) : Int := if byMd then e.md else e.mt
  match allBrackets of key d.tmb.hist with
  | (o, n) :: more =>
    let num := if of n < of o then of o - key else key - of o
    ((d.queryAnswer o n num (of n - of o).natAbs).wr TMB.Q_RESULT 1).wr TMB.Q_AMBIGUOUS (bit (byMd ∧ more ≠ []))
  | [] => d.wr TMB.Q_RESULT (if beyondNewest of key d.tmb.hist then 3 else 2)

/-! Reversal. -/

/-- Cycles until the travel against the confirmed sense reaches REV_CONFIRM_MM at the speed MD advances at; none while there is no such
travel (R121). -/
def Dev.turnDue (d : Dev) : Option Nat :=
  d.tmb.turn.bind fun m =>
    let need := 10 * Nat.max 1 (d.rd TMB.REV_CONFIRM_MM) * 2 ^ 24
    let due (x : Dev) : Bool := decide (need ≤ (x.tmb.mdAcc - m).natAbs)
    let n := if due d then 0 else firstFrom (fun n => decide (2 ^ 45 ≤ n) || due (d.clock n)) 45 0
    if due (d.clock n) then some n else none

/-- REVERSAL_CONFIRM and FORWARD_CONFIRM share this: REVERSE set or cleared, the event, and the flood of R147 at reversal
(R121). Removal of events is the scheduler's; the look-ahead unit files again once it finds REVERSE 0. -/
def Dev.reverseTo (d : Dev) (rev : Bool) : Dev :=
  let d := ((d.wr TMB.REVERSE (bit rev)).cause TMB.EVT_REVERSAL)
  let d := { d with tmb := { d.tmb with turn := none, sawFwd := !rev } }
  if rev then d.floodTrigger 3 allImpls [] else d

end Sys2Proof.Machine
end

