-- ==== Sys2Proof/Machine/Scheduler.lean ====
section
/-! DEFINITION. Machine/Scheduler.lean: the Distance Scheduler's slots, crossings, holds, cancels and issue records
(R114 to R123). Delivery to destinations stands in Machine/Issue.lean. -/

namespace Sys2Proof.Machine

/-- What CR6 builds for class `c` beside its registers: destination, admitted filers, report queue, reservation (R114). -/
def Dev.classRow (d : Dev) (c : Nat) : Option (Dest × Nat × Option Nat × Nat) :=
  if d.flag TMB.CLASS_BUILT c then
    (d.itemsOf 6).findSome? fun it => match it with
      | .tmbClass k dest f r n => if k = c then some (dest, f, r, n) else none
      | _ => none
  else none

/-- A target whose condition already holds at filing is late; equality counts as passed (R117). -/
def Dev.lateAt (d : Dev) (c : Nat) (target : Int) : Bool :=
  let x := d.beyond c target
  match d.dirOf c with
  | 1 => decide (x ≤ 0)
  | 2 => decide (x = 0)
  | _ => decide (0 ≤ x)

/-- MD events are held (R120). -/
def Dev.holding (d : Dev) : Bool := d.flag TMB.HOLD_MD || d.flag TMB.HOLD_NET

/-- An event that has crossed may issue: an MD event waits while a hold holds that had begun by its crossing (R120), and while MD_STATE
is LOST (Table 4.4). -/
def Dev.mayIssue (d : Dev) (e : Event) : Bool :=
  match e.crossed with
  | none => false
  | some c => !(d.isMd e.cls && ((d.holding && decide (d.tmb.holdFrom ≤ c)) || decide (d.rd TMB.MD_STATE = 3)))

/-- Pending events of class `c`. -/
def Dev.pendingOf (d : Dev) (c : Nat) : Nat := (d.tmb.slots.filter fun p => decide (p.2.cls = c)).length

/-- Slots reserved by every class (R114). -/
def Dev.reservations (d : Dev) : List (Nat × Nat) :=
  (d.itemsOf 6).filterMap fun it => match it with | .tmbClass c _ _ _ n => some (c, n) | _ => none

/-- A slot is free for class `c`: in its reservation, or in the shared remainder (R114, R115). -/
def Dev.slotFree (d : Dev) (c : Nat) : Bool :=
  let res := d.reservations
  let mine := (tget? c res).getD 0
  let shared : Nat := 4096 - (res.map (fun p => p.2)).foldl (· + ·) 0
  let past : Nat := (res.map fun p => d.pendingOf p.1 - p.2).foldl (· + ·) 0
  decide (d.pendingOf c < mine) || decide (past < shared)

/-- The lowest slot no event occupies (assumption 10). -/
def freeSlot : Nat → Nat → List (Nat × Event) → Nat
  | 0, k, _ => k
  | n + 1, k, l => if (tget? k l).isSome then freeSlot n (k + 1) l else k

/-- PENDING and PEAK (R115). -/
def Dev.pendingCount (d : Dev) : Dev :=
  let n := d.tmb.slots.length
  let d := d.wr TMB.PENDING n
  if d.rd TMB.PEAK < n then d.wr TMB.PEAK n else d

/-- Places an event in a slot and gives its handle (R115); none when no slot is free. -/
def Dev.placeEvent (d : Dev) (c : Nat) (target : Int) (arg filer : Nat) : Option (Dev × Nat) :=
  if !d.slotFree c then none
  else
    let t := d.tmb
    let k := freeSlot 4096 0 t.slots
    let g := match tget? k t.gens with | some g => (g + 1) % 16 | none => 0
    let e : Event := ⟨c, target, arg, filer, t.fileOrder, decide (0 ≤ d.beyond c target), none, false, false, false⟩
    some (({ d with tmb := { t with
              slots := tset k e t.slots
              gens := tset k g t.gens
              issued := tdel k t.issued
              fileOrder := t.fileOrder + 1 } }).pendingCount, k + 4096 * g)

/-- A filing has met FULL (R115). -/
def Dev.fullSeen (d : Dev) : Dev := (d.wr TMB.FULL_SEEN 1).cause TMB.EVT_FULL

/-- Removes the event of a slot. -/
def Dev.freeEvent (d : Dev) (k : Nat) : Dev := { d with tmb := { d.tmb with slots := tdel k d.tmb.slots } }.pendingCount

/-- The handle of the event in a slot (R115). -/
def Dev.handleOf (d : Dev) (k : Nat) : Nat := k + 4096 * ((tget? k d.tmb.gens).getD 0)

/-- The MD-state flags of an issue record (Table 4.7). -/
def Dev.mdFlags (d : Dev) : Nat := if d.rd TMB.MD_STATE = 1 then 2 else if d.rd TMB.MD_STATE = 2 then 4 else 0

/-- The issue record of Table 4.6, into the class's report queue if it names one (R123). -/
def Dev.issueRecord (d : Dev) (handle : Nat) (e : Event) (flags : Nat) : Dev :=
  match d.classRow e.cls with
  | some (_, _, some q, _) =>
    d.queueItem 3 q (leBytes 2 handle ++ [e.cls, flags] ++ leBytes 4 e.arg ++ leBytes 8 (enc 64 e.target) ++ leBytes 8 d.mt
      ++ leBytes 6 (enc 48 d.md) ++ leBytes 2 d.ra)
  | _ => d

/-- Removes an event with a record: cancelled, discarded (R119, R121, R123). -/
def Dev.dropEvent (d : Dev) (k : Nat) (e : Event) (flags : Nat) : Dev := (d.freeEvent k).issueRecord (d.handleOf k) e flags

/-- The event a handle names is pending (R115). -/
def Dev.pendingEvent (d : Dev) (handle : Nat) : Option Event :=
  if d.handleOf (handle % 4096) = handle then tget? (handle % 4096) d.tmb.slots else none

/-- The outcome of a cancel: 0 CANCELLED, 1 ALREADY-ISSUED, 2 STALE-HANDLE (R119). An event that has crossed and may issue is issuing, so
the cancel loses. A handle whose event was cancelled or discarded names nothing any more, though its slot still bears its generation:
STALE-HANDLE (assumption 50). -/
def Dev.cancelCode (d : Dev) (handle : Nat) : Nat :=
  match d.pendingEvent handle with
  | some e => if d.mayIssue e then 1 else 0
  | none => if d.handleOf (handle % 4096) = handle ∧ (tget? (handle % 4096) d.tmb.issued).isSome then 1 else 2

/-- Cancels the event a handle names, with its record (R119, R123). -/
def Dev.cancel (d : Dev) (handle : Nat) : Dev :=
  match tget? (handle % 4096) d.tmb.slots with
  | some e => if d.cancelCode handle = 0 then d.dropEvent (handle % 4096) e 16 else d
  | none => d

/-- CANCEL_EVENT: the field cores write a handle (R119). -/
def cancelEvent (handle : Nat) (d : Dev) : Dev :=
  (d.cancel handle).wr TMB.CANCEL_RESULT (d.cancelCode handle)

/-- The crossed events are looked through for those a condition picks, and treated each. -/
def Dev.eachEvent (d : Dev) (p : Event → Bool) (f : Nat → Event → Dev → Dev) : Dev :=
  forAll (d.tmb.slots.filter fun s => p s.2) (fun s d => f s.1 s.2 d) d

/-- HOLD_RELEASE: the last hold ends: events noted during the hold are issued late or discarded as their class's HOLD_POLICY states
(R120); while MD_STATE is LOST none is discarded, and those due for it wait (Table 4.4). -/
def Dev.holdRelease (d : Dev) : Dev :=
  (d.eachEvent (fun e => (e.crossed.map fun c => decide (d.tmb.holdFrom ≤ c)).getD false && d.isMd e.cls) fun k e d =>
    if d.flag TMB.CLASS_HOLD_POLICY e.cls ∧ d.rd TMB.MD_STATE ≠ 3 then d.dropEvent k e 32
    else { d with tmb := { d.tmb with slots := tset k { e with crossed := some d.now, held := true,
                                                               drop := d.flag TMB.CLASS_HOLD_POLICY e.cls } d.tmb.slots } }).cause TMB.EVT_HOLD_RELEASE

/-- Sets a hold bit; the first hold begins the hold, and the one that releases last ends it (R120). -/
def Dev.setHold (d : Dev) (f : Fld) (on : Bool) : Dev :=
  let was := d.holding
  let d := d.wr f (bit on)
  if was ∧ !d.holding then d.holdRelease
  else if !was ∧ d.holding then { d with tmb := { d.tmb with holdFrom := d.now } } else d

/-- REVERSAL_CONFIRM: once the travel is made, reversal is confirmed, and the pending events of classes whose REV_POLICY is CANCEL are
removed (R121); one that is issuing issues (R119). -/
def reversalConfirm (d : Dev) : Dev :=
  match d.flag TMB.REVERSE, d.turnDue with
  | false, some n => ((d.cycles n).reverseTo true).eachEvent (fun e => d.flag TMB.CLASS_REV_POLICY e.cls) fun k e d =>
      if d.mayIssue e then d else d.dropEvent k e 16
  | _, _ => d

/-- FORWARD_CONFIRM: once the travel is made, forward travel is confirmed after a reversal (R121, assumption 50). -/
def forwardConfirm (d : Dev) : Dev :=
  match d.flag TMB.REVERSE, d.turnDue with
  | true, some n => (d.cycles n).reverseTo false
  | _, _ => d

/-- Event `a` ranks ahead of event `b`: earlier crossing cycle, class PRIORITY, class number, target in the sense of travel,
filing order (R118). -/
def Dev.ahead (d : Dev) (a b : Event) : Bool :=
  let ca := a.crossed.getD 0
  let cb := b.crossed.getD 0
  let pa := d.rd TMB.CLASS_PRIORITY a.cls
  let pb := d.rd TMB.CLASS_PRIORITY b.cls
  let back := decide (d.rd TMB.CLASS_COORD a.cls = 0 ∧ d.tmb.rate < 0)
  if ca ≠ cb then decide (ca < cb)
  else if pa ≠ pb then decide (pa < pb)
  else if a.cls ≠ b.cls then decide (a.cls < b.cls)
  else if a.target ≠ b.target then
    (if back then decide (d.beyond a.cls a.target < d.beyond b.cls b.target) else decide (d.beyond b.cls b.target < d.beyond a.cls a.target))
  else decide (a.order < b.order)

/-- After an issue a REPEAT event is filed again in the same slot, one revolution on, with the same handle and its place in the
filing order (assumption 50); any other frees its slot (R116, R119). -/
def Dev.afterIssue (d : Dev) (k : Nat) (e : Event) (rep : Bool) : Dev :=
  if rep then
    { d with tmb := { d.tmb with slots := tset k { e with target := (e.target + 65536) % 2 ^ 40, crossed := none, held := false, late := false } d.tmb.slots } }
  else
    let d := d.freeEvent k
    { d with tmb := { d.tmb with issued := tset k d.mt d.tmb.issued } }

/-- The event placed in slot `s` is late under ISSUE-NOW: free to issue it leaves its slot with its record, and the answer is true; while MD
events are held, or MD_STATE is LOST, it waits as a noted crossing (R117, R120, Table 4.4). -/
def Dev.issueLate (d : Dev) (s : Nat) : Dev × Bool :=
  let d := d.cause TMB.EVT_LATE
  match tget? s d.tmb.slots with
  | none => (d, false)
  | some ev =>
    let ev := { ev with crossed := some d.now, late := true }
    if d.mayIssue ev then ((d.issueRecord (d.handleOf s) ev (1 + d.mdFlags)).afterIssue s ev false, true)
    else ({ d with tmb := { d.tmb with slots := tset s ev d.tmb.slots } }, false)

/-- The event to be delivered next (R118). -/
def Dev.nextIssue (d : Dev) : Option (Nat × Event) :=
  (d.tmb.slots.filter fun s => d.mayIssue s.2).foldl (fun best s => match best with
    | none => some s
    | some b => if d.ahead s.2 b.2 then some s else some b) none

end Sys2Proof.Machine
end

