-- ==== Sys2Proof/Machine/Lsw.lean ====
section
/-! DEFINITION. Machine/Lsw.lean: protected load switches (chapter 11, R279 to R302). -/

namespace Sys2Proof.Machine

/-- Hidden state of channel `n`. -/
def Dev.ls (d : Dev) (n : Nat) : LsCh := tget n d.lsw.chs

/-- Replaces the hidden state of channel `n`. -/
def Dev.setLs (d : Dev) (n : Nat) (c : LsCh) : Dev := { d with lsw := { d.lsw with chs := tset n c d.lsw.chs } }

/-- Channel states of Table 11.2. -/
def lsOff : Nat := 0
def lsSlew : Nat := 1
def lsOn : Nat := 2
def lsRetry : Nat := 3
def lsThermal : Nat := 4
def lsLatched : Nat := 5
def lsShed : Nat := 6
def lsCool : Nat := 7
def lsUnder : Nat := 8
def lsGated : Nat := 9

/-- CAUSE bits (R302). -/
def csShort : Nat := 0
def csInrush : Nat := 1
def csFuse : Nat := 2
def csThermal : Nat := 3
def csClamp : Nat := 4
def csUnder : Nat := 5
def csShed : Nat := 6

/-- A cause stands against channel `n`. -/
def Dev.lsHas (d : Dev) (n k : Nat) : Bool := (d.rd LSW.CH_CAUSE n).testBit k

/-- Sets or clears a cause. -/
def Dev.lsCause (d : Dev) (n k : Nat) (b : Bool) : Dev := d.wrBit LSW.CH_CAUSE k b n

/-- The channel's power input stands above 40.0 V, so that switch-offs are deferred (R298). -/
def Dev.lsOver40 (d : Dev) (n : Nat) : Bool :=
  decide (4000 < (if d.flag LSW.CH_INPUT n then d.rd SYS.VPWRB else d.rd SYS.VPWRA))

/-- A cause holds the output off now: CLAMP-HIGH only once CLAMP-COOL is entered (R282, R288). -/
def Dev.lsBlocked (d : Dev) (n : Nat) : Bool :=
  d.lsHas n csThermal || d.lsHas n csFuse || d.lsHas n csShort || d.lsHas n csInrush || d.lsHas n csUnder || (d.ls n).cooling
    || d.lsHas n csShed

/-- The state the causes, the gate and the command give; `run` is the state of an output that may follow its command
(R281, R282). -/
def Dev.lsStateOf (d : Dev) (n run : Nat) : Nat :=
  if d.lsHas n csThermal then (if (d.ls n).thermLatched then lsLatched else lsThermal)
  else if d.lsHas n csFuse ∨ d.lsHas n csShort ∨ d.lsHas n csInrush then lsLatched
  else if d.lsHas n csUnder then lsUnder
  else if (d.ls n).cooling then lsCool
  else if d.lsHas n csShed then lsShed
  else if d.flag LSW.CH_GATED n then lsGated
  else if d.flag LSW.CH_CMD n ∨ (d.ls n).deferred ≠ 0 then run
  else lsOff

/-- The output conducts (R281, R444). -/
def Dev.lsConducts (d : Dev) (n : Nat) : Bool :=
  let st := d.rd LSW.CH_STATE n
  decide (st = lsSlew ∨ st = lsOn) || (decide (st = lsGated) && d.flag LSW.CH_SAFE_STATE n && !(d.ls n).safeOff)

/-- Any channel in states 4 to 8. -/
def Dev.lsAnyHeld (d : Dev) : Bool := decide (d.rd LSW.HELD_LO ≠ 0 ∨ d.rd LSW.HELD_HI ≠ 0)

/-- Puts channel `n` in a state and shows it in the summaries (R302). -/
def Dev.lsPut (d : Dev) (n st : Nat) : Dev :=
  let d := d.wr LSW.CH_STATE st n
  let d := d.wrPair LSW.ON_LO LSW.ON_HI n (d.lsConducts n)
  let d := d.wrPair LSW.HELD_LO LSW.HELD_HI n (decide (4 ≤ st ∧ st ≤ 8))
  d.wr LSW.ANY_HELD (bit d.lsAnyHeld)

/-- The state follows from causes, gate and command; an output that may conduct keeps `run`. -/
def Dev.lsForm (d : Dev) (n run : Nat) : Dev := d.lsPut n (d.lsStateOf n run)

/-- The run state a channel stands in, SLEW when it stands in none. -/
def Dev.lsRun (d : Dev) (n : Nat) : Nat :=
  let st := d.rd LSW.CH_STATE n
  if st = lsOn ∨ st = lsSlew ∨ st = lsRetry then st else lsSlew

/-- INRUSH_MODE as it acts: 3 acts as 0 (R302). -/
def Dev.lsInrush (d : Dev) (n : Nat) : Nat := let m := d.rd LSW.CH_INRUSH_MODE n; if m = 3 then 0 else m

/-- Removes a channel from the shed list (R295, R296). -/
def Dev.lsUnshed (d : Dev) (n : Nat) : Dev :=
  if d.lsHas n csShed then
    let l := d.lsw.shed.filter (fun k => decide (k ≠ n))
    (({ d with lsw := { d.lsw with shed := l } }.lsCause n csShed false).wr LSW.SHED_N l.length).recover Flt.LSW_SHED n
  else d

/-- Clears a latched cause at a switch-on, with its recovery (Table 11.6). -/
def Dev.lsClearCause (d : Dev) (n k code : Nat) : Dev :=
  if d.lsHas n k then (d.lsCause n k false).recover code n else d

/-- H of the wire model, 2^24 being 1.0 (R283). -/
def LsCh.h (c : LsCh) : Nat := (3 * c.t1 + 5 * c.t2 + 4) / 8

/-- A channel that nothing blocks turns on as a new switch-on: the sequence's counters are cleared and the inrush window opens
(R290). A gate closure that is deferred stays so (R298). -/
def Dev.lsTurnOn (d : Dev) (n : Nat) : Dev :=
  let d := ((d.wr LSW.CH_RETRIES_USED 0 n).wr LSW.CH_SYMP_USED 0 n).wr LSW.CH_THERM_USED 0 n
  let win := Nat.max 1 (d.rd LSW.CH_LAMP_WIN_MS n) * ms
  let late := if (d.ls n).deferred = 3 then 3 else 0
  let d := d.setLs n { d.ls n with winEnd := if d.lsInrush n = 0 then none else some (d.now + win), winLeft := win,
                                   retryAt := none, deferred := late }
  (d.wr LSW.CH_DEFERRED (bit (decide (late = 3))) n).lsForm n (if d.rd LSW.CH_STATE n = lsOn then lsOn else lsSlew)

/-- A channel commanded ON turns on as a new switch-on where no cause is left; the latched causes are not cleared by it (R282, R288,
R297). -/
def Dev.lsResume (d : Dev) (n : Nat) : Dev :=
  if d.flag LSW.CH_CMD n ∧ !d.lsBlocked n then d.lsTurnOn n else d.lsForm n lsSlew

/-- A switch-on (R280): refused while FUSE stands and H is 0.5 or above; else it clears the latched causes and turns the channel on
(R284, R286, R292). -/
def Dev.lsSwitchOn (d : Dev) (n : Nat) : Dev :=
  let c := d.ls n
  if d.lsHas n csFuse ∧ 2 ^ 23 ≤ c.h then
    (d.wr LSW.CH_ON_REFUSED 1 n).cause LSW.EVT_ON_REFUSED
  else
    let d := ((d.lsClearCause n csFuse Flt.LSW_FUSE).lsClearCause n csShort Flt.LSW_SHORT).lsClearCause n csInrush Flt.LSW_INRUSH_FAIL
    let d := if c.thermLatched ∧ d.rdS LSW.CH_TJ n < 1500 then
        (d.setLs n { d.ls n with thermLatched := false }).lsClearCause n csThermal Flt.LSW_THERMAL else d
    d.lsTurnOn n

/-- CLAMP-HIGH pending is entered at a switch-off (R288). -/
def Dev.lsCoolAtOff (d : Dev) (n : Nat) : Dev :=
  if d.lsHas n csClamp then d.setLs n { d.ls n with cooling := true } else d

/-- A switch-off that is not protective: carried out, or deferred while the input is above 40.0 V (R298). `why` is the code of
`LsCh.deferred`. -/
def Dev.lsSwitchOff (d : Dev) (n why : Nat) (done : Dev → Dev) : Dev :=
  if d.lsConducts n ∧ d.lsOver40 n then
    ((d.setLs n { d.ls n with deferred := if (d.ls n).deferred = 3 then 3 else why }).wr LSW.CH_DEFERRED 1 n).cause LSW.EVT_DEFERRED
  else done d

/-- SWITCH_COMMAND: a command delivered to the channel from any source (R280). -/
def lsCommand (n : Nat) (on : Bool) (d : Dev) : Dev :=
  if !d.flag LSW.CH_BUILT n ∨ !d.powered 10 then d
  else
    let was := d.flag LSW.CH_CMD n
    let d := d.wr LSW.CH_CMD (bit on) n
    if on ∧ !was then d.lsSwitchOn n
    else if !on ∧ was then
      let d := d.lsUnshed n
      if d.flag LSW.CH_GATED n then (d.setLs n { d.ls n with retryAt := none, winEnd := none }).lsForm n lsOff
      else d.lsSwitchOff n 1 fun d =>
        let d := (d.setLs n { d.ls n with retryAt := none, winEnd := none }).lsCoolAtOff n
        d.lsForm n lsOff
    else d

/-- LSW_REARM: a write of REARM is a switch-on while the command is ON (R280). -/
def lsRearm (n : Nat) (d : Dev) : Dev :=
  if d.flag LSW.CH_BUILT n ∧ d.flag LSW.CH_CMD n ∧ d.powered 10 then d.lsSwitchOn n else d

/-- SLEW_DONE: the output is within 1 V of the supply (Table 11.2). -/
def slewDone (n : Nat) (d : Dev) : Dev := if d.rd LSW.CH_STATE n = lsSlew then d.lsPut n lsOn else d

/-- A protective switch-off with a cause (R282): never deferred; behind a closed gate the output stays off, and a deferred gate
closure has its effect with it (R298). -/
def Dev.lsTrip (d : Dev) (n k : Nat) : Dev :=
  let d := if (d.ls n).deferred = 3 then d.wr LSW.CH_GATED 1 n else d
  let d := (d.lsCause n k true).setLs n { d.ls n with safeOff := d.flag LSW.CH_GATED n, retryAt := none, deferred := 0 }
  let d := if k = csClamp then d else d.lsCoolAtOff n
  (d.wr LSW.CH_DEFERRED 0 n).lsForm n lsOff

/-- Table 11.3 in mA: rows by cross-section code, columns by insulation class. -/
def wireRating (xsec insul : Nat) : Nat :=
  (([[6000, 7500, 9000, 10500], [7500, 9500, 11500, 13000], [9000, 11000, 13500, 15500], [11500, 14500, 17500, 20000],
     [16000, 20000, 24500, 28000], [21000, 26500, 32500, 37000], [27000, 34000, 41500, 48000]] : List (List Nat)).getD xsec []).getD insul 0

/-- Table 11.4: K1 and K2 by cross-section code. -/
def wireK (xsec : Nat) : Nat × Nat :=
  ([(53687, 3579), (39045, 2684), (30678, 2147), (21475, 1591), (13422, 1074), (8948, 741), (6316, 537)] : List (Nat × Nat)).getD xsec (0, 0)

/-- IREF in mA: the wire's rating, or the channel's where that is smaller (R283). -/
def Dev.iref (d : Dev) (n : Nat) : Nat :=
  Nat.min (wireRating (d.rd LSW.CH_XSEC n) (d.rd LSW.CH_INSUL n)) (if d.flag LSW.CH_HEAVY n then 20000 else 6000)

/-- One store of the wire model: t + rnd((x − t) × K ÷ 2^32) (R283). -/
def wireStore (t x k : Nat) : Nat := ((t : Int) + divAway (((x : Int) - t) * k) (2 ^ 32)).toNat

/-- x of R283 from the mean square of the current in mA²: units of 2^-24, 40 bits, saturating. -/
def wireX (meanSq iref : Nat) : Nat := if iref = 0 then 2 ^ 40 - 1 else satN 40 ((meanSq * 2 ^ 24 + iref * iref / 2) / (iref * iref))

/-- WIRE_MODEL_UPDATE: 10 µs of the wire model; FUSE when H reaches 1.0 (R283, R284). `meanSq` is the mean of I² in mA². -/
def wireModelUpdate (n meanSq : Nat) (d : Dev) : Dev :=
  if !d.flag LSW.CH_BUILT n ∨ !d.powered 10 then d
  else
    let c := d.ls n
    let x := wireX meanSq (d.iref n)
    let (k1, k2) := wireK (d.rd LSW.CH_XSEC n)
    let c := { c with t1 := wireStore c.t1 x k1, t2 := wireStore c.t2 x k2 }
    let d := (d.setLs n c).wr LSW.CH_H (satN 16 (c.h / 4096)) n
    if 2 ^ 24 ≤ c.h ∧ !d.lsHas n csFuse then
      (((d.lsTrip n csFuse).count LSW.CH_TRIPS n).cause LSW.EVT_FUSE).raise Flt.LSW_FUSE n
    else d

/-- The inrush window of channel `n` is open (R290). -/
def Dev.lsInWindow (d : Dev) (n : Nat) : Bool :=
  match (d.ls n).winEnd with | some t => decide (d.now ≤ t) | none => false

/-- Another channel on the same input tripped in the 200 µs before, not in this cycle (R291). -/
def Dev.lsSympathetic (d : Dev) (n : Nat) : Bool :=
  decide (d.rd LSW.CH_SYMP_USED n < 2) && d.lsw.chs.any fun p =>
    decide (p.1 ≠ n ∧ d.rd LSW.CH_INPUT p.1 = d.rd LSW.CH_INPUT n) &&
      (match p.2.tripAt with | some t => decide (t < d.now ∧ d.now ≤ t + 200000) | none => false)

/-- LAMP_SPACE in ns (R302). -/
def Dev.lsSpace (d : Dev) (n : Nat) : Nat := (d.rd LSW.CH_LAMP_SPACE n + 1) * ms

/-- INRUSH_FAIL: the sequence is spent (R290). -/
def Dev.lsInrushFail (d : Dev) (n : Nat) : Dev :=
  ((d.lsTrip n csInrush).cause LSW.EVT_INRUSH_FAIL).raise Flt.LSW_INRUSH_FAIL n

/-- The channel waits for its next attempt (R290). -/
def Dev.lsToRetry (d : Dev) (n : Nat) : Dev :=
  (d.setLs n { d.ls n with retryAt := some (d.now + d.lsSpace n) }).lsForm n lsRetry

/-- The next attempt would start after the window ends (R290). -/
def Dev.lsTooLate (d : Dev) (n : Nat) : Bool :=
  match (d.ls n).winEnd with | some t => decide (t < d.now + d.lsSpace n) | none => true

/-- INSTANTANEOUS_TRIP of a channel that conducts: SHORT outside an inrush window, a retry inside one (R286, R290, R291). -/
def instantaneousTrip (n : Nat) (d : Dev) : Dev :=
  if !d.flag LSW.CH_BUILT n ∨ !d.powered 10 ∨ !d.lsConducts n then d
  else
    let symp := d.lsSympathetic n
    let d := d.count LSW.CH_TRIPS n
    let d := d.setLs n { d.ls n with tripAt := some d.now }
    if d.lsInWindow n ∧ !d.flag LSW.CH_GATED n then
      if symp then
        let d := (d.wr LSW.CH_SYMP_USED (d.rd LSW.CH_SYMP_USED n + 1) n).cause LSW.EVT_SYMPATHETIC
        if d.lsTooLate n then d.lsInrushFail n else d.lsToRetry n
      else if Nat.min 24 (d.rd LSW.CH_LAMP_RETRIES n) ≤ d.rd LSW.CH_RETRIES_USED n ∨ d.lsTooLate n then d.lsInrushFail n
      else (d.wr LSW.CH_RETRIES_USED (d.rd LSW.CH_RETRIES_USED n + 1) n).lsToRetry n
    else ((d.lsTrip n csShort).cause LSW.EVT_SHORT).raise Flt.LSW_SHORT n

/-- RETRY_WAIT_END: LAMP_SPACE_MS has elapsed: a new attempt, or INRUSH-FAIL when the window has ended (R290). -/
def retryWaitEnd (n : Nat) (d : Dev) : Dev :=
  if d.rd LSW.CH_STATE n = lsRetry then
    let d := d.waitUntil ((d.ls n).retryAt.getD 0)
    if d.lsInWindow n then (d.setLs n { d.ls n with retryAt := none }).lsForm n lsSlew else d.lsInrushFail n
  else d

/-- JUNCTION_OVERTEMP: the sensor reads above 175 °C: THERMAL, latched after THERM_RESTARTS resumes; the inrush sequence is
frozen (R292). -/
def junctionOvertemp (n : Nat) (tj : Int) (d : Dev) : Dev :=
  let d := d.wrS LSW.CH_TJ tj n
  if tj ≤ 1750 ∨ d.lsHas n csThermal ∨ !d.flag LSW.CH_BUILT n then d
  else
    let c := d.ls n
    let latch := decide (d.rd LSW.CH_THERM_RESTARTS n ≤ d.rd LSW.CH_THERM_USED n)
    let d := d.setLs n { c with
      thermAt := d.now, thermLatched := latch,
      winLeft := (match c.winEnd with | some t => t - d.now | none => 0),
      winEnd := c.winEnd.bind fun t => if t < d.now then none else some t }
    ((d.lsTrip n csThermal).cause LSW.EVT_THERMAL).raise Flt.LSW_THERMAL n

/-- THERMAL_RESUME: below 150 °C and 10 ms after entry the THERMAL cause ends; a channel commanded ON with no other cause resumes
its sequence where it was frozen (R292). -/
def thermalResume (n : Nat) (tj : Int) (d : Dev) : Dev :=
  let d := d.wrS LSW.CH_TJ tj n
  if !d.lsHas n csThermal ∨ (d.ls n).thermLatched ∨ 1500 ≤ tj then d
  else
    let d := d.waitUntil ((d.ls n).thermAt + 10 * ms)
    let c := d.ls n
    let d := (d.lsCause n csThermal false).recover Flt.LSW_THERMAL n
    let d := d.setLs n { c with winEnd := c.winEnd.map (fun _ => d.now + c.winLeft) }
    let d := if d.flag LSW.CH_CMD n ∧ !d.lsBlocked n then d.wr LSW.CH_THERM_USED (d.rd LSW.CH_THERM_USED n + 1) n else d
    d.lsForm n lsSlew

/-- Repetitive energy limit, 0.1 mJ, and mean power limit, mW (Table 11.1). -/
def Dev.clampLimits (d : Dev) (n : Nat) : Nat × Nat := if d.flag LSW.CH_HEAVY n then (600, 1000) else (200, 300)

/-- CLAMP_PULSE: the energy and mean power measured; a limit passed sets CLAMP-HIGH, and CLAMP-COOL at once on a channel that is
off (R287, R288). -/
def clampPulse (n energy power : Nat) (d : Dev) : Dev :=
  if !d.flag LSW.CH_BUILT n then d
  else
    let d := (d.wr LSW.CH_E_LAST (satN 16 energy) n).wr LSW.CH_P_CLAMP (satN 16 power) n
    let (e, p) := d.clampLimits n
    if (e < energy ∨ p < power) ∧ !d.lsHas n csClamp then
      let d := ((d.lsCause n csClamp true).cause LSW.EVT_CLAMP_HIGH).raise Flt.LSW_CLAMP_HIGH n
      if d.lsConducts n then d else (d.lsCoolAtOff n).lsForm n lsOff
    else d

/-- CLAMP_COOL_END: P_CLAMP has fallen below half the mean limit; the channel follows its command as a new switch-on (R288). -/
def clampCoolEnd (n power : Nat) (d : Dev) : Dev :=
  let d := d.wr LSW.CH_P_CLAMP (satN 16 power) n
  if d.lsHas n csClamp ∧ 2 * power < (d.clampLimits n).2 then
    let was := (d.ls n).cooling
    let d := (((d.lsCause n csClamp false).setLs n { d.ls n with cooling := false }).recover Flt.LSW_CLAMP_HIGH n)
    if was then d.lsResume n else d.lsForm n (d.lsRun n)
  else d

/-- GOV_TIME_MS and GOV_RESTORE_MS as they act, in ns (R302). -/
def Dev.govTime (d : Dev) : Nat := clampN 1 100 (d.rd LSW.GOV_TIME_MS) * ms
def Dev.govRestore (d : Dev) : Nat := clampN 100 10000 (d.rd LSW.GOV_RESTORE_MS) * ms

/-- Dissipation of a current in 10 mA through the channel's RON in 0.1 mΩ, in units of 10^-5 mW (R34). -/
def Dev.lsDissipation (d : Dev) (n i : Nat) : Nat := i * i * d.rd LSW.CH_RON n

/-- The load-switch dissipation: each channel's measured current squared times the on-resistance it reports, in 10^-5 mW (R34). -/
def Dev.lsPower (d : Dev) : Nat :=
  (((List.range 64).filter fun n => d.flag LSW.CH_BUILT n).map fun n => d.lsDissipation n (d.rd LSW.CH_I_MEAS n)).sum

/-- One limit of the governor: since when it has been exceeded without a break (R294). -/
def Dev.govLimit (d : Dev) (k : Nat) (past : Bool) : Dev :=
  let o := d.lsw.past
  { d with lsw := { d.lsw with
    past := if past then (if (tget? k o).isSome then o else tset k d.now o) else tdel k o
    overRaised := if past then d.lsw.overRaised else d.lsw.overRaised.filter fun l => decide (l ≠ k) } }

/-- The built channels' currents as measured, in 10 mA, channel 0 first; a channel beyond the list keeps the last one (R279). -/
def Dev.lsMeasured (d : Dev) (cur : List Nat) : Dev :=
  forAll ((List.range (Nat.min 64 cur.length)).filter fun n => d.flag LSW.CH_BUILT n)
    (fun n d => d.wr LSW.CH_I_MEAS (satN 16 (cur.getD n 0)) n) d

/-- GOVERNOR_PERIOD: IA and IB in 0.1 A, measured at the inputs, and PSW, which the governor computes from the channels' currents `cur`,
are formed and held against the limits (R34, R294, R296). PSW shows whole mW (assumption 52). -/
def governorPeriod (ia ib : Nat) (cur : List Nat) (d : Dev) : Dev :=
  if !d.powered 10 then d
  else
    let d := (d.boundary 10 0).lsMeasured cur
    let p := d.lsPower
    let d := ((d.wr LSW.IA (satN 16 ia)).wr LSW.IB (satN 16 ib)).wr LSW.PSW (satN 16 (p / 100000))
    let d := ((d.wr LSW.GOV_A (bit (1000 < ia))).wr LSW.GOV_B (bit (1000 < ib))).wr LSW.GOV_P (bit (2000000000 < p))
    let standing := d.lsw.overRaised
    let d := ((d.govLimit 0 (decide (1000 < ia))).govLimit 1 (decide (1000 < ib))).govLimit 2 (decide (2000000000 < p))
    let under := decide (ia ≤ 900 ∧ ib ≤ 900 ∧ p ≤ 1800000000)
    let d := { d with lsw := { d.lsw with
      underSince := if under then (if d.lsw.underSince.isSome then d.lsw.underSince else some d.now) else none } }
    if standing ≠ [] ∧ d.lsw.overRaised = [] then d.recover Flt.LSW_GOV_OVER else d

/-- The candidates for shedding under a limit (R294). -/
def Dev.shedCandidates (d : Dev) (limit : Nat) : List Nat :=
  (List.range 64).filter fun n =>
    d.flag LSW.CH_BUILT n && decide (d.rd LSW.CH_STATE n = lsOn ∨ d.rd LSW.CH_STATE n = lsSlew)
      && decide (d.rd LSW.CH_SHED_PRIO n ≠ 0) && (decide (limit = 2) || decide (d.rd LSW.CH_INPUT n = limit))

/-- Highest SHED_PRIO, among equals the highest channel number (R294). -/
def Dev.pickShed (d : Dev) (l : List Nat) : Option Nat :=
  l.foldl (fun best n => match best with
    | none => some n
    | some b => if d.rd LSW.CH_SHED_PRIO b ≤ d.rd LSW.CH_SHED_PRIO n then some n else some b) none

/-- A channel enters SHED with its command kept (R294). -/
def Dev.lsToShed (d : Dev) (n : Nat) : Dev :=
  let d := d.setLs n { d.ls n with shedMa := d.rd LSW.CH_I_MEAS n, deferred := 0 }
  let l := n :: d.lsw.shed
  let d := (({ d with lsw := { d.lsw with shed := l } }.lsCause n csShed true).wr LSW.SHED_N l.length).count LSW.CH_SHEDS n
  (((d.lsCoolAtOff n).wr LSW.CH_DEFERRED 0 n).lsForm n lsOff).cause LSW.EVT_SHED |>.raise Flt.LSW_SHED n

/-- LOAD_SHED: a limit (0 IA, 1 IB, 2 PSW) has been exceeded for GOV_TIME_MS: one channel is shed and the time starts again;
LSW-GOV-OVER once for each unbroken excess when no candidate remains (R294). -/
def loadShed (limit : Nat) (d : Dev) : Dev :=
  match tget? limit d.lsw.past with
  | none => d
  | some t =>
    let d := d.waitUntil (t + d.govTime)
    let d := { d with lsw := { d.lsw with past := tset limit d.now d.lsw.past } }
    match d.pickShed (d.shedCandidates limit) with
    | some n => d.lsSwitchOff n 2 fun d => d.lsToShed n
    | none =>
      if d.lsw.overRaised.contains limit then d
      else ({ d with lsw := { d.lsw with overRaised := limit :: d.lsw.overRaised } }.cause LSW.EVT_GOV_OVER).raise Flt.LSW_GOV_OVER

/-- A channel that drew `i` fits again below the restore limits: the input's current in 10 mA, and the dissipation in mW (R296). -/
def Dev.govFits (d : Dev) (n i : Nat) : Bool :=
  let inp := if d.flag LSW.CH_INPUT n then d.rd LSW.IB else d.rd LSW.IA
  decide (10 * inp + i ≤ 9000) && decide (d.lsPower + d.lsDissipation n i ≤ 1800000000)

/-- GOVERNOR_RESTORE: all limits stayed low for GOV_RESTORE_MS: the channel shed last is restored if its current still fits
(R296). -/
def governorRestore (d : Dev) : Dev :=
  match d.lsw.underSince, d.lsw.shed with
  | some t, n :: _ =>
    let d := d.waitUntil (t + d.govRestore)
    if d.govFits n (d.ls n).shedMa then
      (({ d with lsw := { d.lsw with underSince := some d.now } }.lsUnshed n).lsResume n).cause LSW.EVT_RESTORED
    else d
  | _, _ => d

/-- LSW_DIAGNOSTIC_PERIOD: the channel's waiting fields take effect; it reports its current (10 mA), on-resistance (0.1 mΩ) and
junction reading (R279, R302). -/
def lswDiagnostic (n i ron : Nat) (tj : Int) (d : Dev) : Dev :=
  if !d.powered 10 then d
  else if !d.flag LSW.CH_BUILT n then d.boundary 10 (n + 1)
  else (((d.boundary 10 (n + 1)).wr LSW.CH_I_MEAS (satN 16 i) n).wr LSW.CH_RON (satN 16 ron) n).wrS LSW.CH_TJ tj n

/-- The built channels on a power input. -/
def Dev.lsOnInput (d : Dev) (input : Nat) : List Nat :=
  (List.range 64).filter fun n => d.flag LSW.CH_BUILT n && decide (d.rd LSW.CH_INPUT n = input)

/-- INPUT_UNDERVOLT: an input stayed below 6.0 V for 100 µs: every channel on it switches off (R297). -/
def inputUndervolt (input : Nat) (d : Dev) : Dev :=
  if !d.powered 10 then d
  else
    let d := forAll (d.lsOnInput input) (fun n d => d.lsTrip n csUnder) d
    (d.cause LSW.EVT_UNDERVOLT).raise Flt.LSW_UNDERVOLT input

/-- UNDERVOLT_RECOVER: the input stayed above 7.0 V for 10 ms: channels commanded ON turn on as a new switch-on (R297). -/
def undervoltRecover (input : Nat) (d : Dev) : Dev :=
  if !d.powered 10 then d
  else
    (forAll ((d.lsOnInput input).filter fun n => d.lsHas n csUnder) (fun n d =>
      (d.lsCause n csUnder false).lsResume n) d).recover Flt.LSW_UNDERVOLT input

/-- The gate of a channel closes (R21, R295): the output takes its safe state. -/
def Dev.lsGateShut (d : Dev) (n : Nat) : Dev :=
  let d := (d.lsUnshed n).wr LSW.CH_GATED 1 n
  let d := d.setLs n { d.ls n with safeOff := d.lsBlocked n, retryAt := none, deferred := 0 }
  let d := if d.flag LSW.CH_SAFE_STATE n then d else d.lsCoolAtOff n
  (d.wr LSW.CH_DEFERRED 0 n).lsForm n lsOff

/-- The output gate of channel `n` is opened or closed; a closure is deferred above 40.0 V where it switches the output off
(R21, R298). -/
def Dev.lsGate (d : Dev) (n : Nat) (opened : Bool) : Dev :=
  if d.rdPair LSW.GATE_LO LSW.GATE_HI n = opened then d
  else
    let d := d.wrPair LSW.GATE_LO LSW.GATE_HI n opened
    if !d.flag LSW.CH_BUILT n then d.wr LSW.CH_GATED (bit !opened) n
    else if opened then
      let keep := d.lsConducts n
      let late := if (d.ls n).deferred = 3 then 0 else (d.ls n).deferred
      let d := ((d.wr LSW.CH_GATED 0 n).wr LSW.CH_DEFERRED (bit (decide (late ≠ 0))) n).setLs n { d.ls n with safeOff := false, deferred := late }
      if keep ∧ !d.flag LSW.CH_CMD n ∧ d.lsOver40 n then
        (((d.setLs n { d.ls n with deferred := 1 }).wr LSW.CH_DEFERRED 1 n).cause LSW.EVT_DEFERRED).lsForm n lsOn
      else (if keep ∧ !d.flag LSW.CH_CMD n then d.lsCoolAtOff n else d).lsForm n (if keep then lsOn else lsSlew)
    else if d.flag LSW.CH_SAFE_STATE n then d.lsGateShut n
    else d.lsSwitchOff n 3 fun d => d.lsGateShut n

/-- An input's voltage in 10 mV returns to 40.0 V or below from above it (R298). -/
def Dev.lsInputBack (d : Dev) (input was v : Nat) : Dev :=
  if 4000 < was ∧ v ≤ 4000 then { d with lsw := { d.lsw with backAt := tset input d.now d.lsw.backAt } } else d

/-- DEFERRED_SWITCH_OFF: 1 ms after the input returned below 40.0 V the deferred switch-off is carried out (R298). -/
def deferredSwitchOff (n : Nat) (d : Dev) : Dev :=
  if d.lsOver40 n ∨ (d.ls n).deferred = 0 then d
  else
    let d := d.waitUntil ((tget (d.rd LSW.CH_INPUT n) d.lsw.backAt) + ms)
    let why := (d.ls n).deferred
    let d := (d.wr LSW.CH_DEFERRED 0 n).setLs n { d.ls n with deferred := 0 }
    match why with
    | 1 => ((d.setLs n { d.ls n with winEnd := none }).lsCoolAtOff n).lsForm n lsOff
    | 2 => d.lsToShed n
    | 3 => d.lsGateShut n
    | _ => d

/-- The check of R299 that sets OPEN_LOAD, or clears it, applies: ON with the current below OL_ON_MA, or OFF with OFF_DIAG; to clear it, a
current above OL_ON_MA. -/
def Dev.lsOpenCheck (d : Dev) (n : Nat) (on : Bool) : Bool :=
  let st := d.rd LSW.CH_STATE n
  let ma := 10 * d.rd LSW.CH_I_MEAS n
  if on then (decide (st = lsOn) && decide (ma < d.rd LSW.CH_OL_ON_MA n)) || (decide (st = lsOff) && d.flag LSW.CH_OFF_DIAG n)
  else decide (d.rd LSW.CH_OL_ON_MA n < ma)

/-- OPEN_LOAD: the check of R299 held for 10 ms; `on` sets the flag, else it clears. -/
def openLoad (n : Nat) (on : Bool) (d : Dev) : Dev :=
  if !d.flag LSW.CH_BUILT n ∨ d.flag LSW.CH_OPEN_LOAD n = on ∨ !d.lsOpenCheck n on then d
  else if on then ((d.wr LSW.CH_OPEN_LOAD 1 n).cause LSW.EVT_OPEN_LOAD).raise Flt.LSW_OPEN_LOAD n
  else (d.wr LSW.CH_OPEN_LOAD 0 n).recover Flt.LSW_OPEN_LOAD n

/-- SHORT_TO_BAT: the output stood above 8.0 V for 10 ms while OFF (R299). -/
def shortToBat (n : Nat) (d : Dev) : Dev :=
  if !d.flag LSW.CH_BUILT n ∨ d.flag LSW.CH_SHORT_TO_BAT n ∨ d.rd LSW.CH_STATE n ≠ lsOff then d
  else ((d.wr LSW.CH_SHORT_TO_BAT 1 n).cause LSW.EVT_SHORT_TO_BAT).raise Flt.LSW_SHORT_TO_BAT n

/-- SHORT_TO_BAT_CLEAR: the output stood below 8.0 V for 10 ms while OFF (Table 11.6). -/
def shortToBatClear (n : Nat) (d : Dev) : Dev :=
  if d.flag LSW.CH_SHORT_TO_BAT n ∧ d.rd LSW.CH_STATE n = lsOff then (d.wr LSW.CH_SHORT_TO_BAT 0 n).recover Flt.LSW_SHORT_TO_BAT n else d

/-- Table 11.5: INRUSH_MODE, SLEW_STEP, LAMP_RETRIES, LAMP_SPACE code, LAMP_WIN_MS, THERM_RESTARTS, OL_ON_MA, OFF_DIAG. -/
def loadPresetRow (v : Nat) : List Nat :=
  match v with
  | 0 => [0, 15, 0, 0, 1, 3, 50, 0]
  | 1 => [1, 15, 16, 1, 60, 3, 100, 1]
  | 2 => [0, 15, 0, 0, 1, 1, 20, 0]
  | _ => [2, 3, 4, 3, 30, 3, 20, 0]

/-- The fields of Table 11.5, in its order. -/
def loadPresetFields : List Fld :=
  [LSW.CH_INRUSH_MODE, LSW.CH_SLEW_STEP, LSW.CH_LAMP_RETRIES, LSW.CH_LAMP_SPACE, LSW.CH_LAMP_WIN_MS, LSW.CH_THERM_RESTARTS,
   LSW.CH_OL_ON_MA, LSW.CH_OFF_DIAG]

/-- LOAD_PRESET_WRITE (R293). -/
def loadPreset (n v : Nat) (d : Dev) : Dev :=
  let v := v % 4
  forAll (loadPresetFields.zip (loadPresetRow v)) (fun p d => d.expand LSW.CH_LOAD_PRESET n v p.1 n 0 (some p.2))
    (d.wr LSW.CH_LOAD_PRESET v n)

/-- PD8 is powered: the wire stores start at H_START (R285). -/
def Dev.lswPowerUp (d : Dev) : Dev :=
  forAll ((List.range 64).filter fun n => d.flag LSW.CH_BUILT n) (fun n d =>
    let h := d.rd LSW.CH_H_START n * 4096
    let d := d.setLs n { (default : LsCh) with t1 := h, t2 := h }
    (d.wr LSW.CH_H (d.rd LSW.CH_H_START n) n).wr LSW.CH_GATED 1 n |>.lsForm n lsOff) d

/-- Held by a latched fault for R164: LATCHED, THERMAL or CLAMP-COOL (R300). -/
def Dev.lsLatchedFault (d : Dev) (n : Nat) : Bool :=
  let st := d.rd LSW.CH_STATE n
  decide (st = lsLatched ∨ st = lsThermal ∨ st = lsCool)

end Sys2Proof.Machine
end

