-- ==== Sys2Proof/Machine/Vdr.lean ====
section
/-! DEFINITION. Machine/Vdr.lean: valve and injector drivers (chapter 12, R303 to R325). -/

namespace Sys2Proof.Machine

/-- Hidden state of channel `n`. -/
def Dev.vd (d : Dev) (n : Nat) : VdCh := tget n d.vdr

/-- Replaces the hidden state of channel `n`. -/
def Dev.setVd (d : Dev) (n : Nat) (c : VdCh) : Dev := { d with vdr := tset n c d.vdr }

/-- Channel states of Table 12.3. -/
def vdStIdle : Nat := 0
def vdStRun : Nat := 1
def vdStStopping : Nat := 2
def vdStLatched : Nat := 3
def vdStGated : Nat := 4

/-- The set voltage in 10 mV (R306). -/
def Dev.boostSet (d : Dev) : Nat := 2400 + 50 * Nat.min 96 (d.rd VDR.BOOST_SET)

/-- The selectors of banks 0 to 7 (R316). -/
def bankSrc (b : Nat) : Fld :=
  ([VDR.SRC0, VDR.SRC1, VDR.SRC2, VDR.SRC3, VDR.SRC4, VDR.SRC5, VDR.SRC6, VDR.SRC7] : List Fld).getD b VDR.SRC0

/-- The channel exists and is powered. -/
def Dev.vdHere (d : Dev) (n : Nat) : Bool := decide (n < 32) && d.flag VDR.CH_BUILT n && d.powered 11

/-- The phase a running channel stands in. -/
def Dev.vdPhase (d : Dev) (n : Nat) : VdPhase := ((d.vd n).phases[d.rd VDR.CH_PHASE n]?).getD default

/-- The carrier period in data-path clock cycles (R312). -/
def Dev.vdCarrier (d : Dev) (n : Nat) : Nat :=
  let hz := clampN 1000 25000 (d.rd VDR.CH_PWM_HZ n)
  (250000000 + hz / 2) / hz

/-- PWM stands in an on interval at time `t`: each carrier period opens with DUTY × period ÷ 4,096 cycles (R312). -/
def Dev.vdPwmOn (d : Dev) (n t : Nat) : Bool :=
  let duty := d.rd VDR.CH_DUTY n
  let per := d.vdCarrier n
  let pos := (t - (d.vd n).phaseAt) / 4 % per
  decide (duty = 4095) || decide (4096 * pos < duty * per)

/-- The source the channel wants to apply from at time `t`: 0 none, 1 BATTERY, 2 BOOST (Table 12.2, R316). -/
def Dev.vdWantsAt (d : Dev) (n t : Nat) : Nat :=
  let p := d.vdPhase n
  if !(d.vd n).running then 0
  else match p.kind with
    | 0 => p.src
    | 1 => if (d.vd n).chopOn then p.src else 0
    | 2 => if d.vdPwmOn n t then p.src else 0
    | _ => 0

/-- The source it wants now. -/
def Dev.vdWants (d : Dev) (n : Nat) : Nat := d.vdWantsAt n d.now

/-- The channels of a bank (R304). -/
def bankChans (b : Nat) : List Nat := [4 * b, 4 * b + 1, 4 * b + 2, 4 * b + 3]

/-- What the selector of bank `b` is at time `t`: BOOST before BATTERY (R316). -/
def Dev.bankAt (d : Dev) (b t : Nat) : Nat :=
  let wants := (bankChans b).map fun n => d.vdWantsAt n t
  if wants.contains 2 then 2 else if wants.contains 1 then 1 else 0

/-- A channel applies at time `t`: it wants a source and its bank's selector is at it. -/
def Dev.appliesAt (d : Dev) (n t : Nat) : Bool := decide (d.vdWantsAt n t ≠ 0 ∧ d.vdWantsAt n t = d.bankAt (n / 4) t)

/-- A starvation that was raised is over: the channel applies, or its run ends (R316, Table 12.5). -/
def Dev.vdUnstarve (d : Dev) (n : Nat) : Dev :=
  let c := d.vd n
  let d := (d.setVd n { c with starveFrom := none, starveStands := false }).wr VDR.CH_STARVING 0 n
  if c.starveStands then d.recover Flt.VDR_OVERLAP_STARVE n else d

/-- A channel is refused its source: it freewheels in SLOW and its starvation time runs (R316). -/
def Dev.vdRefused (d : Dev) (n : Nat) : Dev :=
  let c := d.vd n
  let c := { c with starveFrom := (if c.starveFrom.isSome then c.starveFrom else some d.now),
                    riseRefused := c.riseRefused || decide ((d.vdPhase n).kind = 0), flags := putBit 2 true c.flags }
  (d.setVd n { c with mode := 0 }).wr VDR.CH_STARVING 1 n

/-- The selector of bank `b` is set afresh (R316). -/
def Dev.vdBank (d : Dev) (b : Nat) : Dev :=
  let sel := d.bankAt b d.now
  forAll (bankChans b) (fun n d =>
      let w := d.vdWants n
      if w = 0 then d.wr VDR.CH_STARVING 0 n
      else if w = sel then d.vdUnstarve n else d.vdRefused n)
    (d.wr (bankSrc b) sel)

/-- The selector of the channel's bank is set afresh. -/
def Dev.vdSelect (d : Dev) (n : Nat) : Dev := d.vdBank (n / 4)

/-- Puts a channel in a state and shows whether any is latched. -/
def Dev.vdPut (d : Dev) (n st : Nat) : Dev :=
  let d := d.wr VDR.CH_STATE st n
  d.wr VDR.ANY_LATCHED (bit ((List.range 32).any fun k => decide (d.rd VDR.CH_STATE k = vdStLatched)))

/-- Sets a flag of the report item (Table 12.7). -/
def Dev.vdFlag (d : Dev) (n k : Nat) : Dev := d.setVd n { d.vd n with flags := putBit k true (d.vd n).flags }

/-- The clamp energy of the 10 s before `t`, 0.1 mJ: 50,000 of it are a mean of 0.5 W. -/
def VdCh.clampEnergy (c : VdCh) (t : Nat) : Nat :=
  ((c.pulses.filter fun p => decide (t < p.1 + 10 * second)).map fun p => p.2).foldl (· + ·) 0

/-- Fixes the decay mode at the start of a decay interval (R315, R317). -/
def Dev.vdDecay (d : Dev) (n asked : Nat) : Dev :=
  let c := d.vd n
  let m := if d.flag VDR.NM600_MODE ∨ asked = 3 then 1 else asked
  let ov := d.flag VDR.BOOST_OV
  let c := { c with pulseHigh := c.pulseHigh || decide (50000 < c.clampEnergy d.now) }
  let high := c.pulseHigh
  let m' := if m = 1 ∧ ov then 2 else if m = 2 ∧ high ∧ !ov then 1 else m
  let d := (d.setVd n { c with mode := m' }).wr VDR.CH_DIVERTING (bit (m' ≠ m)) n
  let d := if m' ≠ m then d.vdFlag n 4 else d
  if m' = 2 ∧ high ∧ !c.clampRaised then
    ((d.setVd n { d.vd n with clampRaised := true }).cause VDR.EVT_CLAMP_HIGH).raise Flt.VDR_CLAMP_HIGH n
  else d

/-- A decay interval ends with the clamp energy measured, in 0.1 mJ: E_LAST and the mean power of 10 s, P_CLAMP in mW. Diversion to
RECOVER begins above 30 mJ or 0.5 W and ends below 0.25 W (R317). -/
def Dev.vdClampMeasured (d : Dev) (n energy : Nat) : Dev :=
  let c := d.vd n
  let pulse := decide (c.mode = 2)
  let c := if pulse then { c with pulses := (c.pulses.filter fun p => decide (d.now < p.1 + 10 * second)) ++ [(d.now, energy)] } else c
  let sum := c.clampEnergy d.now
  let low := decide (sum < 25000)
  let d := (if pulse then d.wr VDR.CH_E_LAST (satN 16 energy) n else d).wr VDR.CH_P_CLAMP (satN 16 ((sum + 50) / 100)) n
  let d := d.setVd n { c with
    pulseHigh := (pulse && decide (300 < energy)) || decide (50000 < sum) || (c.pulseHigh && !low)
    clampRaised := c.clampRaised && !low }
  let d := if low ∧ c.mode = 1 then d.wr VDR.CH_DIVERTING 0 n else d
  if c.clampRaised ∧ low then d.recover Flt.VDR_CLAMP_HIGH n else d

/-- The report item of a run with its closing result (Table 12.7, R321); the channel's waiting writes take effect at the run's end
(Table 3.6). -/
def Dev.vdReport (d : Dev) (n res us : Nat) : Dev :=
  let c := d.vd n
  let flags := if d.flag VDR.NM600_MODE then putBit 6 true c.flags else c.flags
  (d.queueItem 11 (d.rd VDR.REPORT_Q) ([n, d.rd VDR.CH_RUN_SLOT n, flags, res] ++ leBytes 2 c.ttpUs
    ++ leBytes 2 us ++ leBytes 8 c.startMt ++ leBytes 8 c.offMt ++ leBytes 6 (enc 48 c.offMd)
    ++ leBytes 2 (satN 16 c.peak))).cause VDR.EVT_RUN_END |>.boundary 11 (n + 1)

/-- A slot's phase as it acts (chapter 12, profile slot registers). -/
def Dev.slotPhase (d : Dev) (s p : Nat) : VdPhase :=
  let kind := d.rd VDR.PS_KIND s p
  let lim := if kind = 1 ∨ kind = 2 then 4000 else 12000
  let src := d.rd VDR.PS_SRC s p
  let dec := d.rd VDR.PS_DECAY s p
  let hyst := d.rd VDR.PS_HYST_MA s p
  ⟨if src = 3 then 0 else src, kind, if dec = 3 then 1 else dec, d.flag VDR.PS_DEMAND s p, d.flag VDR.PS_TTP s p,
   Nat.min lim (d.rd VDR.PS_ITGT_MA s p), if hyst = 0 then 10 else hyst, d.rd VDR.PS_T_PH_US s p⟩

/-- N_PH as it acts. -/
def Dev.slotLen (d : Dev) (s : Nat) : Nat := clampN 1 8 (d.rd VDR.PS_N_PH s)

/-- The slot breaks a FORMAT rule of R308 other than the limits of ITGT_MA. -/
def Dev.slotShapeBad (d : Dev) (s : Nat) : Bool :=
  let n := d.slotLen s
  (List.range n).any fun p =>
    let kind := d.rd VDR.PS_KIND s p
    let src := d.rd VDR.PS_SRC s p
    (decide (kind ≠ 3) && decide (src = 0 ∨ src = 3))
      || (decide (p + 1 < n) && decide (kind = 1 ∨ kind = 2) && decide (d.rd VDR.PS_T_PH_US s p = 0))
      || (d.flag VDR.PS_DEMAND s p && decide (kind ≠ 2))

/-- A phase of the slot has ITGT_MA above its limit (R308). -/
def Dev.slotItgtHigh (d : Dev) (s : Nat) : Bool :=
  (List.range (d.slotLen s)).any fun p =>
    let kind := d.rd VDR.PS_KIND s p
    let i := d.rd VDR.PS_ITGT_MA s p
    (decide (kind = 1 ∨ kind = 2) && decide (4000 < i)) || decide (12000 < i)

/-- The slot breaks a FORMAT rule of R308. -/
def Dev.slotBad (d : Dev) (s : Nat) : Bool := d.slotShapeBad s || d.slotItgtHigh s

/-- A phase begins: a CHOP phase in an off interval where the current is too high already, a PWM phase where DUTY is 0
(R308, R312, R317). -/
def Dev.vdEnter (d : Dev) (n p : Nat) : Dev :=
  let d := d.wr VDR.CH_PHASE p n
  let ph := d.vdPhase n
  let i := d.rd VDR.CH_I_MEAS n
  let on : Bool := match ph.kind with
    | 1 => decide (2 * i < 2 * ph.itgt + ph.hyst)
    | 2 => decide (d.rd VDR.CH_DUTY n ≠ 0)
    | _ => true
  let d := d.setVd n { d.vd n with phaseAt := d.now, chopOn := on, turnedAt := d.now, riseRefused := false }
  if ph.kind = 3 ∨ !on then d.vdDecay n ph.decay else d

/-- A profile starts: the slot and the waiting channel fields are taken up (R309, R310). -/
def Dev.vdBegin (d : Dev) (n slot : Nat) (safe : Bool) : Dev :=
  let d := (d.vdUnstarve n).boundary 11 (n + 1)
  let sd := d.rd VDR.PS_STOP_DECAY slot
  let c := d.vd n
  let d := d.setVd n { c with
    running := true, safeRun := safe, closing := false
    phases := (List.range (d.slotLen slot)).map fun p => d.slotPhase slot p
    stopDecay := if sd = 3 then 1 else sd
    startAt := d.now, startMt := d.mt, offMt := 0, offMd := 0, acc := 0, starveRaised := false, flags := 0, ttpUs := 0xFFFF, peak := d.rd VDR.CH_I_MEAS n }
  let d := (d.wr VDR.CH_RUN_SLOT slot n).wr VDR.CH_DUTY 0 n
  ((d.vdEnter n 0).vdPut n (if safe then vdStGated else vdStRun)).vdSelect n

/-- The running profile stops applying; MT and MD of the switch-off are kept (R320, R321). -/
def Dev.vdSwitchOff (d : Dev) (n asked : Nat) : Dev :=
  let c := d.vd n
  let d := d.setVd n { c with running := false, offAt := d.now, offMt := d.mt, offMd := d.md }
  ((d.vdUnstarve n).vdDecay n asked).vdSelect n

/-- STOPPING begins (R311). -/
def Dev.vdStopping (d : Dev) (n : Nat) : Dev :=
  let d := d.vdSwitchOff n (d.vd n).stopDecay
  (d.setVd n { d.vd n with closing := true }).vdPut n vdStStopping

/-- A protective cause latches the channel (R311, R322): switch-off by RECOVER, the report item, LATCHED. -/
def Dev.vdLatch (d : Dev) (n k : Nat) : Dev :=
  let d := (d.wrBit VDR.CH_CAUSE k true n).vdFlag n 7
  let run := (d.vd n).running || (d.vd n).closing
  let d := if (d.vd n).running then d.vdSwitchOff n 1 else d
  let d := if run then d.vdReport n 0 0xFFFF else d
  (d.setVd n { d.vd n with closing := false, safeRun := false }).vdPut n vdStLatched

/-- A START is refused (R310, R322, R323). -/
def Dev.vdRefuse (d : Dev) (n : Nat) : Dev := (d.wr VDR.CH_START_REFUSED 1 n).cause VDR.EVT_START_REFUSED

/-- The conditions that refuse a START of a slot (R310, R322, R323). -/
def Dev.vdStartRefused (d : Dev) (n slot : Nat) : Bool :=
  !d.flag VDR.EN
  || ((List.range (d.slotLen slot)).any (fun p => d.flag VDR.PS_DEMAND slot p) && !d.flag VDR.CH_DEMAND_USED n)
  || (d.flag VDR.NM600_MODE && decide (4 < d.slotLen slot))
  || ((d.rd VDR.CH_CAUSE n).testBit 3 && decide (1500 ≤ d.rdS VDR.CH_TJ n))

/-- A START releases the latched causes (Table 12.5). -/
def Dev.vdRelease (d : Dev) (n : Nat) : Dev :=
  let c := d.rd VDR.CH_CAUSE n
  forAll [(0, Flt.VDR_SHORT), (1, Flt.VDR_OPEN), (2, Flt.VDR_TTP_LOW), (3, Flt.VDR_THERMAL)]
    (fun p d => if c.testBit p.1 then d.recover p.2 n else d) (d.wr VDR.CH_CAUSE 0 n)

/-- A run ended by a restart: its report item; a START in STOPPING ends closing detection with ABORTED (R310, R311, R320, R321). -/
def Dev.vdRestarted (d : Dev) (n : Nat) : Dev :=
  let c := d.vd n
  let d := (d.vdFlag n 5).setVd n { (d.vdFlag n 5).vd n with offMt := 0, offMd := 0 }
  if c.running then d.vdReport n 0 0xFFFF
  else if c.closing then
    let res := if d.flag VDR.CH_CLOSE_EN n then 4 else 0
    ((d.wr VDR.CH_CLOSE_RESULT res n).wr VDR.CH_CLOSE_LAST_US 0xFFFF n).vdReport n res 0xFFFF
  else d

/-- START: a valve command that names a slot, from any source (R310). -/
def vdStart (n slot : Nat) (d : Dev) : Dev :=
  if !d.vdHere n then d
  else if d.rd VDR.CH_STATE n = vdStRun ∧ d.rd VDR.CH_RUN_SLOT n = slot ∧ d.flag VDR.EN then d
  else if d.vdStartRefused n slot then d.vdRefuse n
  else
    let d := (d.wr VDR.CH_CMD_ON 1 n).wr VDR.CH_CMD_SLOT slot n
    if d.flag VDR.CH_GATED n then d
    else ((d.vdRelease n).vdRestarted n).vdBegin n slot false

/-- STOP: a valve command from any source (R310). -/
def vdStop (n : Nat) (d : Dev) : Dev :=
  if !d.vdHere n then d
  else
    let d := d.wr VDR.CH_CMD_ON 0 n
    if d.rd VDR.CH_STATE n = vdStRun then d.vdStopping n else d

/-- The field-core command word of a channel: START wins over STOP (chapter 12, +0x00). -/
def vdCommand (n slot : Nat) (start stop : Bool) (d : Dev) : Dev :=
  if start then vdStart n slot d else if stop then vdStop n d else d

/-- The last phase has ended: as a STOP (R310). -/
def Dev.vdLastPhase (d : Dev) (n : Nat) : Dev :=
  if (d.vd n).safeRun then
    let d := d.vdSwitchOff n (d.vd n).stopDecay
    d.setVd n { d.vd n with closing := true }
  else (d.wr VDR.CH_CMD_ON 0 n).vdStopping n

/-- Time to peak as the registers and the report item show it: 0xFFFF for none, saturating at 0xFFFE (R319, R325). -/
def ttpShown (us : Option Nat) : Nat := match us with | some t => Nat.min 0xFFFE t | none => 0xFFFF

/-- The TTP window of a RISE phase that ended (R319): `us` when it reached its current. Answers whether it latched. The report item
carries the first checked phase (Table 12.7). -/
def Dev.vdTtp (d : Dev) (n : Nat) (us : Option Nat) : Dev × Bool :=
  let c := d.vd n
  let d := if c.ttpUs = 0xFFFF ∧ !c.flags.testBit 1 then d.setVd n { c with ttpUs := ttpShown us } else d
  let hi := d.rd VDR.CH_TTP_MAX_US n
  match us with
  | some t =>
    if t < d.rd VDR.CH_TTP_MIN_US n then
      (((((d.vdFlag n 0).count VDR.CH_TTP_FAULTS n).vdLatch n 2).cause VDR.EVT_TTP_LOW).raise Flt.VDR_TTP_LOW n, true)
    else if hi ≠ 0 ∧ hi < t then
      ((((d.vdFlag n 1).count VDR.CH_TTP_FAULTS n).cause VDR.EVT_TTP_HIGH).raise Flt.VDR_TTP_HIGH n, false)
    else (d, false)
  | none => ((((d.vdFlag n 1).count VDR.CH_TTP_FAULTS n).cause VDR.EVT_TTP_HIGH).raise Flt.VDR_TTP_HIGH n, false)

/-- The phase ends on the current sampled (Table 12.2). -/
def endsOnCurrent (p : VdPhase) (i : Nat) : Bool :=
  (decide (p.kind = 0) && decide (p.itgt ≤ i)) || (decide (p.kind = 3) && decide (i ≤ p.itgt))

/-- The time limit of a phase in µs, if it has one (Table 12.2). -/
def VdPhase.limit (p : VdPhase) : Option Nat :=
  if p.tph ≠ 0 then some p.tph else if p.kind = 0 then some 1048575 else none

/-- Updates I_MEAS and PEAK_MA from samples in mA. -/
def Dev.vdSampled (d : Dev) (n i peak : Nat) : Dev :=
  let d := d.wr VDR.CH_I_MEAS (satN 16 i) n
  d.setVd n { d.vd n with peak := Nat.max (d.vd n).peak (Nat.max i peak) }

/-- A phase has ended: the next one, or the end of the profile; a RISE phase that was refused its source is measured and not checked
(R308, R310, R316, R319). -/
def Dev.vdNext (d : Dev) (n : Nat) (p : VdPhase) (byCurrent : Bool) : Dev :=
  let c := d.vd n
  let us := if byCurrent then some ((d.now - c.phaseAt) / 1000) else none
  let d := if p.kind = 0 ∧ p.ttp then d.wr VDR.CH_TTP_LAST_US (ttpShown us) n else d
  let (d, latched) := if p.kind = 0 ∧ p.ttp ∧ !c.riseRefused then d.vdTtp n us else (d, false)
  if latched then d
  else
    let k := d.rd VDR.CH_PHASE n + 1
    if k < c.phases.length then (d.vdEnter n k).vdSelect n else d.vdLastPhase n

/-- The current sample of `k` samples of 250 ns on ends the phase before its time limit does (R308, Table 12.2). -/
def Dev.vdEnds (d : Dev) (n k i : Nat) : Bool :=
  endsOnCurrent (d.vdPhase n) i && (d.vdPhase n).limit.all fun t => decide (d.now + 250 * k ≤ (d.vd n).phaseAt + 1000 * t)

/-- PHASE_END: the sample `k` samples of 250 ns on ends the phase on its current, else the phase ends on its time; an open-ended phase
goes on (R308). `energy` is the clamp pulse measured (0.1 mJ). -/
def phaseEnd (n k i peak energy : Nat) (d : Dev) : Dev :=
  if !d.vdHere n ∨ !(d.vd n).running then d
  else
    let p := d.vdPhase n
    let ends := d.vdEnds n k i
    let d := (if ends then d.waitUntil (d.now + 250 * k) else d).vdSampled n i peak
    let d := if p.kind = 3 then d.vdClampMeasured n energy else d
    if ends then d.vdNext n p true
    else match p.limit with
      | some t => (d.waitUntil ((d.vd n).phaseAt + 1000 * t)).vdNext n p false
      | none => d

/-- The demand of R313 in mA from a point of this type. -/
def demandOf (ty : PtType) (v : Int) (fs : Nat) : Nat :=
  match ty with
  | .q15 => (divAway ((if v < 0 then 0 else v) * fs) 32768).toNat
  | _ => (divAway ((v % 65536) * fs) 65536).toNat

/-- The point is lost: VALID 0, or STALE, SOURCE-LOST or POISONED (R190). -/
def Dev.pointLost (d : Dev) (n : Nat) : Bool :=
  !d.pointHas n stValid || d.pointHas n stStale || d.pointHas n stLost || d.pointHas n stPoison

/-- A DEMAND phase reads its point, or holds its last demand (R313). -/
def Dev.vdDemand (d : Dev) (n : Nat) : Dev :=
  let pt := d.rd VDR.CH_DEMAND_PT n
  if d.pointLost pt then
    let was := d.flag VDR.CH_DEMAND_LOST n
    let d := d.wr VDR.CH_DEMAND_LOST 1 n
    if was then d else d.cause VDR.EVT_DEMAND_LOST
  else
    let fs := clampN 1 4000 (d.rd VDR.CH_DEMAND_FS_MA n)
    let ty := match d.pointRow pt with | some (t, _, _) => t | none => .u16
    (d.wr VDR.CH_DEMAND_LOST 0 n).setVd n { d.vd n with demand := demandOf ty (d.pointVal pt) fs }

/-- Dither in mA: `t` ns after the profile start (R314). -/
def dither (mode hz ma t : Nat) : Int :=
  let a : Int := ma
  let ph := t * 2 * hz
  let half := ph / second % 2
  let frac : Int := (ph % second : Nat)
  match mode with
  | 1 => if half = 0 then a else -a
  | 2 => let x := divAway (2 * a * frac) second
         if half = 0 then -a + x else a - x
  | _ => 0

/-- The PWM loop of R312: target, mean, gains, DUTY and accumulator; the new accumulator and DUTY. -/
def currentLoop (t mean kp ki duty acc : Int) : Int × Nat :=
  let e := t - mean
  let acc' := if (duty = 4095 ∧ 0 < e) ∨ (duty = 0 ∧ e < 0) then acc else clampI 0 (4095 * 256) (acc + ki * e)
  (acc', (clampI 0 4095 (divAway (kp * e + acc') 256)).toNat)

/-- The target of a PWM phase (R312). -/
def Dev.vdTarget (d : Dev) (n : Nat) (p : VdPhase) : Int :=
  let base : Int := if p.demand then (d.vd n).demand else p.itgt
  let dith := dither (d.rd VDR.CH_DITHER_MODE n) (clampN 20 500 (d.rd VDR.CH_DITHER_HZ n)) (Nat.min 1000 (d.rd VDR.CH_DITHER_MA n))
    (d.now - (d.vd n).startAt)
  clampI 0 4000 (base + dith)

/-- The next tick of the 10 µs current loop of a channel (R312). -/
def Dev.vdTickAt (d : Dev) (n : Nat) : Nat := d.nextPeriod 10000 (d.vd n).tickAt

/-- A CHOP or PWM interval turns on or off; the decay mode of an off interval is fixed at its start, and the clamp energy of one that ends
is measured (R317). -/
def Dev.vdTurn (d : Dev) (n : Nat) (on : Bool) (decay energy : Nat) : Dev :=
  let c := d.vd n
  if c.chopOn = on then d
  else
    let d := if on then d.vdClampMeasured n energy else d
    let d := d.setVd n { d.vd n with chopOn := on, turnedAt := d.now }
    if on then d else d.vdDecay n decay

/-- CURRENT_LOOP_TICK: `mean` of the 40 samples of the last 10 µs, the latest sample and the highest, mA, and the clamp energy of an off
interval, 0.1 mJ (R312 to R314). A CHOP phase compares the latest sample, and its intervals last 2 µs at least (Table 12.2). -/
def currentLoopTick (n mean last peak energy : Nat) (d : Dev) : Dev :=
  if !d.vdHere n then d
  else if !(d.vd n).running then d.wr VDR.CH_I_MEAS (satN 16 last) n
  else
    let p := d.vdPhase n
    match p.kind with
    | 1 =>
      let d := d.vdSampled n last peak
      let c := d.vd n
      let on := if d.now < c.turnedAt + 2000 then c.chopOn else if 2 * p.itgt + p.hyst ≤ 2 * last then false
        else if 2 * last + p.hyst ≤ 2 * p.itgt then true else c.chopOn
      (d.vdTurn n on p.decay energy).vdSelect n
    | 2 =>
      let d := (d.waitUntil (d.vdTickAt n)).vdSampled n last peak
      let d := d.setVd n { d.vd n with tickAt := some d.now }
      let d := if p.demand then d.vdDemand n else d
      let (acc, duty) := currentLoop (d.vdTarget n p) mean (d.rd VDR.CH_KP n) (d.rd VDR.CH_KI n) (d.rd VDR.CH_DUTY n) (d.vd n).acc
      let d := (d.setVd n { d.vd n with acc := acc }).wr VDR.CH_DUTY duty n
      (d.vdTurn n (d.vdPwmOn n d.now) p.decay energy).vdSelect n
    | _ => (d.vdSampled n last peak).vdSelect n

/-- The first of the 250 ns samples from `t` on, of the next 200 µs, at which a refused channel applies after all (R316). -/
def Dev.vdReapplies (d : Dev) (n t : Nat) : Option Nat :=
  ((List.range 800).find? fun k => d.appliesAt n (t + 250 * (k + 1))).map fun k => t + 250 * (k + 1)

/-- STARVE_TIMEOUT: a channel refused its source for 200 µs: VDR-OVERLAP-STARVE once per run; the profile goes on. One that applies in
between is starved no more (R316). -/
def starveTimeout (n : Nat) (d : Dev) : Dev :=
  match (d.vd n).starveFrom with
  | none => d
  | some t =>
    match d.vdReapplies n t with
    | some u => (d.waitUntil u).vdSelect n
    | none =>
      let d := d.waitUntil (t + 200000)
      let c := d.vd n
      if c.starveRaised then d
      else (((d.setVd n { c with starveRaised := true, starveStands := true }).count VDR.CH_STARVES n).cause VDR.EVT_STARVE).raise
        Flt.VDR_OVERLAP_STARVE n

/-- The kink of R320 at µs `m`: `u` holds the averaged voltage from `m0` on. -/
def kinkAt (m0 : Nat) (u : List Int) (m : Nat) : Int :=
  let v (k : Nat) : Int := if k < m0 then 0 else (u[k - m0]?).getD 0
  (v m - v (m - 4)) - (v (m - 4) - v (m - 8))

/-- The instant of the largest kink in a window, earliest on ties, and its size (R320). -/
def kinkPeak (m0 : Nat) (u : List Int) (lo hi : Nat) : Nat × Nat :=
  (List.range (hi + 1 - lo)).foldl (fun best k =>
    let a := (kinkAt m0 u (lo + k)).natAbs
    if best.2 < a then (lo + k, a) else best) (lo, (kinkAt m0 u lo).natAbs)

/-- The closing window in µs as it acts (chapter 12, +0x10). -/
def Dev.closeWindow (d : Dev) (n : Nat) : Nat × Nat :=
  let lo := Nat.max 8 (d.rd VDR.CH_CLOSE_WIN_LO_US n)
  (lo, Nat.max lo (d.rd VDR.CH_CLOSE_WIN_HI_US n))

/-- The closing result and CLOSE_US: `zeroUs` is when the current fell below 50 mA, counted from the switch-off (R320). -/
def Dev.closeResult (d : Dev) (n : Nat) (zeroUs : Nat) (u : List Int) : Nat × Nat :=
  let (lo, hi) := d.closeWindow n
  if !d.flag VDR.CH_CLOSE_EN n then (0, 0xFFFF)
  else if lo - 8 < zeroUs then (3, 0xFFFF)
  else
    let (m, k) := kinkPeak (lo - 8) u lo hi
    if d.rd VDR.CH_CLOSE_THR_MV n ≤ k then (1, m - 4) else (2, 0xFFFF)

/-- Counts results in a row without a kink; the third raises VDR-CLOSE-MISSING (R320). -/
def Dev.vdMisses (d : Dev) (n res : Nat) : Dev :=
  let c := d.vd n
  if res = 2 ∨ res = 3 then
    if 2 ≤ c.misses then
      (((d.setVd n { c with misses := 0 }).count VDR.CH_CLOSE_MISSES n).cause VDR.EVT_CLOSE_MISSING).raise Flt.VDR_CLOSE_MISSING n
    else d.setVd n { c with misses := c.misses + 1 }
  else d.setVd n { c with misses := 0 }

/-- CLOSING_DETECTION_DONE: the switch-off is over and the closing result final; the report item (R311, R320, R321). `u` holds
the averaged voltages in mV, one per µs, from 8 µs before the window, and `last` is the latest sample of the current in mA. -/
def closingDetectionDone (n zeroUs : Nat) (u : List Int) (energy last : Nat) (d : Dev) : Dev :=
  if !d.vdHere n ∨ !(d.vd n).closing then d
  else
    let (res, us) := d.closeResult n zeroUs u
    let d := d.waitUntil ((d.vd n).offAt + 1000 * (if res = 0 then zeroUs else Nat.max zeroUs (d.closeWindow n).2))
    let d := d.vdClampMeasured n energy
    let d := ((d.wr VDR.CH_CLOSE_RESULT res n).wr VDR.CH_CLOSE_LAST_US us n).vdMisses n res
    let d := (d.wr VDR.CH_I_MEAS (satN 16 last) n).setVd n { d.vd n with closing := false }
    if d.rd VDR.CH_STATE n = vdStStopping then (d.vdReport n res us).vdPut n vdStIdle else d.boundary 11 (n + 1)

/-- VALVE_OVERCURRENT (Table 12.5). -/
def valveOvercurrent (n : Nat) (d : Dev) : Dev :=
  if d.vdHere n ∧ (d.vd n).running then ((d.vdLatch n 0).cause VDR.EVT_SHORT).raise Flt.VDR_SHORT n else d

/-- VALVE_OPEN: 200 µs of a phase that applies have passed with the current below 50 mA (Table 12.5). -/
def valveOpen (n : Nat) (d : Dev) : Dev :=
  if d.vdHere n ∧ (d.vd n).running ∧ (d.vdPhase n).kind ≠ 3 then
    (((d.waitUntil ((d.vd n).phaseAt + 200000)).vdLatch n 1).cause VDR.EVT_OPEN).raise Flt.VDR_OPEN n
  else d

/-- VALVE_OVERTEMP: the low-side junction reads `tj`, in 0.1 °C (Table 12.5). -/
def valveOvertemp (n : Nat) (tj : Int) (d : Dev) : Dev :=
  let d := d.wrS VDR.CH_TJ tj n
  if d.vdHere n ∧ 1750 < tj ∧ !(d.rd VDR.CH_CAUSE n).testBit 3 then
    ((d.vdLatch n 3).cause VDR.EVT_THERMAL).raise Flt.VDR_THERMAL n
  else d

/-- Writes BOOST_V and BOOST_READY (chapter 12, VDR_STAT). -/
def Dev.boostV (d : Dev) (v : Nat) : Dev :=
  let s := d.boostSet
  (d.wr VDR.BOOST_V (satN 16 v)).wr VDR.BOOST_READY (bit (49 * s ≤ 50 * v ∧ 50 * v ≤ 51 * s))

/-- The converter may charge (R306). -/
def Dev.boostMay (d : Dev) : Bool := d.flag VDR.EN && d.powered 11 && decide (800 ≤ d.rd SYS.VPWRA)

/-- The voltage below which BOOST-LOW stands, 10 mV (R307). -/
def Dev.boostFloor (d : Dev) : Nat := d.boostSet - 50 * d.rd VDR.BOOST_UV_DROP

/-- BOOST_V is back within the drop: VDR-BOOST-LOW recovers (Table 12.5). -/
def Dev.boostBack (d : Dev) : Dev :=
  if d.flag VDR.BOOST_LOW ∧ d.boostFloor ≤ d.rd VDR.BOOST_V then (d.wr VDR.BOOST_LOW 0).recover Flt.VDR_BOOST_LOW else d

/-- The converter's power in W: 300 W, and 30 A of PWR-A, 20 A while LOG is in the Reduced band (R306). -/
def Dev.boostPower (d : Dev) : Nat :=
  Nat.min 300 ((if d.rd SYS.BAND_LOG = 2 then 20 else 30) * d.rd SYS.VPWRA / 100)

/-- How long the 940 µF take from `v` to the set voltage at that power, ns. -/
def Dev.boostTime (d : Dev) (v : Nat) : Nat :=
  let s := d.boostSet
  ceilDiv (47 * (s * s - v * v)) (Nat.max 1 d.boostPower)

/-- BOOST_CHARGE: BOOST_V reads `v` (10 mV); at 0.5 V below the set voltage the converter charges up to it, at its full power (R306). -/
def boostCharge (v : Nat) (d : Dev) : Dev :=
  if !d.powered 11 then d
  else ((if d.boostMay ∧ v + 50 ≤ d.boostSet then (d.waitUntil (d.now + d.boostTime v)).boostV d.boostSet else d.boostV v)).boostBack

/-- BOOST_LOW: BOOST_V stayed below the set voltage minus BOOST_UV_DROP for 1 ms (R307). -/
def boostLow (v : Nat) (d : Dev) : Dev :=
  if !d.powered 11 then d
  else
    let d := d.boostV v
    if v < d.boostFloor ∧ !d.flag VDR.BOOST_LOW then ((d.wr VDR.BOOST_LOW 1).cause VDR.EVT_BOOST_LOW).raise Flt.VDR_BOOST_LOW
    else d

/-- BOOST_OV: BOOST_V above the set voltage plus 8 V, at most 78 V (R307). -/
def boostOv (v : Nat) (d : Dev) : Dev :=
  if !d.powered 11 then d
  else
    let d := d.boostV v
    if Nat.min 7800 (d.boostSet + 800) < v ∧ !d.flag VDR.BOOST_OV then ((d.wr VDR.BOOST_OV 1).cause VDR.EVT_BOOST_OV).raise Flt.VDR_BOOST_OV
    else d

/-- BOOST_OV_END: BOOST_V below the set voltage plus 4 V (R307). -/
def boostOvEnd (v : Nat) (d : Dev) : Dev :=
  let d := d.boostV v
  if d.flag VDR.BOOST_OV ∧ v < d.boostSet + 400 then (d.wr VDR.BOOST_OV 0).recover Flt.VDR_BOOST_OV else d

/-- VDR_DISABLE: EN written 0: every channel in RUN switches off, the converter stops (R323). -/
def vdrDisable (d : Dev) : Dev :=
  let d := forAll ((List.range 32).filter fun n => decide (d.rd VDR.CH_STATE n = vdStRun)) (fun n d => d.vdStopping n) d
  d.wr VDR.EN 0

/-- Table 12.6: PWM_HZ, DITHER_MODE, DITHER_HZ, DITHER_MA, KP, KI, CLOSE_EN. -/
def valvePresetRow (v : Nat) : List Nat :=
  match v with
  | 0 => [20000, 0, 100, 0, 64, 8, 1]
  | 1 => [5000, 1, 150, 100, 96, 12, 0]
  | 2 => [20000, 2, 200, 150, 96, 12, 0]
  | _ => [15000, 1, 300, 60, 128, 16, 0]

/-- The fields of Table 12.6, in its order. -/
def valvePresetFields : List Fld :=
  [VDR.CH_PWM_HZ, VDR.CH_DITHER_MODE, VDR.CH_DITHER_HZ, VDR.CH_DITHER_MA, VDR.CH_KP, VDR.CH_KI, VDR.CH_CLOSE_EN]

/-- VALVE_PRESET_WRITE (R324). -/
def valvePreset (n v : Nat) (d : Dev) : Dev :=
  let v := v % 4
  forAll (valvePresetFields.zip (valvePresetRow v)) (fun p d => d.expand VDR.CH_VALVE_PRESET n v p.1 n 0 (some p.2))
    (d.wr VDR.CH_VALVE_PRESET v n)

/-- The gate of a channel closes (R21, R311). -/
def Dev.vdGateShut (d : Dev) (n : Nat) : Dev :=
  let d := d.wr VDR.CH_GATED 1 n
  let st := d.rd VDR.CH_STATE n
  if st = vdStLatched then d
  else
    let safe := d.flag VDR.CH_SAFE_RUN n
    let ending := decide (st = vdStRun ∨ st = vdStStopping)
    let d := if ending then d.vdFlag n 3 else d
    let d := if st = vdStRun ∧ !safe then
        let d := d.vdSwitchOff n (d.vd n).stopDecay
        d.setVd n { d.vd n with closing := true }
      else d
    let d := if st = vdStRun ∧ safe then d.setVd n { d.vd n with offMt := d.mt, offMd := d.md } else d
    let d := if ending then d.vdReport n 0 0xFFFF else d
    if safe then d.vdBegin n (d.rd VDR.CH_SAFE_SLOT n) true else d.vdPut n vdStGated

/-- The gate of a channel opens: RUN from phase 0 of CMD_SLOT, or IDLE (Table 12.3). -/
def Dev.vdGateOpen (d : Dev) (n : Nat) : Dev :=
  let d := d.wr VDR.CH_GATED 0 n
  if d.rd VDR.CH_STATE n ≠ vdStGated then d
  else
    let d := if (d.vd n).running then d.vdSwitchOff n (d.vd n).stopDecay else d
    let d := d.setVd n { d.vd n with safeRun := false, closing := false }
    if d.flag VDR.CH_CMD_ON n ∧ d.flag VDR.EN then d.vdBegin n (d.rd VDR.CH_CMD_SLOT n) false else (d.vdPut n vdStIdle).boundary 11 (n + 1)

/-- The output gate of channel `n` is opened or closed (R21). -/
def Dev.vdGate (d : Dev) (n : Nat) (opened : Bool) : Dev :=
  if (d.rd VDR.GATE).testBit n = opened then d
  else
    let d := d.wrBit VDR.GATE n opened
    if !d.flag VDR.CH_BUILT n then d.wr VDR.CH_GATED (bit !opened) n
    else if opened then d.vdGateOpen n else d.vdGateShut n

/-- PD8 is powered: the built channels stand behind closed gates (R21, R311). -/
def Dev.vdrPowerUp (d : Dev) : Dev :=
  forAll ((List.range 32).filter fun n => d.flag VDR.CH_BUILT n) (fun n d => d.vdGateShut n) d

end Sys2Proof.Machine
end

