-- ==== Sys2Proof/Machine/Fio.lean ====
section
/-! DEFINITION. Machine/Fio.lean: isolated field I/O, analogue and frequency inputs (chapter 13, R326 to R338). -/

namespace Sys2Proof.Machine

/-- Hidden state of group `g`, pin `n`, AI channel `a`, FI input `f`. -/
def Dev.fioG (d : Dev) (g : Nat) : FioGrp := tget g d.fio.grps
def Dev.setFioG (d : Dev) (g : Nat) (x : FioGrp) : Dev := { d with fio := { d.fio with grps := tset g x d.fio.grps } }
def Dev.fioPin (d : Dev) (n : Nat) : FioPin := tget n d.fio.pins
def Dev.setFioPin (d : Dev) (n : Nat) (x : FioPin) : Dev := { d with fio := { d.fio with pins := tset n x d.fio.pins } }
def Dev.aiCh (d : Dev) (a : Nat) : AiCh := tget a d.fio.ais
def Dev.setAiCh (d : Dev) (a : Nat) (x : AiCh) : Dev := { d with fio := { d.fio with ais := tset a x d.fio.ais } }
def Dev.fiCh (d : Dev) (f : Nat) : FiCh := tget f d.fio.fis
def Dev.setFiCh (d : Dev) (f : Nat) (x : FiCh) : Dev := { d with fio := { d.fio with fis := tset f x d.fio.fis } }

/-- The point of an input: kind 0 an IO pin, 1 an AI channel, 2 its impact count, 3 an FI input. -/
def Dev.ioPoint (d : Dev) (kind n : Nat) : Option Nat :=
  (d.itemsOf 1).findSome? fun it => match it with
    | .ioPoint k m p => if k = kind ∧ m = n then some p else none
    | _ => none

/-- Clears VALID of a point, VALUE unchanged (R331, R335, R336). -/
def Dev.pointInvalid (d : Dev) (n : Option Nat) : Dev :=
  match n with
  | none => d
  | some n =>
    let p := d.point n
    if (d.pointRow n).isSome ∧ p.status % 2 = 1 then { d with points := tset n { p with status := p.status - 1 } d.points } else d

/-- Marks a point SOURCE-LOST, VALUE unchanged (R29). -/
def Dev.pointLose (d : Dev) (n : Option Nat) : Dev :=
  match n with
  | none => d
  | some n =>
    let p := d.point n
    if (d.pointRow n).isSome ∧ p.status / stLost % 2 = 0 then { d with points := tset n { p with status := p.status + stLost } d.points }
    else d

/-- Pin kinds (chapter 13, pin registers). -/
def Dev.pinIsOut (d : Dev) (n : Nat) : Bool := decide (d.rd FIO.PIN_KIND n = 1)
def Dev.pinIsIn (d : Dev) (n : Nat) : Bool := decide (2 ≤ d.rd FIO.PIN_KIND n)

/-- The pins of a group (R326). -/
def groupPins (g : Nat) : List Nat := (List.range 8).map fun k => 8 * g + k

/-- IO_OUTPUT_COMMAND: a command delivered to an output from any source; from OFF to ON it clears OUT_FAULT (R327). -/
def ioCommand (n : Nat) (on : Bool) (d : Dev) : Dev :=
  if !d.powered 12 ∨ 64 ≤ n ∨ !d.pinIsOut n then d
  else
    let was := d.rdPair FIO.OUT_LO FIO.OUT_HI n
    let d := d.wrPair FIO.OUT_LO FIO.OUT_HI n on
    if on ∧ !was ∧ d.flag FIO.PIN_OUT_FAULT n then (d.wr FIO.PIN_OUT_FAULT 0 n).recover Flt.FIO_OUT_FAULT n else d

/-- IO_OUTPUT_FAULT: current limit for 1 ms, or above 170 °C (R327). -/
def ioOutputFault (n : Nat) (d : Dev) : Dev :=
  if !d.powered 12 ∨ 64 ≤ n ∨ !d.pinIsOut n ∨ d.flag FIO.PIN_OUT_FAULT n then d
  else ((d.wr FIO.PIN_OUT_FAULT 1 n).cause FIO.EVT 2).raise Flt.FIO_OUT_FAULT n

/-- What the host side wants of a pin: its command behind an open gate, its safe state behind a closed one (R21). -/
def Dev.ioWanted (d : Dev) (n : Nat) : Bool :=
  d.pinIsOut n && (if d.rdPair FIO.GATE_LO FIO.GATE_HI n then d.rdPair FIO.OUT_LO FIO.OUT_HI n else d.flag FIO.PIN_SAFE_STATE n)

/-- The level of an output pin: what the isolated side drives, off while it is held or faulted (R327, R329). -/
def Dev.ioLevel (d : Dev) (n : Nat) : Bool :=
  let g := d.fioG (n / 8)
  g.outs.testBit (n % 8) && !g.held && !g.lost && !d.flag FIO.PIN_OUT_FAULT n && d.pdOn 9

/-- One bit of the CRC-8 of R328. -/
def crc8Bit (c : Nat) : Nat := if 128 ≤ c then Nat.xor (c * 2 % 256) 0x2F else c * 2 % 256

/-- The CRC-8 of R328 over `n` bytes of a payload, most significant byte first. -/
def crc8 : Nat → Nat → Nat → Nat
  | 0, _, c => Nat.xor c 0xFF
  | n + 1, v, c =>
    let x := Nat.xor c (v / 256 ^ n % 256)
    crc8 n v (crc8Bit (crc8Bit (crc8Bit (crc8Bit (crc8Bit (crc8Bit (crc8Bit (crc8Bit x))))))))

/-- A barrier frame: payload of `n` bytes with its CRC above it (Table 13.2). -/
def barrierFrame (n payload : Nat) : Nat := payload + crc8 n payload 0xFF * 256 ^ n

/-- A frame whose CRC holds. -/
def barrierOk (n frame : Nat) : Bool := decide (frame / 256 ^ n = crc8 n (frame % 256 ^ n) 0xFF)

/-- The downstream frame of a group as the host side forms it (Table 13.2). -/
def Dev.downFrame (d : Dev) (g : Nat) : Nat :=
  let outs := ((List.range 8).map fun k => bit (d.ioWanted (8 * g + k)) * 2 ^ k).foldl (· + ·) 0
  barrierFrame 2 ((d.fioG g).seq % 16 + outs * 16 + bit (d.fioG g).rearm * 2 ^ 12)

/-- A bad downstream frame at the isolated side (Table 13.3, step 1). -/
def isoBadFrame (x : FioGrp) : FioGrp :=
  let n := satInc 8 x.isoBad
  if 3 ≤ n then { x with isoBad := n, isoGood := 0, lost := true, held := true, outs := 0 } else { x with isoBad := n, isoGood := 0 }

/-- A good downstream frame at the isolated side (R329, R330). -/
def isoGoodFrame (x : FioGrp) (frame : Nat) : FioGrp :=
  let n := satInc 8 x.isoGood
  let x := { x with isoBad := 0, isoGood := n, lost := x.lost && decide (n < 8), outs := bitsOf 11 4 frame }
  if frame.testBit 12 then { x with held := false } else x

/-- DOWNSTREAM_FRAME: the next 20 µs refresh of group `g`: the frame formed by the host side arrives with the bits of `noise` inverted, or not at
all; the group's Shadowed fields take effect (R328 to R330, Table 3.6). -/
def downstreamFrame (g : Nat) (noise : Option Nat) (d : Dev) : Dev :=
  if !d.powered 12 ∨ 8 ≤ g then d
  else
    let d := d.waitUntil (d.nextPeriod 20000 (d.fioG g).refreshAt)
    let d := (d.boundary 12 0).boundary 12 (g + 1)
    let sent := d.downFrame g
    let x := { d.fioG g with rearm := false, mt := d.mt, md := d.md, refreshAt := some d.now }
    let y := match noise with
      | none => isoBadFrame x
      | some m =>
        let f := Nat.xor sent (m % 2 ^ 24)
        if d.pdOn 9 ∧ barrierOk 2 f ∧ f % 16 = x.seq % 16 then isoGoodFrame x f else isoBadFrame x
    d.setFioG g y

/-- The current class of a pin: `cur` in µA, `on` at or above its Type's ON threshold, `vsup` in 10 mV (Table 13.4, R332). -/
def pinClass (wb : Bool) (vsup cur : Nat) (on : Bool) : Nat :=
  if wb ∧ 1800 ≤ vsup ∧ vsup ≤ 3200 then
    if cur < 250 then 0 else if cur < 450 then 3 else if cur ≤ 1400 then 1 else if cur < 2000 then 3 else 2
  else if on then 2 else 1

/-- The upstream frame of a group as the isolated side forms it (Table 13.2). -/
def Dev.upFrame (d : Dev) (g vsup : Nat) (cur : List Nat) (on : Nat) : Nat :=
  let x := d.fioG g
  let raw := ((List.range 8).map fun k =>
    let n := 8 * g + k
    (if d.pinIsIn n then pinClass (d.flag FIO.PIN_WB_EN n) vsup (cur.getD k 0) (on.testBit k) else 0) * 4 ^ k).foldl (· + ·) 0
  let faults := ((List.range 8).map fun k => bit (d.flag FIO.PIN_OUT_FAULT (8 * g + k)) * 2 ^ k).foldl (· + ·) 0
  barrierFrame 4 (x.seq % 16 + raw * 2 ^ 4 + faults * 2 ^ 20 + bit x.lost * 2 ^ 28 + bit (decide (vsup < 900)) * 2 ^ 29 + bit x.held * 2 ^ 30)

/-- A class is taken by pin `n` (R331, R333, Table 13.4). -/
def Dev.takeClass (d : Dev) (n c : Nat) : Dev :=
  let was := (d.fioPin n).taken
  let d := d.setFioPin n { d.fioPin n with taken := some c, cand := c, run := 0 }
  let d := ((d.wr FIO.PIN_CLASS c n).wr FIO.PIN_WIRE_BREAK (bit (c = 0)) n).wr FIO.PIN_INDET (bit (c = 3)) n
  let d := if c = 0 then ((d.pointInvalid (d.ioPoint 0 n)).cause FIO.EVT 1).raise Flt.FIO_WIRE_BREAK n
           else if was = some 0 then d.recover Flt.FIO_WIRE_BREAK n else d
  let old := d.rdPair FIO.IN_LO FIO.IN_HI n
  let now := if c = 3 then old else decide (c = 2)
  if now = old then d
  else
    let g := d.fioG (n / 8)
    (d.wrPair FIO.IN_LO FIO.IN_HI n now).queueItem 12 (d.rd FIO.EDGE_Q) ([n, bit now + 2 * c] ++ leBytes 6 (enc 48 g.md) ++ leBytes 8 g.mt)

/-- A sample of a pin passes its filter: a class is taken once it has held for FILT + 1 samples (R331). -/
def Dev.filterClass (d : Dev) (n c : Nat) : Dev :=
  let p := d.fioPin n
  if p.taken = some c then d.setFioPin n { p with cand := c, run := 0 }
  else
    let run := if p.run ≠ 0 ∧ p.cand = c then p.run + 1 else 1
    if d.rd FIO.G_FILT (n / 8) + 1 ≤ run then d.takeClass n c else d.setFioPin n { p with cand := c, run := run }

/-- SOURCE-LOST of a point clears, VALUE unchanged (R330). -/
def Dev.pointFound (d : Dev) (n : Option Nat) : Dev :=
  match n with
  | none => d
  | some n =>
    let p := d.point n
    if (d.pointRow n).isSome ∧ p.status / stLost % 2 = 1 then { d with points := tset n { p with status := p.status - stLost } d.points }
    else d

/-- A pin's point follows the taken class at each input update; SOURCE-LOST clears with it (R330, Table 13.4). -/
def Dev.updatePin (d : Dev) (n : Nat) : Dev :=
  match (d.fioPin n).taken with
  | some 1 => d.pointUpdate? (d.ioPoint 0 n) 0
  | some 2 => d.pointUpdate? (d.ioPoint 0 n) 1
  | _ => d.pointFound (d.ioPoint 0 n)

/-- The group is lost at the host side (Table 13.3, step 2). -/
def Dev.groupLost (d : Dev) (g : Nat) : Dev :=
  if (d.rd FIO.GROUP_LOST).testBit g then d
  else
    let d := forAll (groupPins g) (fun n d => if d.pinIsIn n then d.pointLose (d.ioPoint 0 n) else d) d
    (((d.wrBit FIO.GROUP_LOST g true).count FIO.G_LOSSES g).cause FIO.EVT 0).raise Flt.FIO_GROUP_LOST g

/-- A bad upstream frame at the host side (R329). -/
def Dev.hostBadFrame (d : Dev) (g : Nat) : Dev :=
  let n := satInc 8 (d.fioG g).hostBad
  let d := (d.setFioG g { d.fioG g with hostBad := n, hostGood := 0 }).count FIO.G_BAD_FRAMES g
  if 3 ≤ n then d.groupLost g else d

/-- SUPPLY_LOW of a group (Table 13.2, Table 13.7). -/
def Dev.supplyLow (d : Dev) (g : Nat) (low : Bool) : Dev :=
  if d.flag FIO.G_SUPPLY_LOW g = low then d
  else if low then ((d.wr FIO.G_SUPPLY_LOW 1 g).cause FIO.EVT 3).raise Flt.FIO_SUPPLY_LOW g
  else (d.wr FIO.G_SUPPLY_LOW 0 g).recover Flt.FIO_SUPPLY_LOW g

/-- GROUP_LOST clears after 8 good frames without LOST (R330). -/
def Dev.hostCount (d : Dev) (g : Nat) (lost : Bool) : Dev :=
  let n := if lost then 0 else satInc 8 (d.fioG g).hostGood
  let d := d.setFioG g { d.fioG g with hostBad := 0, hostGood := n }
  if lost then d.groupLost g
  else if 8 ≤ n ∧ (d.rd FIO.GROUP_LOST).testBit g then (d.wrBit FIO.GROUP_LOST g false).recover Flt.FIO_GROUP_LOST g
  else d

/-- WB_INVALID of a group: wire-break pins outside 18 V to 32 V (R332). -/
def Dev.wbInvalid (d : Dev) (g vsup : Nat) : Bool :=
  (groupPins g).any (fun n => d.flag FIO.PIN_WB_EN n && d.pinIsIn n) && decide (vsup < 1800 ∨ 3200 < vsup)

/-- A good upstream frame at the host side (R329 to R332). -/
def Dev.hostGoodFrame (d : Dev) (g vsup frame : Nat) : Dev :=
  let d := (d.hostCount g (frame.testBit 28)).wr FIO.G_OUT_HELD (bit (frame.testBit 30)) g
  let d := ((d.supplyLow g (frame.testBit 29)).wr FIO.G_VSUP (satN 16 vsup) g).wrBit FIO.WB_INVALID g (d.wbInvalid g vsup)
  if (d.rd FIO.GROUP_LOST).testBit g then d
  else forAll ((groupPins g).filter fun n => d.pinIsIn n)
    (fun n d => (d.filterClass n (bitsOf (5 + 2 * (n % 8)) (4 + 2 * (n % 8)) frame)).updatePin n) d

/-- UPSTREAM_FRAME: the isolated side's frame of the refresh arrives with the bits of `noise` inverted, or not at all (R328 to
R333). `cur` holds the pins' currents in µA, `on` a bit for each pin at or above its Type's ON threshold. -/
def upstreamFrame (g : Nat) (cur : List Nat) (on vsup : Nat) (noise : Option Nat) (d : Dev) : Dev :=
  if !d.powered 12 ∨ 8 ≤ g then d
  else
    let f := Nat.xor (d.upFrame g vsup cur on) ((noise.getD 0) % 2 ^ 40)
    let good := noise.isSome && d.pdOn 9 && barrierOk 4 f && decide (f % 16 = (d.fioG g).seq % 16)
    let d := if good then d.hostGoodFrame g vsup f else d.hostBadFrame g
    d.setFioG g { d.fioG g with seq := (d.fioG g).seq + 1 }

/-- FIO_REARM: REARM of a group, carried by the next downstream frame; ignored while GROUP_LOST is 1 (R330). -/
def fioRearm (g : Nat) (d : Dev) : Dev :=
  if (d.rd FIO.GROUP_LOST).testBit g then d else d.setFioG g { d.fioG g with rearm := true }

/-- The output gate of IO pin `n` is opened or closed; the next downstream frame carries what follows (R21). -/
def Dev.ioGate (d : Dev) (n : Nat) (opened : Bool) : Dev := d.wrPair FIO.GATE_LO FIO.GATE_HI n opened

/-! Analogue inputs. -/

/-- The code of one conversion: `x` in µV, or nA in the 4–20 mA range; `ref` the sensor supply in µV at the same instant (R334). With a supply
of 0 V the spec states no ratio: the code is the free value `free`. -/
def aiCode (range free ref x : Nat) : Nat :=
  let full := match range with | 0 => 5000000 | 1 => 10000000 | 2 => 25000000 | _ => ref
  if full = 0 then free % 65536 else Nat.min 65535 ((65535 * x * 2 + full) / (2 * full))

/-- The sensor supply an AI channel refers to is on (R336). -/
def Dev.aiRefOn (d : Dev) (a : Nat) : Bool := (d.rd FIO.SS_ON).testBit (d.rd FIO.AI_REF a)

/-- The channel's point may be VALID (R335, R336). -/
def Dev.aiValid (d : Dev) (a : Nat) : Bool :=
  !d.flag FIO.AI_UNDER a && !d.flag FIO.AI_OVER a && (decide (d.rd FIO.AI_RANGE a ≠ 3) || d.aiRefOn a)

/-- The time between two samples of a channel: 250 kS/s for AI0 to AI15, 10 kS/s for the others (Table 13.1). -/
def aiStep (a : Nat) : Nat := if a < 16 then 4000 else 100000

/-- AI_PUBLISH: AVG_N consecutive samples of a channel, each with its reference; the mean code goes to its point (R334). -/
def aiPublish (a : Nat) (samples : List (Nat × Nat)) (d : Dev) : Dev :=
  let n := clampN 1 4096 (d.rd FIO.AI_AVG_N a)
  if !d.powered 12 ∨ 32 ≤ a ∨ samples.length < n then d
  else
    let code (k : Nat) (p : Nat × Nat) : Nat := aiCode (d.rd FIO.AI_RANGE a) (Config.freeValue (d.freeSeq + k)) p.2 p.1
    let sum : Nat := ((List.range n).zip samples).foldl (fun s p => s + code p.1 p.2) 0
    let mean := (2 * sum + n) / (2 * n)
    let d := { d.waitUntil ((d.aiCh a).meanAt + n * aiStep a) with freeSeq := d.freeSeq + n }
    let d := d.setAiCh a { d.aiCh a with meanAt := d.now }
    (d.wr FIO.AI_CODE mean a).pointUpdate? (d.ioPoint 1 a) mean (if d.aiValid a then stValid else 0)

/-- AI_RANGE: a 4–20 mA code has stood for 10 ms: below 9,437 UNDER, above 55,049 OVER, else back in range (R335). -/
def aiRange (a code : Nat) (d : Dev) : Dev :=
  if !d.powered 12 ∨ 32 ≤ a ∨ d.rd FIO.AI_RANGE a ≠ 2 then d
  else
    let was := d.flag FIO.AI_UNDER a || d.flag FIO.AI_OVER a
    let under := decide (code < 9437)
    let past := decide (55049 < code)
    let d := (d.wr FIO.AI_UNDER (bit under) a).wr FIO.AI_OVER (bit past) a
    if (under || past) ∧ !was then ((d.pointInvalid (d.ioPoint 1 a)).cause FIO.EVT 4).raise Flt.AI_RANGE a
    else if was ∧ !(under || past) then d.recover Flt.AI_RANGE a
    else d

/-- AI_OVERCURRENT: above 25 mA for 1 ms: the shunt opens (R335). -/
def aiOvercurrent (a : Nat) (d : Dev) : Dev :=
  if !d.powered 12 ∨ 32 ≤ a ∨ d.rd FIO.AI_RANGE a ≠ 2 ∨ d.flag FIO.AI_SHUNT_OPEN a then d
  else (((d.setAiCh a { d.aiCh a with shuntAt := d.now }).wr FIO.AI_SHUNT_OPEN 1 a).cause FIO.EVT 5).raise Flt.AI_OVERCURRENT a

/-- SHUNT_RECLOSE: the shunt closes again after 1 s (R335). -/
def shuntReclose (a : Nat) (d : Dev) : Dev :=
  if d.flag FIO.AI_SHUNT_OPEN a then
    ((d.waitUntil ((d.aiCh a).shuntAt + second)).wr FIO.AI_SHUNT_OPEN 0 a).recover Flt.AI_OVERCURRENT a
  else d

/-- AI_SUPPLY_TRIP: SSA (0) or SSB (1) above 250 mA for 1 ms: it switches off, and its ratiometric channels lose VALID (R336). -/
def aiSupplyTrip (k : Nat) (d : Dev) : Dev :=
  if !d.powered 12 ∨ 2 ≤ k ∨ !(d.rd FIO.SS_ON).testBit k then d
  else
    let d := { d with fio := { d.fio with ssAt := tset k d.now d.fio.ssAt } }.wrBit FIO.SS_ON k false
    let d := forAll (List.range 32) (fun a d =>
      if d.rd FIO.AI_RANGE a = 3 ∧ d.rd FIO.AI_REF a = k then d.pointInvalid (d.ioPoint 1 a) else d) d
    (d.cause FIO.EVT 6).raise Flt.AI_SUPPLY k

/-- AI_SUPPLY_RETRY: the tripped supply is tried again after 1 s (R336). -/
def aiSupplyRetry (k : Nat) (d : Dev) : Dev :=
  if !d.powered 12 ∨ 2 ≤ k ∨ (d.rd FIO.SS_ON).testBit k then d
  else ((d.waitUntil ((tget? k d.fio.ssAt).getD 0 + second)).wrBit FIO.SS_ON k true).recover Flt.AI_SUPPLY k

/-! Impact counting. -/

/-- One sample `s` at µs `t` (R337). `open_` says that the sample counts when it passes. -/
def impactSample (sh thr hyst dead : Nat) (open_ : Bool) (t s : Int) (c : AiCh) : AiCh :=
  let b := c.base.getD s
  let b := b + ((s - b) >>> sh)
  let dist := (s - b).natAbs
  let hit := c.armed && decide (thr ≤ dist) && decide ((dead : Int) ≤ t - c.last) && open_
  let armed := if hit then false else c.armed
  { c with base := some b, count := if hit then c.count + 1 else c.count, last := if hit then t else c.last,
           armed := armed || decide (dist + hyst < thr) }

/-- The impact gate's state at an instant, from its changes newest first. -/
def gateAt (before : Bool) (l : List (Nat × Bool)) (t : Nat) : Bool := ((l.find? fun p => decide (p.1 ≤ t)).map (fun p => p.2)).getD before

/-- The samples of a period, 4 µs apart (R337). -/
def Dev.impactSamples (d : Dev) (a : Nat) (samples : List Nat) : AiCh :=
  let c0 := d.aiCh a
  let sh := Nat.max 1 (d.rd FIO.AI_IMP_BASE_SH a)
  let dead := Nat.max 4 (d.rd FIO.AI_IMP_DEAD_US a)
  let gated := d.flag FIO.AI_IMP_GATED a
  let c0 := if c0.base.isNone then { c0 with armed := true, last := -70000 } else c0
  ((List.range samples.length).zip samples).foldl (fun c p =>
    let t := c0.periodAt + 4000 * p.1
    impactSample sh (d.rd FIO.AI_IMP_THR a) (d.rd FIO.AI_IMP_HYST a) dead (!gated || gateAt c0.gateBefore c0.gates t) (t / 1000 : Nat) p.2 c) c0

/-- IMPACT_PERIOD: the samples of one IMP_PERIOD_MS are counted, and the count goes to the impact point and IMP_TOTAL (R337). -/
def impactPeriod (a : Nat) (samples : List Nat) (d : Dev) : Dev :=
  if !d.powered 12 ∨ 16 ≤ a ∨ !d.flag FIO.AI_IMP a then d
  else
    let c := d.impactSamples a samples
    let d := d.waitUntil (c.periodAt + Nat.max 1 (Nat.min 60000 (d.rd FIO.AI_IMP_PERIOD_MS a)) * ms)
    let n := satN 16 c.count
    let d := d.setAiCh a { c with count := 0, periodAt := d.now, gates := [], gateBefore := d.flag FIO.AI_GATE_OPEN a }
    ((d.wr FIO.AI_IMP_LAST n a).wr FIO.AI_IMP_TOTAL (d.rd FIO.AI_IMP_TOTAL a + c.count) a).pointUpdate? (d.ioPoint 2 a) n

/-- A scheduler issue opens or closes the impact gate of an AI channel (R337). -/
def Dev.impactGate (d : Dev) (a arg : Nat) : Dev :=
  let on := decide (arg % 2 = 1)
  (d.setAiCh a { d.aiCh a with gates := (d.now, on) :: (d.aiCh a).gates }).wr FIO.AI_GATE_OPEN (bit on) a

/-! Frequency inputs. -/

/-- The sense of a quadrature edge: from levels (A, B) to (A', B'); up when A leads (R338). -/
def quadUp (a b a' b' : Bool) : Bool := if a ≠ a' then decide (a' ≠ b) else decide (b' = a)

/-- A pulse on FI input `f` reaches the rotor angle where CR6 names that input as the RA source (R105). -/
def Dev.raCount (d : Dev) (f : Nat) (pair back : Bool) : Dev := if d.raInput = some (f, pair) then raPulse back d else d

/-- A count of pair `k` up or down, and the wheel pair or rotor it may serve (R338, R105, R106). -/
def Dev.quadCount (d : Dev) (k : Nat) (up : Bool) : Dev :=
  let d := d.wr FIO.FI_COUNT (if up then d.rd FIO.FI_COUNT (2 * k) + 1 else d.rd FIO.FI_COUNT (2 * k) + 2 ^ 32 - 1) (2 * k)
  let d := d.raCount (2 * k) true (!up)
  match d.fiRole (2 * k) with
  | some 0 => d.wheelEdge 0 up
  | some 1 => d.wheelEdge 1 up
  | _ => d

/-- An edge in QUAD: `both` when both filtered levels changed in one sample (R338). -/
def Dev.quadEdge (d : Dev) (f : Nat) (level both : Bool) : Dev :=
  let k := f / 2
  let a := (d.fiCh (2 * k)).level
  let b := (d.fiCh (2 * k + 1)).level
  if both then
    let d := (d.setFiCh (2 * k) { d.fiCh (2 * k) with level := !a, edge := some d.now }).setFiCh (2 * k + 1)
      { d.fiCh (2 * k + 1) with level := !b, edge := some d.now }
    ((d.count FIO.FI_QUAD_ERR (2 * k)).cause FIO.EVT 7).raise Flt.FI_QUAD_ERROR k
  else
    let up := if f % 2 = 0 then quadUp a b level b else quadUp a b a level
    (d.setFiCh f { d.fiCh f with level := level, edge := some d.now }).quadCount k up

/-- A rising edge in FREQUENCY or COUNT (R338). -/
def Dev.fiRise (d : Dev) (f : Nat) : Dev :=
  let c := d.fiCh f
  let d := d.setFiCh f { c with level := true, rise := some d.now, edge := some d.now }
  let d := (if d.fiRole f = some 2 then d.gssEdge else d).raCount f false false
  if d.rd FIO.FI_MODE f = 1 then
    match c.rise with
    | some t => d.wr FIO.FI_PERIOD (satN 32 ((d.now - t) / 4)) f
    | none => d
  else d.bump FIO.FI_COUNT f

/-- FI_EDGE: a level that has stood for `heldNs` reaches the counters once it has passed the glitch filter (R338). -/
def fiEdge (f : Nat) (level both : Bool) (heldNs : Nat) (d : Dev) : Dev :=
  let mode := d.rd FIO.FI_MODE (if d.rd FIO.FI_MODE (f / 2 * 2) = 3 then f / 2 * 2 else f)
  if !d.powered 12 ∨ 16 ≤ f ∨ heldNs < 32 * d.rd FIO.FI_GLITCH f ∨ mode = 0 then d
  else if mode = 3 then (if both ∨ (d.fiCh f).level ≠ level then d.quadEdge f level both else d)
  else if (d.fiCh f).level = level then d
  else if level then d.fiRise f
  else d.setFiCh f { d.fiCh f with level := false, edge := some d.now }

/-- The frequency of an input in Hz (R338). -/
def Dev.fiFreq (d : Dev) (f : Nat) : Nat :=
  let p := 4 * d.rd FIO.FI_PERIOD f
  let quiet : Bool := match (d.fiCh f).edge with
    | none => true
    | some t => decide (t + Nat.max 1 (d.rd FIO.FI_TMO_MS f) * ms ≤ d.now)
  if quiet ∨ p = 0 then 0 else satN 16 ((2 * second + p) / (2 * p))

/-- FI_PUBLISH: the next 1 ms instant, to the point CR1 names (R338). -/
def fiPublish (f : Nat) (d : Dev) : Dev :=
  if !d.powered 12 ∨ 16 ≤ f then d
  else
    let d := d.waitUntil (d.nextPeriod ms (d.fiCh f).publishedAt)
    let d := d.setFiCh f { d.fiCh f with publishedAt := some d.now }
    (d.wr FIO.FI_FREQ (d.fiFreq f) f).pointUpdate? (d.ioPoint 3 f) (d.fiFreq f)

/-- PD8 is powered: the sensor supplies are on (R336). -/
def Dev.fioPowerUp (d : Dev) : Dev := d.wr FIO.SS_ON 3

end Sys2Proof.Machine
end

