-- ==== Sys2Proof/Machine/Preg.lean ====
section
/-! DEFINITION. Machine/Preg.lean: the P-registers and their wear (R92 to R97). -/

namespace Sys2Proof.Machine

/-- The writer CR14 assigns to P-register `n`: 0 field cores, 1 Shoit, 2 + b block b; none where it assigns none (R93). The baseline of a
built blower has BLW as its writer (R344). -/
def Dev.pregWriter (d : Dev) (n : Nat) : Option Nat :=
  if 4032 ≤ n then some 1
  else match (d.itemsOf 14).findSome? fun it => match it with | .pregOwner k w => if k = n then some w else none | _ => none with
    | some w => some w
    | none => if (List.range 4).any fun c => d.flag BLW.CH_BUILT c && decide (d.rd BLW.CH_AGE_PREG c = n) then some 15 else none

/-- A master on the configuration bus may write P-register `n` (R93). -/
def Dev.pregMay (d : Dev) (n : Nat) (m : Master) : Bool :=
  match d.pregWriter n with
  | none => decide (m ≠ .loader)
  | some 0 => decide (m = .core)
  | some 1 => decide (m = .shoit)
  | some _ => false

/-- Counts one write of a cell; the counter is 40 bits (R92, R95). -/
def Dev.pregCount (d : Dev) (n : Nat) : Dev :=
  let c := (d.rd PREG.CNT_LO n + d.rd PREG.CNT_HI n * 2 ^ 32 + 1) % 2 ^ 40
  (d.wr PREG.CNT_LO (c % 2 ^ 32) n).wr PREG.CNT_HI (c / 2 ^ 32) n

/-- The write counter has reached the endurance of R95. -/
def Dev.pregSpent (d : Dev) (n : Nat) : Bool :=
  decide (10000000000 ≤ d.rd PREG.CNT_LO n + d.rd PREG.CNT_HI n * 2 ^ 32)

/-- Marks a P-register WORN (R94, R95). -/
def Dev.pregMarkWorn (d : Dev) (n : Nat) (early : Bool) : Dev :=
  let d := ((d.wr PREG.WORN 1 n).wr PREG.ANY_WORN 1).wr PREG.LAST_WORN n
  if early then d.wr PREG.EARLY 1 n else d

/-- FACTORY_KEY_ONLY: P-registers 4,032 to 4,079 are all zero; formed after every reset and with every write of them (chapter 3,
CFG_STAT). -/
def Dev.formKeyOnly (d : Dev) : Dev :=
  d.wr CFG.FACTORY_KEY_ONLY (bit ((List.range 48).all fun k => decide (d.rd PREG.P (4032 + k) = 0)))

/-- Stores a value in P-register `n`, counts it and reads it back (R92, R94, R95). `cell1` and `cell2` are what the cell holds
after the first and the second write where that differs from the value. -/
def Dev.pregStore (d : Dev) (n v : Nat) (cell1 cell2 : Option Nat := none) : Dev :=
  if d.flag PREG.WORN n then (d.wr PREG.WORN_WRITE 1).raise Flt.PREG_WORN n
  else
    let v := v % 2 ^ 32
    let d := (d.wr PREG.P v n).pregCount n
    let d := match cell1 with
      | none => d
      | some c1 =>
        if c1 % 2 ^ 32 = v then d
        else
          let d := d.pregCount n
          match cell2 with
          | none => d
          | some c2 => if c2 % 2 ^ 32 = v then d else (d.wr PREG.P c2 n).pregMarkWorn n true
    let d := if d.pregSpent n ∧ !d.flag PREG.WORN n then d.pregMarkWorn n false else d
    if 4032 ≤ n ∧ n < 4080 then d.formKeyOnly else d

/-- Block `b` writes P-register `n`: only where CR14 assigns it to that block, else as R18 gives for any other writer (R93). -/
def Dev.pregBlock (d : Dev) (b n v : Nat) : Dev :=
  if d.pregWriter n = some (b + 2) then d.pregStore n v else d.raise Flt.FLT_ACCESS

/-- PREG_WRITE: a 32-bit bus write to P-register `n` (R92 to R95). -/
def pregWrite (m : Master) (n v : Nat) (cell1 cell2 : Option Nat) (d : Dev) : Dev :=
  if 4096 ≤ n ∨ !d.powered 2 then d.busError
  else if d.pregMay n m then (d.pregStore n v cell1 cell2).busOk else d.violation

end Sys2Proof.Machine
end

