-- ==== Sys2Proof/Machine/Blw.lean ====
section
/-! DEFINITION. Machine/Blw.lean: blowers (chapter 13, R339 to R345). -/

namespace Sys2Proof.Machine

/-- Hidden state of blower `c`. -/
def Dev.bl (d : Dev) (c : Nat) : BlwCh := tget c d.blw.chs
def Dev.setBl (d : Dev) (c : Nat) (x : BlwCh) : Dev := { d with blw := { d.blw with chs := tset c x d.blw.chs } }

/-- Blower states (Table 13.5). -/
def blOff : Nat := 0
def blKick : Nat := 1
def blRun : Nat := 2
def blOpen : Nat := 3
def blWait : Nat := 4
def blLatched : Nat := 5
def blGated : Nat := 6

/-- The blower exists and is powered. -/
def Dev.blHere (d : Dev) (c : Nat) : Bool := decide (c < 4) && d.flag BLW.CH_BUILT c && d.powered 13

/-- V_FULL in mV (R339). -/
def Dev.vFull (d : Dev) : Nat := Nat.min 24000 (10 * d.rd SYS.VPWRB - 1000)

/-- The voltage a state drives without control (Table 13.5, R343). -/
def Dev.blDrive (d : Dev) (c st : Nat) : Nat :=
  if st = blKick ∨ st = blOpen then d.vFull else if st = blGated then 100 * d.rd BLW.CH_SAFE_V c else 0

/-- Puts a blower in a state with the output that state drives. -/
def Dev.blPut (d : Dev) (c st : Nat) : Dev :=
  let d := d.setBl c { d.bl c with kickAt := if st = blKick then d.now else (d.bl c).kickAt,
                                   waitAt := if st = blWait then d.now else (d.bl c).waitAt,
                                   runAt := if st = blRun then d.now else (d.bl c).runAt,
                                   tachFrom := none, steadyFrom := none }
  (d.wr BLW.CH_STATE st c).wr BLW.CH_V_OUT (d.blDrive c st) c

/-- Piecewise-linear conversion by 17 points at codes 0, 4,096 … 65,536 (R340). -/
def table17 (t : List Int) (code : Nat) : Int :=
  let k := code / 4096
  let a := t.getD k 0
  let b := t.getD (k + 1) a
  a + divAway ((b - a) * (code % 4096 : Nat)) 4096

/-- The table of a blower's AI sensor. -/
def Dev.blTable (d : Dev) (c : Nat) : List Int :=
  ((d.itemsOf 4).findSome? fun it => match it with | .blwTable k t => if k = c then some t else none | _ => none).getD []

/-- TEMP_HI as it acts: at or below TEMP_LO it acts as TEMP_LO + 1 (chapter 13, +0x08). -/
def Dev.tempHi (d : Dev) (c : Nat) : Int :=
  let lo := d.rdS BLW.CH_TEMP_LO c
  let hi := d.rdS BLW.CH_TEMP_HI c
  if hi ≤ lo then lo + 1 else hi

/-- The temperature source: 0.1 °C, or none when it is bad (R340). -/
def Dev.blTemp (d : Dev) (c : Nat) : Option Int :=
  let src := d.rd BLW.CH_TEMP_SRC c
  if src < 32 then
    let code := d.rd FIO.AI_CODE src
    let lost : Bool := match d.ioPoint 1 src with | some p => d.pointLost p | none => false
    if code < 1311 ∨ 64224 < code ∨ lost then none else some (table17 (d.blTable c) code)
  else if d.flag THM.INVALID (src - 64) then none
  else some (d.rdS THM.USED (src - 64))

/-- The percentage of RPM_MAX the curve gives, times (TEMP_HI − TEMP_LO) (R340). -/
def curvePart (lo hi mn mx t : Int) : Int := mn * (hi - lo) + (mx - mn) * clampI 0 (hi - lo) (t - lo)

/-- The target speed in rpm (R340, R344). -/
def Dev.blTarget (d : Dev) (c : Nat) (t : Int) : Nat :=
  let pct (f : Fld) : Nat := Nat.min 100 (d.rd f c)
  let rmax := d.rd BLW.CH_RPM_MAX c
  if !d.flag BLW.EN then 0
  else if d.rd BLW.CH_COMM_RESULT c = 1 then d.rd BLW.CH_AGE_REF_RPM c
  else if !d.flag BLW.CH_ON c then 0
  else if d.flag BLW.CH_MODE c then rmax * pct BLW.CH_SPD_SET / 100
  else
    let lo := d.rdS BLW.CH_TEMP_LO c
    let hi := d.tempHi c
    (divAway (rmax * curvePart lo hi (pct BLW.CH_SPD_MIN) (pct BLW.CH_SPD_MAX) t) (100 * (hi - lo).toNat)).toNat

/-- PI control of one period: the new accumulator and drive in mV (R340). -/
def blowerPi (target rpm kp ki vfull acc : Int) : Int × Nat :=
  let e := target - rpm
  let acc := clampI 0 (vfull * 256) (acc + ki * e)
  (acc, (clampI 0 vfull (divAway (kp * e + acc) 256)).toNat)

/-- RUN begins: the integrator is preset so that the output equals V_FULL × target ÷ RPM_MAX (R339). -/
def Dev.blToRun (d : Dev) (c target : Nat) : Dev :=
  let rmax := Nat.max 1 (d.rd BLW.CH_RPM_MAX c)
  let u := Nat.min d.vFull (d.vFull * target / rmax)
  let d := d.blPut c blRun
  (d.setBl c { d.bl c with acc := (u * 256 : Nat), lastTach := d.now }).wr BLW.CH_V_OUT u c

/-- TACH_LOST clears with the tach back (Table 13.7). -/
def Dev.blTachBack (d : Dev) (c : Nat) : Dev :=
  if d.flag BLW.CH_TACH_LOST c then (d.wr BLW.CH_TACH_LOST 0 c).recover Flt.BLW_TACH_LOST c else d

/-- The temperature is read; a bad sensor reads as TEMP_HI (R340). -/
def Dev.blReadTemp (d : Dev) (c : Nat) : Dev × Int :=
  match d.blTemp c with
  | some t => ((d.wr BLW.CH_SENSOR_BAD 0 c).wrSat BLW.CH_TEMP t c, t)
  | none =>
    let was := d.flag BLW.CH_SENSOR_BAD c
    let d := (d.wr BLW.CH_SENSOR_BAD 1 c).wrSat BLW.CH_TEMP (d.tempHi c) c
    (if was then d else d.cause BLW.EVT 6, d.tempHi c)

/-- The measured speed is within 2 % of AGE_REF_RPM (R344). -/
def Dev.blSteady (d : Dev) (c rpm : Nat) : Bool :=
  let r := d.rd BLW.CH_AGE_REF_RPM c
  decide (49 * r ≤ 50 * rpm) && decide (50 * rpm ≤ 51 * r)

/-- Ten steady seconds have passed, with their mean drive (R344). -/
def Dev.blSteadyDone (d : Dev) (c : Nat) : Option Nat :=
  let x := d.bl c
  match x.steadyFrom with
  | some t => if t + 10 * second ≤ d.now ∧ 0 < x.driveN then some ((2 * x.driveSum + x.driveN) / (2 * x.driveN)) else none
  | none => none

/-- Steadiness at AGE_REF_RPM is followed in RUN while the target is AGE_REF_RPM (R344). -/
def Dev.blWatchSteady (d : Dev) (c target rpm u : Nat) : Dev :=
  let x := d.bl c
  if target = d.rd BLW.CH_AGE_REF_RPM c ∧ d.blSteady c rpm then
    match x.steadyFrom with
    | none => d.setBl c { x with steadyFrom := some d.now, driveSum := u, driveN := 1 }
    | some _ => d.setBl c { x with driveSum := x.driveSum + u, driveN := x.driveN + 1 }
  else d.setBl c { x with steadyFrom := none }

/-- A period in RUN (R340, R341). -/
def Dev.blPeriodRun (d : Dev) (c target rpm : Nat) : Dev :=
  if target = 0 then d.blPut c blOff
  else
    let x := d.bl c
    let (acc, u) := blowerPi target rpm (d.rd BLW.CH_KP c) (d.rd BLW.CH_KI c) d.vFull x.acc
    let d := (d.setBl c { x with acc := acc }).wr BLW.CH_V_OUT u c
    let d := if x.runAt + 60 * second ≤ d.now then d.wr BLW.CH_ATTEMPTS 0 c else d
    d.blWatchSteady c target rpm u

/-- A period in OPEN-LOOP: RUN after tach edges without a break for 1 s (Table 13.5). -/
def Dev.blPeriodOpen (d : Dev) (c target : Nat) (tach : Bool) : Dev :=
  let x := d.bl c
  if !tach then (d.setBl c { x with tachFrom := none }).wr BLW.CH_V_OUT d.vFull c
  else
    match x.tachFrom with
    | none => (d.setBl c { x with tachFrom := some d.now }).wr BLW.CH_V_OUT d.vFull c
    | some t => if t + second ≤ d.now then (d.blTachBack c).blToRun c target else d.wr BLW.CH_V_OUT d.vFull c

/-- The speed in rpm of a tach whose last two edges came `gap` ns apart, with PPR edges a revolution (R340); 0 where
no second edge has come. -/
def Dev.blRpm (d : Dev) (c gap : Nat) : Nat :=
  let p := Nat.max 1 (d.rd BLW.CH_PPR c) * gap
  if p = 0 then 0 else (120 * second + p) / (2 * p)

/-- One blower's period: the last two tach edges came `gap` ns apart (0: no two have come), the last one `age` ns ago; `ma` is measured.
The tach responds when they are less than 100 ms apart (R339). -/
def Dev.blPeriod (d : Dev) (c gap age ma : Nat) : Dev :=
  let tach := decide (0 < gap ∧ gap < 100 * ms ∧ age < 100 * ms)
  let rpm := if age < clampN 100 10000 (d.rd BLW.CH_TACH_TMO_MS c) * ms then d.blRpm c gap else 0
  let d := (d.wr BLW.CH_RPM (satN 16 rpm) c).wr BLW.CH_I_OUT (satN 16 ma) c
  let d := if 0 < gap then d.setBl c { d.bl c with lastTach := Nat.max (d.bl c).lastTach (d.now - age) } else d
  let (d, t) := d.blReadTemp c
  let target := d.blTarget c t
  let st := d.rd BLW.CH_STATE c
  if (d.rd BLW.WD_FULL).testBit c ∧ !d.blw.wdKicked then d.wr BLW.CH_V_OUT d.vFull c
  else if (d.rd BLW.WD_FULL).testBit c ∧ target = 0 then (d.wrBit BLW.WD_FULL c false).blPut c blOff
  else if (d.rd BLW.WD_FULL).testBit c ∧ st = blRun then (d.wrBit BLW.WD_FULL c false).blToRun c target
  else
    let d := d.wrBit BLW.WD_FULL c false
    if st = blOff then (if target = 0 then d.wr BLW.CH_V_OUT 0 c else d.blPut c blKick)
    else if st = blKick then (if tach then (d.blTachBack c).blToRun c target else d.wr BLW.CH_V_OUT d.vFull c)
    else if st = blRun then d.blPeriodRun c target rpm
    else if st = blOpen then d.blPeriodOpen c target tach
    else d

/-- BLOWER_PERIOD: the next 10 ms control period of every built blower; waiting writes take effect (R339, R340, Table 3.6). -/
def blowerPeriod (gap age ma : List Nat) (d : Dev) : Dev :=
  if !d.powered 13 then d
  else
    let d := (d.waitUntil (d.nextPeriod (10 * ms) d.blw.periodAt)).boundary 13 0
    let d := forAll ((List.range 4).filter fun c => d.flag BLW.CH_BUILT c)
      (fun c d => d.blPeriod c (gap.getD c 0) (age.getD c 0) (ma.getD c 0)) d
    { d with blw := { d.blw with wdKicked := false, periodAt := some d.now } }

/-- A blower latches with a cause bit: 0 BLOCKED, 1 SHORT, 2 OPEN (Table 13.5). -/
def Dev.blLatch (d : Dev) (c k : Nat) : Dev :=
  ((d.wrBit BLW.CH_CAUSE k true c).wrBit BLW.WD_FULL c false).blPut c blLatched

/-- A blocked attempt: BLOCK-WAIT, or LATCHED at the third in a row (R341, R342). -/
def Dev.blBlocked (d : Dev) (c : Nat) : Dev :=
  let n := d.rd BLW.CH_ATTEMPTS c + 1
  let d := (d.wr BLW.CH_ATTEMPTS (Nat.min 3 n) c).wrBit BLW.WD_FULL c false
  ((if 3 ≤ n then d.blLatch c 0 else d.blPut c blWait).cause BLW.EVT 0).raise Flt.BLW_BLOCKED c

/-- The tach is judged lost (R341, R342). -/
def Dev.blTachLost (d : Dev) (c : Nat) : Dev :=
  (((d.blPut c blOpen).wr BLW.CH_TACH_LOST 1 c).cause BLW.EVT 1).raise Flt.BLW_TACH_LOST c

/-- KICK_TIMEOUT: 3 s of KICK without a tach response; `ma` is the mean current of the last 100 ms (R341). -/
def kickTimeout (c ma : Nat) (d : Dev) : Dev :=
  if !d.blHere c ∨ d.rd BLW.CH_STATE c ≠ blKick then d
  else
    let d := d.waitUntil ((d.bl c).kickAt + 3 * second)
    if d.rd BLW.CH_BLOCK_MA c ≤ ma then d.blBlocked c
    else if ma < d.rd BLW.CH_OPEN_MA c then ((d.blLatch c 2).cause BLW.EVT 2).raise Flt.BLW_OPEN c
    else d.blTachLost c

/-- BLOCK_WAIT_END: 30 s in BLOCK-WAIT: KICK again (R339). -/
def blockWaitEnd (c : Nat) (d : Dev) : Dev :=
  if !d.blHere c ∨ d.rd BLW.CH_STATE c ≠ blWait then d
  else ((d.waitUntil ((d.bl c).waitAt + 30 * second)).blPut c blKick).recover Flt.BLW_BLOCKED c

/-- TACH_TIMEOUT: no tach edge for TACH_TMO_MS in RUN (R342). -/
def tachTimeout (c ma : Nat) (d : Dev) : Dev :=
  if !d.blHere c ∨ d.rd BLW.CH_STATE c ≠ blRun then d
  else
    let d := d.waitUntil ((d.bl c).lastTach + clampN 100 10000 (d.rd BLW.CH_TACH_TMO_MS c) * ms)
    if d.rd BLW.CH_BLOCK_MA c ≤ ma then d.blBlocked c else d.blTachLost c

/-- BLOWER_SHORT: the current limit for 10 ms, in RUN or OPEN-LOOP (R342). -/
def blowerShort (c : Nat) (d : Dev) : Dev :=
  if d.blHere c ∧ (d.rd BLW.CH_STATE c = blRun ∨ d.rd BLW.CH_STATE c = blOpen) then
    ((d.blLatch c 1).cause BLW.EVT 3).raise Flt.BLW_SHORT c
  else d

/-- The watchdog restarts (R343). -/
def Dev.blwRestart (d : Dev) : Dev :=
  let full := decide (d.rd BLW.WD_FULL ≠ 0)
  let d := { d with blw := { d.blw with wdFrom := d.now, wdKicked := d.blw.wdKicked || full } }
  if full then d.recover Flt.BLW_WATCHDOG else d

/-- BLW_WD_KICK: 0x5A restarts the watchdog; other values are ignored (R343). -/
def blwWdKick (v : Nat) (d : Dev) : Dev := if v = 0x5A then d.blwRestart else d

/-- BLOWER_WATCHDOG_EXPIRY: WD_MS without a restart: the channels in OFF, KICK, RUN and OPEN-LOOP drive V_FULL (R343). -/
def blowerWatchdogExpiry (d : Dev) : Dev :=
  if !d.powered 13 ∨ !d.flag BLW.EN ∨ d.rd BLW.WD_MS = 0 ∨ (d.rd BLW.WD_FULL ≠ 0 ∧ !d.blw.wdKicked) then d
  else
    let d := d.waitUntil (d.blw.wdFrom + d.rd BLW.WD_MS * ms)
    let l := (List.range 4).filter fun c => d.flag BLW.CH_BUILT c && decide (d.rd BLW.CH_STATE c ≤ blOpen)
    let d := forAll l (fun c d => (d.wrBit BLW.WD_FULL c true).wr BLW.CH_V_OUT d.vFull c) d
    ({ d with blw := { d.blw with wdKicked := false } }.cause BLW.EVT 4).raise Flt.BLW_WATCHDOG

/-- A latched blower is released: CAUSE and ATTEMPTS clear (R339, R341). -/
def Dev.blRelease (d : Dev) (c : Nat) : Dev :=
  let cs := d.rd BLW.CH_CAUSE c
  let d := forAll [(0, Flt.BLW_BLOCKED), (1, Flt.BLW_SHORT), (2, Flt.BLW_OPEN)]
    (fun p d => if cs.testBit p.1 then d.recover p.2 c else d) (d.wr BLW.CH_CAUSE 0 c)
  if d.rd BLW.CH_STATE c = blLatched then d.blPut c (if (d.rd BLW.GATE).testBit c then blOff else blGated) else d

/-- BLOWER_REARM: releases a LATCHED blower and clears ATTEMPTS (R341). -/
def blowerRearm (c : Nat) (d : Dev) : Dev :=
  if d.blHere c then (d.wr BLW.CH_ATTEMPTS 0 c).blRelease c else d

/-- COMMISSION: accepted only in SERVICE; holds the target at AGE_REF_RPM (R344). -/
def commission (c : Nat) (d : Dev) : Dev :=
  if d.blHere c ∧ d.mode = 4 then
    (d.setBl c { d.bl c with commAt := d.now, steadyFrom := none }).wr BLW.CH_COMM_RESULT 1 c
  else d

/-- COMMISSION_DONE: ten steady seconds write the baseline; 60 s without them fail (R344). -/
def commissionDone (c : Nat) (d : Dev) : Dev :=
  if !d.blHere c ∨ d.rd BLW.CH_COMM_RESULT c ≠ 1 then d
  else match d.blSteadyDone c with
    | some m =>
      let p := d.rd BLW.CH_AGE_PREG c
      let d := (d.wr BLW.CH_DRIVE_MEAN_MV m c).pregBlock 13 p m
      let was := d.flag BLW.CH_AGEING c
      let d := ((d.wr BLW.CH_BASELINE_MV (d.rd PREG.P p) c).wr BLW.CH_AGEING 0 c).wr BLW.CH_COMM_RESULT 2 c
      if was then d.recover Flt.BLW_AGEING c else d
    | none => (d.waitUntil ((d.bl c).commAt + 60 * second)).wr BLW.CH_COMM_RESULT 3 c

/-- AGEING_CHECK: ten steady seconds at AGE_REF_RPM: above baseline × 1.15 sets AGEING (R344). -/
def ageingCheck (c : Nat) (d : Dev) : Dev :=
  if !d.blHere c ∨ d.rd BLW.CH_STATE c ≠ blRun then d
  else match d.blSteadyDone c with
    | none => d
    | some m =>
      let d := (d.wr BLW.CH_DRIVE_MEAN_MV m c).setBl c { d.bl c with steadyFrom := none }
      let base := d.rd BLW.CH_BASELINE_MV c
      if base ≠ 0 ∧ base * 115 < 100 * m ∧ !d.flag BLW.CH_AGEING c then
        ((d.wr BLW.CH_AGEING 1 c).cause BLW.EVT 5).raise Flt.BLW_AGEING c
      else d

/-- Table 13.6: MODE, SPD_MIN, SPD_MAX, SPD_SET, TEMP_LO, TEMP_HI, KP, KI, TACH_TMO_MS. -/
def blwPresetRow (v : Nat) : Option (List Nat) :=
  match v with
  | 0 => some [0, 30, 100, 100, 400, 650, 256, 16, 500]
  | 1 => some [1, 30, 100, 100, 400, 650, 256, 16, 500]
  | 2 => some [0, 20, 80, 80, 450, 700, 192, 12, 1000]
  | _ => none

/-- The fields of Table 13.6, in its order. -/
def blwPresetFields : List Fld :=
  [BLW.CH_MODE, BLW.CH_SPD_MIN, BLW.CH_SPD_MAX, BLW.CH_SPD_SET, BLW.CH_TEMP_LO, BLW.CH_TEMP_HI, BLW.CH_KP, BLW.CH_KI, BLW.CH_TACH_TMO_MS]

/-- BLW_PRESET_WRITE: 3 is ignored unless the image defines it (R345, R90). -/
def blwPreset (c v : Nat) (d : Dev) : Dev :=
  let v := v % 4
  let row := (blwPresetRow v).map fun r => r.map some
  if row.isNone ∧ !d.definesPreset BLW.CH_BLW_PRESET c v then d
  else forAll (blwPresetFields.zip (row.getD (blwPresetFields.map fun _ => none)))
    (fun p d => d.expand BLW.CH_BLW_PRESET c v p.1 c 0 p.2) (d.wr BLW.CH_BLW_PRESET v c)

/-- EN is written: from 0 to 1 the watchdog restarts and LATCHED blowers are released; at 0 the blowers stop (R339, R343). -/
def blwEnable (on : Bool) (d : Dev) : Dev :=
  let was := d.flag BLW.EN
  let d := d.wr BLW.EN (bit on)
  let l := (List.range 4).filter fun c => d.flag BLW.CH_BUILT c
  if on ∧ !was then forAll l (fun c d => d.blRelease c) d.blwRestart
  else if !on ∧ was then
    let d := if d.rd BLW.WD_FULL ≠ 0 then d.recover Flt.BLW_WATCHDOG else d
    forAll l (fun c d => if d.rd BLW.CH_STATE c < blLatched then d.blPut c blOff else d) (d.wr BLW.WD_FULL 0)
  else d

/-- The gate of a blower is opened or closed (R21, Table 13.5). A LATCHED blower stays latched. -/
def Dev.blGate (d : Dev) (c : Nat) (opened : Bool) : Dev :=
  if (d.rd BLW.GATE).testBit c = opened then d
  else
    let d := d.wrBit BLW.GATE c opened
    if !d.flag BLW.CH_BUILT c ∨ d.rd BLW.CH_STATE c = blLatched then d
    else if opened then
      let (d, t) := d.blReadTemp c
      d.blPut c (if d.blTarget c t = 0 then blOff else blKick)
    else (d.wrBit BLW.WD_FULL c false).blPut c blGated

/-- PD8 is powered: the built blowers stand behind closed gates, the watchdog starts, baselines come from MRAM (R21, R343, R344). -/
def Dev.blwPowerUp (d : Dev) : Dev :=
  forAll ((List.range 4).filter fun c => d.flag BLW.CH_BUILT c)
    (fun c d => (d.blPut c blGated).wr BLW.CH_BASELINE_MV (d.rd PREG.P (d.rd BLW.CH_AGE_PREG c)) c)
    { d with blw := { d.blw with wdFrom := d.now } }

end Sys2Proof.Machine
end

