-- ==== Sys2Proof/Machine/Gates.lean ====
section
/-! DEFINITION. Machine/Gates.lean: the output gates of every channel (R21, R40). -/

namespace Sys2Proof.Machine

/-- The gate of FC pin `k` is opened or closed (R21, R392). -/
def Dev.fcGate (d : Dev) (k : Nat) (opened : Bool) : Dev := (d.wrBit QUE.FC_GATE k opened).driveFc k

/-- A channel's gate is open (R21). -/
def Dev.gateOpen (d : Dev) (c : Chan) : Bool :=
  match c with
  | .ls n => d.rdPair LSW.GATE_LO LSW.GATE_HI n
  | .vd n => (d.rd VDR.GATE).testBit n
  | .io n => d.rdPair FIO.GATE_LO FIO.GATE_HI n
  | .bl n => (d.rd BLW.GATE).testBit n
  | .fc n => (d.rd QUE.FC_GATE).testBit n

/-- GATE_WRITE: the Shoit island opens or closes a gate; the channel takes its safe state or resumes its command (R21). -/
def Dev.setGate (d : Dev) (c : Chan) (opened : Bool) : Dev :=
  match c with
  | .ls n => d.lsGate n opened
  | .vd n => d.vdGate n opened
  | .io n => d.ioGate n opened
  | .bl n => d.blGate n opened
  | .fc n => d.fcGate n opened

/-- Every gated output channel of the module (R21). -/
def allChans : List Chan :=
  (List.range 64).map Chan.ls ++ (List.range 32).map Chan.vd ++ (List.range 64).map Chan.io ++ (List.range 4).map Chan.bl
    ++ (List.range 16).map Chan.fc

end Sys2Proof.Machine
end

