-- ==== Sys2Proof/Machine/Ctl.lean ====
section
/-! DEFINITION. Machine/Ctl.lean: the loop engine (chapter 7, R185 to R209). -/

namespace Sys2Proof.Machine

/-- Hidden state of slot `s`. -/
def Dev.lp (d : Dev) (s : Nat) : LoopCh := tget s d.ctl.slots
def Dev.setLp (d : Dev) (s : Nat) (c : LoopCh) : Dev := { d with ctl := { d.ctl with slots := tset s c d.ctl.slots } }

/-- Slot states of Table 7.4. -/
def lpOff : Nat := 0
def lpRun : Nat := 1
def lpHold : Nat := 2
def lpRamp : Nat := 3
def lpTripped : Nat := 4

/-! Arithmetic (R192 to R194). Saturating operations carry whether they saturated. -/

/-- A Q30 value with the saturations met on the way. -/
abbrev Q30 := Int × Bool

/-- Saturation to 40 bits (R193). -/
def sat40 (x : Int) : Q30 := (clampI (-(2 ^ 39 : Nat)) ((2 ^ 39 : Nat) - 1) x, decide (x < -(2 ^ 39 : Nat) ∨ ((2 ^ 39 : Nat) : Int) ≤ x))

/-- Saturation to Q15 (R194). -/
def sat15 (x : Int) : Int := clampI (-32768) 32767 x

/-- Q30 to Q15, to nearest, ties away from zero (R194). -/
def round15 (a : Int) : Int := sat15 (divAway a 32768)

/-- A gain product (R193, R194). -/
def gmul (m : Int) (e : Nat) (x : Int) : Q30 := sat40 (m * x * (2 ^ Nat.min 9 e : Nat))

/-- x moved toward y by at most r; r 0 sets no limit (R195). -/
def moveToward (x y : Int) (r : Nat) : Int := if r = 0 then y else clampI (x - r) (x + r) y

/-- The half coefficients of a notch (R196). -/
def Notch.coefs (n : Notch) : List Int := [n.b0, n.b1, n.b2, n.a1, n.a2]

/-- One notch on an input, with its states first preset to it where `preset` (R196, R197). -/
def Notch.run (n : Notch) (preset : Bool) (x : Int) : Notch × Int :=
  let n := if preset ∨ !n.on then { n with x1 := x, x2 := x, y1 := x, y2 := x } else n
  if !n.on then (n, x)
  else
    let acc := (sat40 (n.b0 * x + n.b1 * n.x1 + n.b2 * n.x2 - n.a1 * n.y1 - n.a2 * n.y2)).1
    let y := round15 (sat40 (2 * acc)).1
    ({ n with x2 := n.x1, x1 := x, y2 := n.y1, y1 := y }, y)

/-- Both notches in turn. -/
def LoopCh.notches (c : LoopCh) (preset1 preset2 : Bool) (x : Int) : LoopCh × Int :=
  let (a, y) := c.n1.run preset1 x
  let (b, z) := c.n2.run preset2 y
  ({ c with n1 := a, n2 := b }, z)

/-- A notch's coefficients as the registers hold them, with the states of `old`. -/
def Dev.notchRegs (d : Dev) (s : Nat) (old : Notch) (en b0 b1 b2 a1 a2 : Fld) : Notch :=
  { old with on := d.flag en s, b0 := d.rdS b0 s, b1 := d.rdS b1 s, b2 := d.rdS b2 s, a1 := d.rdS a1 s, a2 := d.rdS a2 s }

/-- The gain set of a region as the registers hold it (R199). -/
def Dev.gainsOf (d : Dev) (s r : Nat) : Gains :=
  ⟨d.rdS CTL.G_KP_M s r, d.rdS CTL.G_KI_M s r, d.rdS CTL.G_KD_M s r, d.rdS CTL.G_KFF_M s r,
   d.rd CTL.G_KP_E s r, d.rd CTL.G_KI_E s r, d.rd CTL.G_KD_E s r, d.rd CTL.G_KFF_E s r⟩

/-- BOUND of region `r` as it acts: not below the bound of region r − 1 (R199). -/
def Dev.boundOf (d : Dev) (s : Nat) : Nat → Int
  | 0 => -32768
  | r + 1 => max (d.boundOf s r) (d.rdS CTL.G_BOUND s (r + 1))

/-- The target region upward from `r` (R199); `n` bounds the steps. -/
def regionUp (bound : Nat → Int) (h v : Int) : Nat → Nat → Nat
  | 0, r => r
  | n + 1, r => if r < 7 ∧ bound (r + 1) + h ≤ v then regionUp bound h v n (r + 1) else r

/-- The target region downward from `r` (R199). -/
def regionDown (bound : Nat → Int) (h v : Int) : Nat → Nat
  | 0 => 0
  | r + 1 => if v < bound (r + 1) - h then regionDown bound h v r else r + 1

/-- The target region of R199. -/
def targetRegion (bound : Nat → Int) (h v : Int) (r : Nat) : Nat := regionDown bound h v (regionUp bound h v 7 r)

/-! Inputs and outputs. -/

/-- A slot reads a point: unsigned 16-bit shifted right by one (R189). -/
def Dev.loopIn (d : Dev) (n : Nat) : Int :=
  match d.pointRow n with
  | some (.u16, _, _) => ((d.point n).value / 2 : Nat)
  | _ => sgn 16 (d.point n).value

/-- The gate of the channel that consumes the slot's output is closed (R191). -/
def Dev.loopGated (d : Dev) (s : Nat) : Bool :=
  (d.itemsOf 9).any fun it => match it with
    | .loopConsumer k c => decide (k = s) && !d.gateOpen c
    | _ => false

/-- Writes STATE, REGION, BLENDING, the integrator and the counts of slots (R209). -/
def Dev.loopShow (d : Dev) (s : Nat) : Dev :=
  let c := d.lp s
  let i := enc 40 c.i
  ((((((d.wr CTL.S_STATE c.st s).wr CTL.S_REGION c.region s).wr CTL.S_BLENDING (bit c.blend.isSome) s).wr CTL.S_I_LO (i % 2 ^ 32) s).wr
    CTL.S_I_HI (i / 2 ^ 32) s).wr CTL.S_GATED (bit c.gated) s)

/-- RUNNING, NOT_RUN and TRIP_STAT (R209). -/
def Dev.loopCounts (d : Dev) : Dev :=
  let l := d.ctl.slots.filter fun p => d.flag CTL.S_BUILT p.1
  let run := (l.filter fun p => decide (p.2.st = lpRun)).length
  let notRun := (l.filter fun p => decide (lpHold ≤ p.2.st)).length
  let grp := forAll (List.range 15) (fun g m => m + bit (l.any fun p => decide (p.2.st = lpTripped ∧ d.rd CTL.S_TRIP_GROUP p.1 = g)) * 2 ^ g) 0
  ((d.wr CTL.RUNNING run).wr CTL.NOT_RUN notRun).wr CTL.TRIPPED grp

/-- Step 1 of base tick `k`: the output computed in the last tick is published with the tick's MT as its STAMP (Table 7.2, R189). -/
def Dev.loopPublish (d : Dev) (k s : Nat) : Dev :=
  match (d.lp s).out with
  | none => d
  | some (v, status) =>
    let d := d.setLp s { d.lp s with out := none }
    let w := if d.flag CTL.S_OUT_U16 s then (2 * (if v < 0 then 0 else v)).toNat else enc 16 v
    (d.pointUpdateAt (d.rd CTL.S_OUT_DST s) (k * baseTick) w status).wr CTL.S_OUT (enc 16 v) s

/-! One run (R195). -/

/-- The setpoint before the rate limit, whether its point is lost, and whether its gain product saturated (R193, R195, Table 7.3). -/
def Dev.loopSpin (d : Dev) (s : Nat) (c : LoopCh) : Int × Bool × Bool :=
  if d.flag CTL.SP_PT s then
    let p := d.rd CTL.SP_SRC s
    if d.pointLost p then (c.spPrev, true, false)
    else
      let g := gmul (d.rdS CTL.S_SP_GAIN_M s) (d.rd CTL.S_SP_GAIN_E s) (d.loopIn p)
      (round15 g.1, false, g.2)
  else (d.rdS CTL.S_SP s, false, false)

/-- The target region at this run; the region in force where SCHED is lost or unused (R199, Table 7.3). -/
def Dev.loopTarget (d : Dev) (s : Nat) (c : LoopCh) (start : Bool) : Nat :=
  let p := d.rd CTL.SCHED_SRC s
  if !d.flag CTL.SCHED_USED s then 0
  else if d.pointLost p then c.region
  else
    let b := d.boundOf s
    if start then targetRegion b 0 (d.loopIn p) 0 else targetRegion b (d.rdS CTL.S_HYST s) (d.loopIn p) c.region

/-- Begins a blend, or changes the set at once (R200). -/
def LoopCh.begin (c : LoopCh) (n r : Nat) (g : Gains) : LoopCh :=
  { c with region := r, gains := g, blend := if n = 0 then none else some (c.gains, 0) }

/-- The region and gain set for this run (R199 to R201), and what begins: 0 nothing, 1 the blend to a new set of the same region, 2 a
region change. -/
def Dev.loopRegion (d : Dev) (s : Nat) (c : LoopCh) (start : Bool) : LoopCh × Nat :=
  let t := d.loopTarget s c start
  let n := d.rd CTL.S_BLEND_N s
  if start then ({ c with region := t, gains := d.gainsOf s t, blend := none }, 0)
  else if c.blend.isSome then (c, 0)
  else if t ≠ c.region then (c.begin n t (d.gainsOf s t), 2)
  else if d.gainsOf s t ≠ c.gains then (c.begin n t (d.gainsOf s t), bit (n ≠ 0))
  else (c, 0)

/-- A term during a blend: run `j` of `n` (R200). -/
def blendTerm (old new : Q30) (j n : Nat) : Q30 :=
  let w := divAway (32768 * (j : Int)) n
  let r := sat40 (old.1 + divAway ((new.1 - old.1) * w) 32768)
  (r.1, r.2 || old.2 || new.2)

/-- A term in force: the set's own, or blended with the old set's (R200). -/
def LoopCh.term (c : LoopCh) (n : Nat) (f : Gains → Q30) : Q30 :=
  match c.blend with
  | none => f c.gains
  | some (old, j) => blendTerm (f old) (f c.gains) (j + 1) n

/-- Limits the feed-forward term (R195). -/
def limitF (mx : Nat) (x : Q30) : Q30 := (clampI (-(mx * 32768 : Nat)) (mx * 32768 : Nat) x.1, x.2)

/-- The feed-forward term and its lost state (R195, Table 7.3). -/
def Dev.loopF (d : Dev) (s : Nat) (c : LoopCh) : LoopCh × Q30 × Bool :=
  let n := d.rd CTL.S_BLEND_N s
  let p := d.rd CTL.FF_SRC s
  if !d.flag CTL.FF_USED s then (c, (0, false), false)
  else if d.pointLost p then
    if !d.flag CTL.S_FF_LOSS s then (c, (c.fPrev, false), true)
    else
      let (from_, j) := c.ffFall.getD (c.fPrev, 0)
      let f : Q30 := if n ≤ j then (0, false) else blendTerm (from_, false) (0, false) (j + 1) n
      ({ c with ffFall := some (from_, Nat.min n (j + 1)) }, f, true)
  else
    let f := c.term n fun g => limitF (d.rd CTL.S_FF_MAX s) (gmul g.kff g.ef (d.loopIn p))
    ({ c with ffFall := none }, f, false)

/-- A blend run is done. At its end the slot acts on the target found at that run, and takes up a swap that waited; `d` holds the values
in force after it (R200, R201). The answer is as that of `loopRegion`. -/
def Dev.loopBlendDone (d : Dev) (n s : Nat) (c : LoopCh) (target : Nat) : LoopCh × Nat :=
  match c.blend with
  | none => (c, 0)
  | some (old, j) =>
    if j + 1 < n then ({ c with blend := some (old, j + 1) }, 0)
    else
      let c := { c with blend := none, old := [] }
      let n := d.rd CTL.S_BLEND_N s
      let g := d.gainsOf s target
      if target ≠ c.region then (c.begin n target g, 2) else if g ≠ c.gains then (c.begin n target g, bit (n ≠ 0)) else (c, 0)

/-- OUT_MAX as it acts: not below OUT_MIN (chapter 7, +0x0C). -/
def Dev.outMax (d : Dev) (s : Nat) : Int := max (d.rdS CTL.S_OUT_MIN s) (d.rdS CTL.S_OUT_MAX s)

/-- The output of HOLD, RAMP and TRIPPED (Table 7.4). -/
def Dev.loopParked (d : Dev) (s st : Nat) (outPrev : Int) : Int :=
  if st = lpHold then outPrev else moveToward outPrev (d.rdS CTL.S_SAFE_VAL s) (Nat.max 1 (d.rd CTL.S_RAMP_STEP s))

/-- What one computation gives: the slot after it, the error, u, the limited output, and the flags. -/
structure LoopOut where
  c : LoopCh
  e : Int
  u : Int
  ul : Int
  sat : Bool
  spLost : Bool
  ffLost : Bool
  /-- A region change began; blends begun (R200). -/
  region : Bool
  blends : Nat

/-- The proportional, integral and derivative terms (R195). -/
def Dev.loopTerms (d : Dev) (s : Nat) (c : LoopCh) (e dv : Int) : Q30 × Q30 × Q30 :=
  let n := d.rd CTL.S_BLEND_N s
  (c.term n fun g => gmul g.kp g.ep e, c.term n fun g => gmul g.ki g.ei e, c.term n fun g => gmul g.kd g.ed dv)

/-- The filtered derivative input (R195). -/
def derivative (da dvPrev dlt : Int) : Int := if da = 0 then dlt else round15 (dvPrev * 32768 + da * (dlt - dvPrev))

/-- The integral and the output from the terms: I_prev, I, the sum before notches; nothing is added to the integrator behind a closed
gate (R191, R195, R205). -/
def loopSum (start gated : Bool) (c : LoopCh) (p ii dd f : Q30) : Q30 × Q30 × Q30 :=
  let iPrev : Q30 := if start then sat40 (c.outPrev * 32768 - p.1 - dd.1 - f.1) else (c.i, false)
  let i := if gated then iPrev else sat40 (iPrev.1 + ii.1)
  (iPrev, i, sat40 (p.1 + i.1 + dd.1 + f.1))

/-- A slot as a start leaves it: dv_prev 0 and out_prev at the output point (R197). -/
def Dev.loopBegin (d : Dev) (s : Nat) (c : LoopCh) : LoopCh := { c with outPrev := d.loopIn (d.rd CTL.S_OUT_DST s), dvPrev := 0 }

/-- The computation of R195, with the start of R197 and R205 where `start`, and that of R197 alone where new notch coefficients of a swap
are taken up. `d0` holds the values in force once a swap that waits is taken up (R201). -/
def Dev.loopCompute (d d0 : Dev) (s : Nat) (start gated : Bool) : LoopOut :=
  let c0 := d.lp s
  let fresh := start || c0.fresh
  let c0 := if fresh then d.loopBegin s c0 else c0
  let c0 := if start then { c0 with fe := 0, ffFall := none } else c0
  let nu := d.notchRegs s c0.n1 CTL.N1_EN CTL.N1_B0 CTL.N1_B1 CTL.N1_B2 CTL.N1_A1 CTL.N1_A2
  let nv := d.notchRegs s c0.n2 CTL.N2_EN CTL.N2_B0 CTL.N2_B1 CTL.N2_B2 CTL.N2_A1 CTL.N2_A2
  let pre1 := fresh || decide (nu.coefs ≠ c0.n1.coefs)
  let pre2 := fresh || decide (nv.coefs ≠ c0.n2.coefs)
  let c0 := { c0 with n1 := nu, n2 := nv, fresh := false }
  let (spin, spLost, spSat) := d.loopSpin s c0
  let c0 := if fresh then { c0 with spPrev := spin } else c0
  let sp := moveToward c0.spPrev spin (d.rd CTL.S_SP_RATE s)
  let raw := d.loopIn (d.rd CTL.PV_SRC s)
  let (c0, pv) := if d.flag CTL.S_NOTCH_POS s then c0.notches pre1 pre2 raw else (c0, raw)
  let c0 := if fresh then { c0 with pvPrev := pv } else c0
  let target := d.loopTarget s c0 start
  let (c1, began) := d.loopRegion s c0 start
  let e := sat15 (sp - pv)
  let dv := derivative (d.rdS CTL.S_DA s) c1.dvPrev (sat15 (c1.pvPrev - pv))
  let (p, ii, dd) := d.loopTerms s c1 e dv
  let (c2, f, ffLost) := d.loopF s c1
  let (iPrev, i, sum) := loopSum start gated c2 p ii dd f
  let u0 := round15 sum.1
  let (c2, u) := if d.flag CTL.S_NOTCH_POS s then (c2, u0) else c2.notches pre1 pre2 u0
  let ul := moveToward c2.outPrev (clampI (d.rdS CTL.S_OUT_MIN s) (d.outMax s) u) (d.rd CTL.S_OUT_RATE s)
  let kept := if (ul < u ∧ 0 < ii.1) ∨ (u < ul ∧ ii.1 < 0) then iPrev.1 else i.1
  let (c3, again) := d0.loopBlendDone (d.rd CTL.S_BLEND_N s) s c2 target
  { c := { c3 with i := kept, pvPrev := pv, dvPrev := dv, spPrev := sp, outPrev := ul, fPrev := f.1 }
    e := e, u := u, ul := ul
    sat := spSat || p.2 || ii.2 || dd.2 || f.2 || iPrev.2 || i.2 || sum.2
    spLost := spLost, ffLost := ffLost, region := decide (began = 2 ∨ again = 2), blends := bit (began ≠ 0) + bit (again ≠ 0) }

/-- The following-error timer after a run in RUN (R203): its new value, and whether it fires. -/
def Dev.loopFe (d : Dev) (s fe : Nat) (e : Int) : Nat × Bool :=
  let lim := d.rd CTL.S_FE_LIMIT s
  let t := clampN 1 60000 (d.rd CTL.S_FE_TIME_MS s) * ms
  if lim ≠ 0 ∧ lim < e.natAbs then
    let fe := fe + Nat.max 1 (d.rd CTL.S_DIV s) * baseTick
    (fe, decide (t ≤ fe))
  else (0, false)

/-- The causes a run gives, as bits of `LoopWas.causes`. -/
def LoopOut.causes (o : LoopOut) (pvFell : Bool) : Nat := bit (o.ul ≠ o.u) + 2 * bit o.region + 4 * bit pvFell

/-- The cause fields behind those bits. -/
def loopCauseFields : List Fld := [CTL.EVT_SAT, CTL.EVT_REGION, CTL.EVT_INPUT_LOST]

/-- Flags of a run that the registers show (R209). -/
def Dev.loopFlags (d : Dev) (s : Nat) (o : LoopOut) (pvLost : Bool) : Dev :=
  let schedLost := d.flag CTL.SCHED_USED s && d.pointLost (d.rd CTL.SCHED_SRC s)
  let d := ((((d.wr CTL.S_PV_LOST (bit pvLost) s).wr CTL.S_SP_LOST (bit o.spLost) s).wr CTL.S_FF_LOST (bit o.ffLost) s).wr
    CTL.S_SCHED_LOST (bit schedLost) s).wr CTL.S_ERR (enc 16 o.e) s
  let d := (d.wr CTL.S_SAT_HI (bit (o.ul < o.u)) s).wr CTL.S_SAT_LO (bit (o.u < o.ul)) s
  let d := if o.sat then d.wr CTL.S_ACC_SAT 1 s else d
  forAll (List.range o.blends) (fun _ d => d.count CTL.S_REGION_CHANGES s) d

/-- The causes of a run are set in CTL_EVT. -/
def Dev.loopCause (d : Dev) (m : Nat) : Dev :=
  forAll ((List.range 3).zip loopCauseFields) (fun p d => if m.testBit p.1 then d.cause p.2 else d) d

/-- CTL-INPUT-LOST follows the loss of PV (Table 7.3). -/
def Dev.loopPvLost (d : Dev) (s : Nat) (was now : Bool) : Dev :=
  if now ∧ !was then d.raise Flt.CTL_INPUT_LOST s
  else if was ∧ !now then d.recover Flt.CTL_INPUT_LOST s
  else d

/-- What a run leaves: the state of the slot after its computation; the integrator moves in RUN alone (R191, R195, R202, R203). -/
def Dev.loopAfter (d : Dev) (s : Nat) (st : Nat) (gated pvLost : Bool) (before : LoopCh) (o : LoopOut) : LoopCh :=
  let status := if gated then stValid + stGated else stValid
  if st = lpRun then
    let (fe, due) := d.loopFe s o.c.fe o.e
    { o.c with st := lpRun, start := false, gated := gated, fe := fe, fire := due || pvLost, out := some (o.ul, status) }
  else
    let out := d.loopParked s st before.outPrev
    { o.c with st := st, start := false, gated := gated, i := before.i, outPrev := out, fire := false, out := some (out, status) }

/-- A register field of slot `s` itself: its slot, notch or gain registers (R209). -/
def slotKey (s k : Nat) : Bool := decide (keyBlock k = 6 ∧ elemOf 6 (k / 32) = s + 1)

/-- A register field of slot `s` that its runs form: STATE to REGION_CHANGES (R209). -/
def slotStatus (s k : Nat) : Bool :=
  slotKey s k && decide (k / 32 % 0x10000 < 0x5000 ∧ 0x20 ≤ k / 32 % 0x40 ∧ k / 32 % 0x40 < 0x34)

/-- The notch and following-error fields, which a swap brings in at a slot's next period start even while a blend runs (R201). -/
def atOnceKey (k : Nat) : Bool :=
  let o := k / 32 % 0x10000
  decide ((0x5000 ≤ o ∧ o < 0x7000) ∨ (0x1000 ≤ o ∧ o < 0x5000 ∧ (o % 0x40 = 0x14 ∨ (o % 0x40 = 0 ∧ k % 32 = CTL.S_FE_ACTION.lo))))

/-- The device as slot `s` sees it: fields of a swap it has yet to take up have their old values (R201). -/
def Dev.slotView (d : Dev) (s : Nat) : Dev := { d with regs := (d.lp s).old.foldl (fun r p => tset p.1 p.2 r) d.regs }

/-- At a period start slot `s` takes a swap up: at once what R201 says, the rest where no blend runs. A field-core write that comes into force
in its place ends the wait of its field. -/
def Dev.slotTakeUp (d : Dev) (s : Nat) : Dev :=
  let c := d.lp s
  let written (k : Nat) : Bool := (tget? k d.wait).isSome
  let notches := c.old.any fun p => decide (0x5000 ≤ p.1 / 32 % 0x10000 ∧ p.1 / 32 % 0x10000 < 0x7000)
  let old := if c.blend.isNone then [] else c.old.filter fun p => !atOnceKey p.1 && !written p.1
  (d.setLp s { c with old := old, fresh := c.fresh || notches }).boundary 6 (s + 1)

/-- One whole run of a slot (R187, R195): a slot that starts enters RUN. -/
def Dev.loopRun (d : Dev) (s : Nat) : Dev :=
  let was : LoopWas := ⟨d.lp s, d.regs.filter fun p => slotStatus s p.1, 0, d.ctl.reload.contains s⟩
  let d := d.slotTakeUp s
  let before := d.lp s
  let gated := d.loopGated s
  let st := if before.start then lpRun else before.st
  let start := before.start || (before.gated && !gated && decide (st = lpRun))
  let pvLost := d.pointLost (d.rd CTL.PV_SRC s)
  let wasLost := d.flag CTL.S_PV_LOST s
  let o := (d.slotView s).loopCompute d s start gated
  let m := o.causes (pvLost && !wasLost)
  let d := { d with ctl := { d.ctl with
    before := tset s { was with causes := m } d.ctl.before
    reload := if o.c.old = [] then d.ctl.reload.filter fun k => decide (k ≠ s) else d.ctl.reload } }
  let d := if before.start ∧ before.st ≠ lpRun then d.recover Flt.CTL_FOLLOWING s else d
  ((((d.setLp s (d.loopAfter s st gated pvLost before o)).loopFlags s o pvLost).loopCause m).loopPvLost s wasLost pvLost).loopShow s

/-- The slot is due in base tick `k` (R185). -/
def Dev.loopDue (d : Dev) (s k : Nat) : Bool :=
  let div := Nat.max 1 (d.rd CTL.S_DIV s)
  decide ((k + 1024 * div - d.rd CTL.S_PHASE s) % div = 0)

/-- The built slots that run. -/
def Dev.loopSlots (d : Dev) : List Nat :=
  (List.range 256).filter fun s => d.flag CTL.S_BUILT s && d.flag CTL.S_EN s

/-- Trips a slot in RUN or HOLD (R203, R204); a run of this tick takes the output of its new state. -/
def Dev.loopTo (d : Dev) (s st : Nat) : Dev :=
  let c := d.lp s
  let d := match tget? s d.ctl.before with
    | some b =>
      let out := d.loopParked s st b.ch.outPrev
      d.setLp s { c with st := st, fire := c.fire && decide (st = lpTripped), fe := 0, i := b.ch.i, outPrev := out,
                         out := some (out, if c.gated then stValid + stGated else stValid) }
    | none => d.setLp s { c with st := st, fire := false, fe := 0 }
  d.loopShow s

/-- Trips a group: every slot of it in RUN or HOLD (R203). -/
def Dev.tripGroup (d : Dev) (g : Nat) : Dev :=
  forAll ((List.range 256).filter fun s => d.flag CTL.S_BUILT s && decide (d.rd CTL.S_TRIP_GROUP s = g)
      && decide ((d.lp s).st = lpRun ∨ (d.lp s).st = lpHold)) (fun s d => d.loopTo s lpTripped) d

/-- The FE_ACTION of a slot that is due to fire (R203, R204). -/
def Dev.fireAction (d : Dev) (s : Nat) : Dev :=
  let act := d.rd CTL.S_FE_ACTION s
  let tripped := decide ((d.lp s).st = lpTripped)
  let d := d.setLp s { d.lp s with fire := false, fe := 0 }
  if tripped ∧ act ≠ 3 then d
  else
    let d := ((d.count CTL.S_FE_COUNT s).cause CTL.EVT_FE_FIRED).raise Flt.CTL_FOLLOWING s
    match act with
    | 0 => d.loopTo s lpHold
    | 1 => d.loopTo s lpRamp
    | 2 => if d.rd CTL.S_TRIP_GROUP s = 15 then d.loopTo s lpRamp else d.tripGroup (d.rd CTL.S_TRIP_GROUP s)
    | _ => (d.loopTo s lpRamp).raise Flt.CTL_FE_SAFE s

/-- The slots due to fire, ascending (R204). -/
def Dev.firing (d : Dev) : List Nat := (d.ctl.slots.filter fun p => p.2.fire).map fun p => p.1

/-- FE_ACTION_FIRE: the lowest slot whose timer has reached FE_TIME_MS, or whose PV is lost, fires (R203, R204). -/
def feActionFire (d : Dev) : Dev :=
  match d.firing with
  | [] => d
  | s :: _ => (d.fireAction s).loopCounts

/-- Cycles of one run (Table 7.1). -/
def Dev.loopCost (d : Dev) (s : Nat) (blend : Bool) : Nat :=
  48 + (if blend then 40 else 20) + (if blend then 48 else 24) + (if d.flag CTL.FF_USED s then (if blend then 24 else 12) else 0)
    + 16 * bit (d.flag CTL.N1_EN s) + 16 * bit (d.flag CTL.N2_EN s) + (if d.flag CTL.SCHED_USED s then 8 else 0)

/-- The cycles a processor used in a tick, into its peak (chapter 7, CTL_LOAD). -/
def Dev.loopPeak (d : Dev) (l : List Nat) (proc : Nat) (f : Fld) : Dev :=
  let sum : Nat := ((l.filter fun s => decide (d.rd CTL.S_PROC s = proc)).map fun s => d.loopCost s (d.lp s).blend.isSome).foldl (· + ·) 0
  if d.rd f < sum then d.wr f (satN 16 sum) else d

/-- The next base tick has come: its number (R185). -/
def Dev.toLoopTick (d : Dev) : Dev × Nat :=
  let d := d.waitMt (d.ctl.tick * baseTick)
  let k := d.mt / baseTick
  ({ d with ctl := { d.ctl with tick := k + 1 } }, k)

/-- EVT.RELOAD once every slot has taken a CR10 swap up (chapter 7, CTL_EVT). -/
def Dev.reloadDone (d : Dev) (was : List Nat) : Dev := if was ≠ [] ∧ d.ctl.reload = [] then d.cause CTL.EVT_RELOAD else d

/-- Step 1 of base tick `k`: every output computed in the last tick is published (Table 7.2). -/
def Dev.loopPublishAll (k : Nat) (d : Dev) : Dev := forAll (d.ctl.slots.map fun p => p.1) (fun s d => d.loopPublish k s) d

/-- What a built slot due in a tick does: one that runs is computed; one that does not has its period start (R185, Table 3.6). -/
def Dev.slotDue (d : Dev) (s : Nat) : Dev := if d.flag CTL.S_EN s then d.loopRun s else d.slotTakeUp s

/-- The causes of `LoopWas.causes` that stand in CTL_EVT. -/
def Dev.loopCauses (d : Dev) : Nat := bit (d.flag CTL.EVT_SAT) + 2 * bit (d.flag CTL.EVT_REGION) + 4 * bit (d.flag CTL.EVT_INPUT_LOST)

/-- The rest of base tick `k`: written trips, the slots due, and what the registers show (R187, R204). -/
def Dev.loopRuns (k : Nat) (d : Dev) : Dev :=
  let d := { d with ctl := { d.ctl with before := [], causesWere := d.loopCauses } }
  let d := forAll (maskBits 15 d.ctl.trips) (fun g d => d.tripGroup g) d
  let d := { d with ctl := { d.ctl with trips := 0 } }.boundary 6 0
  let due := if d.flag CTL.EN then (List.range 256).filter fun s => d.flag CTL.S_BUILT s && d.loopDue s k else []
  let was := d.ctl.reload
  let d := forAll due (fun s d => d.slotDue s) d
  let ran := due.filter fun s => d.flag CTL.S_EN s
  ((((d.reloadDone was).loopPeak ran 0 CTL.PEAK0).loopPeak ran 1 CTL.PEAK1).loopCounts)

/-- The next base tick has come, with the actions still due from the last one taken (R203, R204). -/
def Dev.loopTickBegin (d : Dev) : Dev × Nat := (forAll d.firing (fun s d => d.fireAction s) d).toLoopTick

/-- LOOP_TICK: outputs of the last tick are published, due slots sampled and computed (R187, Table 7.2). -/
def loopTick (d : Dev) : Dev :=
  if !d.powered 6 ∨ !d.running then d else (d.loopTickBegin.1.loopPublishAll d.loopTickBegin.2).loopRuns d.loopTickBegin.2

/-- A slot's run is undone: its state and its registers are as they were, and its previous output is published again (R188). -/
def Dev.loopUndo (d : Dev) (s : Nat) (b : LoopWas) : Dev :=
  let c := b.ch
  let d := { d with regs := b.regs.foldl (fun r (p : Nat × Nat) => tset p.1 p.2 r) (d.regs.filter fun p => !slotStatus s p.1) }
  let d := if b.reload ∧ !d.ctl.reload.contains s then { d with ctl := { d.ctl with reload := s :: d.ctl.reload } } else d
  let d := if b.causes.testBit 2 then d.recover Flt.CTL_INPUT_LOST s else d
  d.setLp s { c with out := some (c.outPrev, if c.gated then stValid + stGated else stValid) }

/-- LOOP_OVERRUN: the slots not completed 45 µs after the tick publish their previous output again, their state left as it was
(R188). The causes that remain are those that stood before the tick and those of the slots that completed. -/
def loopOverrun (slots : List Nat) (d : Dev) : Dev :=
  let undone := d.ctl.before.filter fun p => slots.contains p.1
  let done := d.ctl.before.filter fun p => !slots.contains p.1
  let stay (k : Nat) : Bool := d.ctl.causesWere.testBit k || done.any fun p => p.2.causes.testBit k
  let d := forAll undone (fun p d => d.loopUndo p.1 p.2) { d with ctl := { d.ctl with before := done } }
  let d := forAll ((List.range 3).zip loopCauseFields) (fun p d => if stay p.1 ∨ !undone.any (fun u => u.2.causes.testBit p.1) then d else d.wr p.2 0) d
  ((d.loopCounts.count CTL.OVERRUNS).cause CTL.EVT_OVERRUN).raise Flt.CTL_OVERRUN

/-- CTL_TRIP: the groups named are tripped at the next base tick (R204). -/
def ctlTrip (mask : Nat) (d : Dev) : Dev := { d with ctl := { d.ctl with trips := Nat.lor d.ctl.trips (mask % 2 ^ 15) } }

/-- RESUME: a slot in HOLD, RAMP or TRIPPED returns to RUN at its next run; ignored while PV is lost (R205). -/
def loopResume (s : Nat) (d : Dev) : Dev :=
  let c := d.lp s
  if c.st < lpHold then d
  else if d.pointLost (d.rd CTL.PV_SRC s) then d.wr CTL.S_RESUME_REFUSED 1 s
  else d.setLp s { c with start := true }

/-- A slot goes OFF: SAFE_VAL is written once, at the next base tick (Table 7.4, R206); it has no swap left to take up. -/
def Dev.loopToOff (d : Dev) (s : Nat) : Dev :=
  let c := d.lp s
  if c.st = lpOff ∧ !c.start then d
  else
    let v := d.rdS CTL.S_SAFE_VAL s
    let was := d.ctl.reload
    let d := { d with ctl := { d.ctl with reload := was.filter fun k => decide (k ≠ s) } }.reloadDone was
    (d.setLp s { c with
      st := lpOff, start := false, fire := false, fe := 0, blend := none, outPrev := v, out := some (v, stValid), old := [], fresh := false }).loopShow s

/-- The slot starts at its next run (R197, R206). -/
def Dev.loopToStart (d : Dev) (s : Nat) : Dev :=
  if d.flag CTL.S_BUILT s then d.setLp s { d.lp s with start := true } else d

/-- SLOT_ENABLE_WRITE: EN of a slot (R206). -/
def slotEnable (s : Nat) (on : Bool) (d : Dev) : Dev :=
  let was := d.flag CTL.S_EN s
  let d := d.wr CTL.S_EN (bit on) s
  (if on ∧ !was ∧ d.flag CTL.EN then d.loopToStart s else if !on then d.loopToOff s else d).loopCounts

/-- The loop engine's EN is written; LOOP_ENGINE_DISABLE writes 0: every slot goes OFF (R206). -/
def loopEngineEnable (on : Bool) (d : Dev) : Dev :=
  let was := d.flag CTL.EN
  let d := d.wr CTL.EN (bit on)
  (if on ∧ !was then forAll d.loopSlots (fun s d => d.loopToStart s) d
   else if !on then forAll (d.ctl.slots.map fun p => p.1) (fun s d => d.loopToOff s) d
   else d).loopCounts

/-- A setpoint is written by a field core, a Sluice action or a scheduler issue; ignored where the setpoint comes from a point
(R198). -/
def Dev.loopSetpoint (d : Dev) (s v : Nat) : Dev :=
  if d.flag CTL.SP_PT s then d.wr CTL.CLAMPED 1 else d.wr CTL.S_SP v s

/-- Table 7.5: FE_LIMIT, FE_TIME_MS, FE_ACTION, BLEND_N, RAMP_STEP, FF_LOSS. -/
def supPresetRow (v : Nat) : List Nat :=
  match v with
  | 0 => [0x0CCD, 500, 0, 16, 0x0052, 0]
  | 1 => [0x0666, 200, 1, 8, 0x00A4, 1]
  | 2 => [0x1999, 2000, 0, 32, 0x0052, 0]
  | _ => [0x0666, 100, 3, 8, 0x00A4, 1]

/-- The fields of Table 7.5, in its order. -/
def supPresetFields : List Fld :=
  [CTL.S_FE_LIMIT, CTL.S_FE_TIME_MS, CTL.S_FE_ACTION, CTL.S_BLEND_N, CTL.S_RAMP_STEP, CTL.S_FF_LOSS]

/-- SUP_PRESET_WRITE (R207). -/
def supPreset (s v : Nat) (d : Dev) : Dev :=
  let v := v % 4
  forAll (supPresetFields.zip (supPresetRow v)) (fun p d => d.expand CTL.S_SUP_PRESET s v p.1 s 0 (some p.2))
    (d.wr CTL.S_SUP_PRESET v s)

/-- The worst case of one run (Table 7.1). -/
def slotWorst : Nat := 200

/-- The worst-case cycles of a base tick on a processor exceed 22,500 (R186). -/
def Dev.loopTooMuch (d : Dev) : Bool :=
  let l := (List.range 256).filter fun s => d.flag CTL.S_BUILT s
  let span := l.foldl (fun m s => Nat.lcm m (Nat.max 1 (d.rd CTL.S_DIV s))) 1
  (List.range span).any fun k => [0, 1].any fun proc =>
    decide (22500 < slotWorst * (l.filter fun s => decide (d.rd CTL.S_PROC s = proc) && d.loopDue s k).length)

/-- A CR10 swap, `was` and `d` being the device before it and with the new content: each slot that runs has yet to take it up (R201), and a
changed EN acts as R206 gives. -/
def Dev.ctlSwap (was d : Dev) : Dev :=
  let slots := if d.flag CTL.EN then was.loopSlots.filter fun s => d.flag CTL.S_EN s else []
  let old (s : Nat) : RegFile := ((was.regs ++ d.regs).map fun p => p.1).eraseDups.filterMap fun k =>
    match fieldOfKey k with
    | some (f, i, j) => if slotKey s k ∧ was.rd f i j ≠ d.rd f i j ∧ (f.acc = .rws) then some (k, was.rd f i j) else none
    | none => none
  let d := forAll slots (fun s d => let c := d.lp s; d.setLp s { c with old := c.old.foldl (fun r p => tset p.1 p.2 r) (old s) }) d
  let d := { d with ctl := { d.ctl with reload := slots } }
  let d := if slots = [] then d.cause CTL.EVT_RELOAD else d
  let changed := (List.range 256).filter fun s => decide (was.flag CTL.S_EN s ≠ d.flag CTL.S_EN s)
  let d := forAll changed (fun s d => slotEnable s (d.flag CTL.S_EN s) (d.wr CTL.S_EN (bit (was.flag CTL.S_EN s)) s)) d
  if was.flag CTL.EN = d.flag CTL.EN then d else loopEngineEnable (d.flag CTL.EN) (d.wr CTL.EN (bit (was.flag CTL.EN)))

end Sys2Proof.Machine
end

