-- ==== Sys2Proof/Machine/Path.lean ====
section
/-! DEFINITION. Machine/Path.lean: predicted paths, section geometry and the coverage map (chapter 5, R127 to R137). -/

namespace Sys2Proof.Machine

/-! Angles are in 2^-32 revolution, clockwise from north; sines in Q30 (assumption 12). -/

/-- The sine of an angle up to a quarter revolution (2^30), Q30. -/
def sinQuarter (a : Nat) : Int :=
  let x : Int := ((a : Int) * 1686629713) >>> 30
  let x2 := (x * x) >>> 30
  let one : Int := 1073741824
  let t := one - x2 / 110
  let t := one - ((x2 * t) >>> 30) / 72
  let t := one - ((x2 * t) >>> 30) / 42
  let t := one - ((x2 * t) >>> 30) / 20
  let t := one - ((x2 * t) >>> 30) / 6
  (x * t) >>> 30

/-- The sine of an angle, Q30. -/
def sinQ (a : Nat) : Int :=
  let a := a % 2 ^ 32
  let r := a % 2 ^ 30
  match a / 2 ^ 30 with
  | 0 => sinQuarter r
  | 1 => sinQuarter (2 ^ 30 - r)
  | 2 => -sinQuarter r
  | _ => -sinQuarter (2 ^ 30 - r)

/-- The cosine of an angle, Q30. -/
def cosQ (a : Nat) : Int := sinQ (a + 2 ^ 30)

/-- A pose: east and north in µm, heading. -/
structure Pose where
  e : Int
  n : Int
  h : Nat
  deriving DecidableEq, Repr

/-- The turn to the left, in 2^-32 revolution, over `s` (0.1 mm) at curvature `k` (10^-6 per m). -/
def turnOf (k s : Int) : Int := divAway (k * s * 683565275576) 10000000000000

/-- Turns a heading to the left. -/
def turnLeft (h : Nat) (a : Int) : Nat := (((h : Int) - a) % (2 ^ 32 : Nat)).toNat

/-- Moves a pose forward and to the left, µm. -/
def Pose.move (p : Pose) (fwd left : Int) : Pose :=
  { p with e := p.e + (fwd * sinQ p.h - left * cosQ p.h) >>> 30, n := p.n + (fwd * cosQ p.h + left * sinQ p.h) >>> 30 }

/-- The chord in µm of an arc of `s` (0.1 mm) at curvature `k`. -/
def chord (k s : Int) : Int :=
  let x := k * s
  if x.natAbs < 2000000000 then 100 * s - 100 * s * (x / 100000) * (x / 100000) / 240000000000
  else divAway (2 * 1000000000000 * sinQ (((turnOf k s).natAbs) / 2) * (if s < 0 then -1 else 1)) (k.natAbs * 1073741824)

/-- The pose after `s` (0.1 mm) along an arc of curvature `k` (R130). -/
def Pose.arc (p : Pose) (k s : Int) : Pose :=
  let a := turnOf k s
  let mid := ({ p with h := turnLeft p.h (a / 2) } : Pose).move (chord k s) 0
  { mid with h := turnLeft p.h a }

/-- The machine pose of a path at an MD (R130). -/
def Path.at (p : Path) (md : Int) : Pose := (⟨p.east, p.north, p.heading⟩ : Pose).arc p.curv (md - p.md0)

/-- What CR7 builds of implement `i`: reference point and drawbar length in mm (Table 5.1). -/
def Dev.implRec (d : Dev) (i : Nat) : Int × Int × Nat :=
  ((d.itemsOf 7).findSome? fun it => match it with
    | .implement k x y l => if k = i then some (x, y, l) else none
    | _ => none).getD (0, 0, 500)

/-- A section as CR7 builds it (Table 5.2). -/
structure SecRec where
  impl : Nat
  x : Int
  y : Int
  width : Nat
  sw : Dest
  rate : Option Nat

/-- The record of section `s` (Table 5.2). -/
def Dev.secRec (d : Dev) (s : Nat) : Option SecRec :=
  (d.itemsOf 7).findSome? fun it => match it with
    | .section_ k i x y w sw r => if k = s then some ⟨i, x, y, w, sw, r⟩ else none
    | _ => none

/-- Implement `i` is TRAILED (Table 5.1). -/
def Dev.trailed (d : Dev) (i : Nat) : Bool := decide (d.rd LAH.IMP_TYPE i = 2)

/-- The sections of implement `i`, ascending (R127). -/
def Dev.sectionsOf (d : Dev) (i : Nat) : List Nat :=
  if d.rd LAH.IMP_TYPE i = 0 then [] else (List.range (d.rd LAH.IMP_SEC_COUNT i)).map fun k => d.rd LAH.IMP_FIRST_SEC i + k

/-- The built implements. -/
def Dev.impls (d : Dev) : List Nat := (List.range 8).filter fun i => decide (d.rd LAH.IMP_TYPE i ≠ 0)

/-- Puts an implement behind those whose sections are numbered lower. -/
def Dev.bySection (d : Dev) (i : Nat) : List Nat → List Nat
  | [] => [i]
  | k :: t => if d.rd LAH.IMP_FIRST_SEC i < d.rd LAH.IMP_FIRST_SEC k then i :: k :: t else k :: d.bySection i t

/-- Every built section, ascending. -/
def Dev.sections (d : Dev) : List Nat := (d.impls.foldl (fun l i => d.bySection i l) []).flatMap fun i => d.sectionsOf i

/-- The hitch point of an implement at a machine pose. -/
def hitchAt (rx ry : Int) (p : Pose) : Pose := p.move (1000 * rx) (1000 * ry)

/-- One step of single-pivot trailer kinematics: the hitch moves from `a` to `b`, the axle follows `l` mm behind (R130). -/
def trailStep (l : Nat) (h : Nat) (a b : Pose) : Nat :=
  let lat := ((b.n - a.n) * sinQ h - (b.e - a.e) * cosQ h) >>> 30
  turnLeft h (divAway (lat * 683565275576) (1000000 * Nat.max 1 l))

/-- The trailer's heading along a path, in steps of 100 mm from `md` to `to` (R130); `n` bounds the steps. -/
def trailAlong (path : Path) (rx ry : Int) (l : Nat) (goal : Int) : Nat → Int → Nat → Nat
  | 0, _, h => h
  | n + 1, md, h =>
    if goal ≤ md then h
    else
      let nx := min goal (md + 1000)
      trailAlong path rx ry l goal n nx (trailStep l h (hitchAt rx ry (path.at md)) (hitchAt rx ry (path.at nx)))

/-- The reference point and heading of implement `i` on a path at an MD (R130). -/
def Dev.implAt (d : Dev) (i : Nat) (path : Path) (md : Int) : Pose :=
  let (rx, ry, l) := d.implRec i
  let hp := hitchAt rx ry (path.at md)
  if d.trailed i then
    let h := trailAlong path rx ry l md ((md - path.md0).toNat / 1000 + 1) path.md0 path.trail
    ({ hp with h := h } : Pose).move (-(1000 * l : Nat)) 0
  else hp

/-- The centre of a section on a path at an MD. -/
def Dev.secAt (d : Dev) (r : SecRec) (path : Path) (md : Int) : Pose := (d.implAt r.impl path md).move (1000 * r.x) (1000 * r.y)

/-- The path ratio of a section in 10^-9 (R132). -/
def Dev.pathRatio (d : Dev) (r : SecRec) (path : Path) (md : Int) : Int :=
  if d.trailed r.impl then
    let a := d.secAt r path md
    let b := d.secAt r path (md + 1000)
    (((b.e - a.e) * sinQ a.h + (b.n - a.n) * cosQ a.h) >>> 30) * 10000
  else 1000000000 - ((d.implRec r.impl).2.1 + r.y) * path.curv

/-- The distance in 0.1 mm the machine travels in `msec` ms at a speed in 2^-8 mm/s. -/
def travel (msec : Nat) (v : Int) : Int := divAway (v * msec) 25600

/-- The MD at which the section's distance has `back` (0.1 mm) left to that at `md`: steps of 100 mm (R141); `n` bounds the
steps. -/
def Dev.backAlong (d : Dev) (r : SecRec) (path : Path) : Nat → Int → Int → Int
  | 0, md, _ => md
  | n + 1, md, back =>
    let step := d.pathRatio r path (md - 1000) * 1000
    if back ≤ 0 ∨ step ≤ 0 then md
    else if back * 1000000000 < step then md - divAway (back * 1000 * 1000000000) step.toNat
    else d.backAlong r path n (md - 1000) (back - step / 1000000000)

/-- The issue point of a switch entry (R141): for a RIGID implement at constant curvature, target MD less delay × speed. -/
def Dev.issuePoint (d : Dev) (r : SecRec) (path : Path) (target : Int) (delay : Nat) : Int :=
  let v := d.tmb.fused
  if d.trailed r.impl then
    d.backAlong r path 1000 target (travel delay v * d.pathRatio r path target / 1000000000)
  else target - travel delay v

/-- The horizon ahead of the current MD in 0.1 mm (R131). -/
def Dev.horizon (d : Dev) : Int :=
  let a : Int := 1000 * clampN 10 400 (d.rd LAH.HORIZON_M)
  let b := travel (clampN 500 6000 (d.rd LAH.HORIZON_MS)) (max 256000 (d.tmb.fused.natAbs : Int))
  min a b

/-! The coverage map. -/

/-- Tiles east and north (R134). -/
def Dev.mapW (d : Dev) : Nat := d.rd LAH.MAP_W + 1
def Dev.mapH (d : Dev) : Nat := d.rd LAH.MAP_H + 1

/-- The cell under a position in µm, if it lies in the map (R134). -/
def Dev.cellOf (d : Dev) (e n : Int) : Option (Nat × Nat) :=
  let cx := floorDiv (e - 1000 * (d.rdS LAH.MAP_ORG_E - d.rdS LAH.MAP_ORG_E % 250)) 250000
  let cy := floorDiv (n - 1000 * (d.rdS LAH.MAP_ORG_N - d.rdS LAH.MAP_ORG_N % 250)) 250000
  if 0 ≤ cx ∧ 0 ≤ cy ∧ cx < 64 * d.mapW ∧ cy < 64 * d.mapH then some (cx.toNat, cy.toNat) else none

/-- The tile of a cell (R134). -/
def Dev.tileOf (d : Dev) (c : Nat × Nat) : Nat := c.2 / 64 * d.mapW + c.1 / 64

/-- The DRAM byte that holds a cell (R134). -/
def Dev.cellByte (d : Dev) (c : Nat × Nat) : Nat :=
  d.rd LAH.MAP_BASE * 4096 + d.tileOf c * 2048 + c.2 % 64 * 32 + c.1 % 64 / 2

/-- A cell's four bits in DRAM (R134). -/
def Dev.cellRead (d : Dev) (m : Memory) (c : Nat × Nat) : Nat :=
  let b := (memRead m (d.cellByte c)).toNat
  if c.1 % 2 = 0 then b % 16 else b / 16

/-- A cell's four bits as the unit holds them: from its copy of a cached tile, else from DRAM (R135). -/
def Dev.cellSeen (d : Dev) (m : Memory) (c : Nat × Nat) : Nat := d.cellRead ((tget? (d.tileOf c) d.lah.cache).getD m) c

/-- Writes a cell's four bits. -/
def Dev.cellWrite (d : Dev) (m : Memory) (c : Nat × Nat) (v : Nat) : Memory :=
  let a := d.cellByte c
  let b := (memRead m a).toNat
  memWrite m a (BitVec.ofNat 8 (if c.1 % 2 = 0 then b / 16 * 16 + v % 16 else b % 16 + v % 16 * 16))

/-- The unit writes a cell's four bits: in DRAM and in its copy of a cached tile. -/
def Dev.cellPut (c : Nat × Nat) (v : Nat) (x : Dev × Memory) : Dev × Memory :=
  let d := x.1
  ({ d with lah := { d.lah with cache := d.lah.cache.map fun p => if p.1 = d.tileOf c then (p.1, d.cellWrite p.2 c v) else p } },
   d.cellWrite x.2 c v)

/-- COVERED with the larger of two rate classes (R139, Table 5.6). -/
def markCell (v cls : Nat) : Nat := v / 8 * 8 + 1 + 2 * Nat.max (v / 2 % 4) cls

/-- The test points of a section at a pose of its centre (R136). -/
def testPoints (width : Nat) (c : Pose) : List Pose :=
  let n := ceilDiv width 250
  (List.range n).map fun (j : Nat) => c.move 0 (divAway (1000 * (width : Int) * (2 * (j : Int) + 1 - (n : Int))) (2 * n))

/-- What the test points of a section find: points, excluded, covered or excluded, not covered and not excluded, and tests on
tiles not in the cache (R135, R136). A point outside the map is neither, and lies in no tile (assumption 13). -/
structure Shares where
  n : Nat
  excl : Nat
  cov : Nat
  free : Nat
  miss : Nat

/-- Adds one test point. -/
def Dev.sharePoint (d : Dev) (m : Memory) (s : Shares) (p : Pose) : Shares :=
  match d.cellOf p.e p.n with
  | none => { s with n := s.n + 1, free := s.free + 1 }
  | some c =>
    if (tget? (d.tileOf c) d.lah.cache).isSome then
      let v := d.cellSeen m c
      let ex := bit (v.testBit 3)
      let cv := bit (v.testBit 0 || v.testBit 3)
      { s with n := s.n + 1, excl := s.excl + ex, cov := s.cov + cv, free := s.free + (1 - cv) }
    else { s with n := s.n + 1, free := s.free + 1, miss := s.miss + 1 }

/-- The shares of a section at a pose of its centre. -/
def Dev.shares (d : Dev) (m : Memory) (width : Nat) (c : Pose) : Shares :=
  (testPoints width c).foldl (fun s p => d.sharePoint m s p) ⟨0, 0, 0, 0, 0⟩

/-- A path ratio is below STALL_RATIO (R132). -/
def Dev.stalled (d : Dev) (ratio : Int) : Bool := decide (ratio < (Nat.min 1000 (d.rd LAH.STALL_RATIO) * 1000000 : Nat))

/-- The rules of R137 on the shares: the state, and whether rule 3 decided. -/
def coverRule (master stall : Bool) (s : Shares) (on off bnd : Nat) (st : Bool) : Bool × Bool :=
  if !master then (false, false)
  else if bnd * s.n ≤ 100 * s.excl then (false, false)
  else if stall then (false, true)
  else if !st ∧ on * s.n ≤ 100 * s.free then (true, false)
  else if st ∧ off * s.n ≤ 100 * s.cov then (false, false)
  else (st, false)

/-- The state of R137 of a section on a path at an MD; whether rule 3 decided; tests on uncached tiles. -/
def Dev.stateAt (d : Dev) (m : Memory) (r : SecRec) (path : Path) (md : Int) (st : Bool) : Bool × Bool × Nat :=
  let s := d.shares m r.width (d.secAt r path md)
  let (v, stall) := coverRule ((d.rd LAH.MASTER).testBit r.impl) (d.stalled (d.pathRatio r path md)) s
    (Nat.max 1 (d.rd LAH.ON_UNCOV_PCT)) (Nat.max 1 (d.rd LAH.OFF_COV_PCT)) (Nat.max 1 (d.rd LAH.BND_OFF_PCT)) st
  (v, stall, s.miss)

/-- The state of R137 at an MD ahead, evaluated in order along the path from `md`, `n` steps of at most TEST_STEP_MM: the state, whether
rule 3 decided last, and tests on uncached tiles (R136, R137). -/
def Dev.stateFrom (d : Dev) (m : Memory) (r : SecRec) (path : Path) (step goal : Int) : Nat → Int → Bool × Bool × Nat → Bool × Bool × Nat
  | 0, _, a => a
  | n + 1, md, a =>
    let x := min goal (md + step)
    let (v, stall, k) := d.stateAt m r path x a.1
    d.stateFrom m r path step goal n x (v, stall, a.2.2 + k)

/-- Bisection between `lo`, where the outcome still is `st`, and `hi`, where it has changed, to 0.1 mm (R136); `n` bounds the
halvings. Answers the first MD with the new outcome. -/
def Dev.bisect (d : Dev) (m : Memory) (r : SecRec) (path : Path) (st : Bool) : Nat → Int → Int → Nat → Int × Nat
  | 0, _, hi, miss => (hi, miss)
  | n + 1, lo, hi, miss =>
    if hi ≤ lo + 1 then (hi, miss)
    else
      let mid := (lo + hi) / 2
      let (v, _, k) := d.stateAt m r path mid st
      if v = st then d.bisect m r path st n mid hi (miss + k) else d.bisect m r path st n lo mid (miss + k)

/-- A change of state along a section's path (R136, R137). -/
structure Change where
  target : Int
  value : Bool
  stall : Bool

/-- The changes of a section's state along its path from `md` on: `n` steps of TEST_STEP_MM (R136, R137). -/
def Dev.scan (d : Dev) (m : Memory) (r : SecRec) (path : Path) (step : Int) : Nat → Int → Bool → Nat → List Change × Nat
  | 0, _, _, miss => ([], miss)
  | n + 1, md, st, miss =>
    let (v, stall, k) := d.stateAt m r path (md + step) st
    if v = st then d.scan m r path step n (md + step) st (miss + k)
    else
      let (t, miss') := d.bisect m r path st 20 md (md + step) (miss + k)
      let (l, miss'') := d.scan m r path step n (md + step) v miss'
      (⟨t, v, stall⟩ :: l, miss'')

end Sys2Proof.Machine
end

