-- ==== Sys2Proof/Machine/Lah.lean ====
section
/-! DEFINITION. Machine/Lah.lean: the Pan, Floods and the prediction cycle (chapter 5, R138 to R156). -/

namespace Sys2Proof.Machine

/-! Destinations. -/

/-- The gate behind a destination is closed (R21). -/
def Dev.destGated (d : Dev) (w : Dest) : Bool :=
  match w with
  | .chan c => !d.gateOpen c
  | .valve n _ => !d.gateOpen (.vd n)
  | _ => false

/-- A switch command is delivered to a SW_DEST (Table 5.2, R128). -/
def Dev.switchTo (d : Dev) (w : Dest) (on : Bool) : Dev :=
  match w with
  | .chan (.ls n) => lsCommand n on d
  | .chan (.vd n) => if on then vdStart n 0 d else vdStop n d
  | .chan (.io n) => ioCommand n on d
  | .valve n slot => if on then vdStart n slot d else vdStop n d
  | .point p => d.pointUpdate p (bit on)
  | _ => d

/-- The delay of a section for a value, ms (Table 5.2). -/
def Dev.secDelay (d : Dev) (s : Nat) (on : Bool) : Nat :=
  Nat.min 4000 (if on then d.rd LAH.SEC_DELAY_ON_MS s else d.rd LAH.SEC_DELAY_OFF_MS s)

/-- Hidden state of section `s`. -/
def Dev.sec (d : Dev) (s : Nat) : SecH := tget s d.lah.secs

/-- The effective state follows the latest delivered command whose delay has elapsed (R139). -/
def Dev.secSettle (d : Dev) (s : Nat) : Dev :=
  let l := (d.sec s).due
  match l.find? fun p => decide (p.2 ≤ d.mt) with
  | none => d
  | some p =>
    { d with lah := { d.lah with secs := tset s ⟨l.takeWhile fun q => decide (d.mt < q.2)⟩ d.lah.secs } }.wr LAH.SEC_EFFECTIVE (bit p.1) s

/-- A command is delivered to section `s` (R139, R140). -/
def Dev.secCommand (d : Dev) (s : Nat) (r : SecRec) (on : Bool) (delay : Nat) : Dev :=
  let d := (d.secSettle s).wr LAH.SEC_CMD (bit on) s
  let d := if d.destGated r.sw then d
           else { d with lah := { d.lah with secs := tset s ⟨(on, d.mt + delay * ms) :: (d.sec s).due⟩ d.lah.secs } }
  d.switchTo r.sw on

/-! The as-applied record (R155). -/

/-- FLAGS of an as-applied item (Table 5.7). -/
def Dev.lahFlags (d : Dev) (late held gated same stall : Bool) : Nat :=
  bit late + 2 * bit held + 4 * bit (decide (d.rd TMB.MD_STATE = 1)) + 8 * bit (decide (d.rd TMB.MD_STATE = 2)) + 16 * bit gated
    + 32 * bit same + 64 * bit stall

/-- One as-applied item into the queue CR7 names (Table 5.7). -/
def Dev.asApplied (d : Dev) (who kind flags entry value cause : Nat) (target : Int) (rate mt : Nat) (md lat : Int) : Dev :=
  let q := (d.itemsOf 7).findSome? fun it => match it with | .asApplied q => some q | _ => none
  d.queueItem? 4 q (leBytes 2 who ++ [kind, flags] ++ leBytes 2 entry ++ [value, cause] ++ leBytes 6 (enc 48 target) ++ leBytes 2 rate
    ++ leBytes 8 mt ++ leBytes 6 (enc 48 md) ++ leBytes 2 (enc 16 (clampI (-32768) 32767 lat)))

/-! The Pan (R140). -/

/-- The implement of a Pan entry. -/
def PanEntry.owner (e : PanEntry) : Nat := if e.isRate then e.who else e.impl

/-- ENTRY of Table 5.7: number and generation. -/
def Dev.entryNo (d : Dev) (k : Nat) : Nat := k + 2048 * ((tget? k d.lah.gens).getD 0)

/-- USED, PEAK and PAN_FULL after a change of the Pan (R144). -/
def Dev.panCount (d : Dev) : Dev :=
  let n := d.lah.pan.length
  let was := d.flag LAH.PAN_FULL
  let d := (d.wr LAH.PAN_USED n).wr LAH.PAN_FULL (bit (2048 ≤ n))
  let d := if d.rd LAH.PAN_PEAK < n then d.wr LAH.PAN_PEAK n else d
  if 2048 ≤ n ∧ !was then d.cause LAH.EVT_PAN_FULL else d

/-- Replaces entry `k`. -/
def Dev.panSet (d : Dev) (k : Nat) (e : PanEntry) : Dev := { d with lah := { d.lah with pan := tset k e d.lah.pan } }

/-- Removes entry `k`. -/
def Dev.panDel (d : Dev) (k : Nat) : Dev := { d with lah := { d.lah with pan := tdel k d.lah.pan } }.panCount

/-- The scheduler class CR6 assigns to the unit (R140). -/
def Dev.lahClass (d : Dev) : Option Nat :=
  (List.range 32).find? fun c => match d.classRow c with | some (.lah, f, _, _) => f.testBit 0 | _ => false

/-- The lowest Pan number no entry holds; `n` bounds the search. -/
def freePan : Nat → Nat → List (Nat × PanEntry) → Nat
  | 0, k, _ => k
  | n + 1, k, l => if (tget? k l).isSome then freePan n (k + 1) l else k

/-- An entry is delivered: the switch command goes to its destination, the item records it (Table 5.4, R155). -/
def Dev.panDeliver (d : Dev) (k : Nat) (e : PanEntry) (late held : Bool) : Dev :=
  if e.isRate then
    let delay := Nat.min 4000 (d.rd LAH.IMP_DELAY_RATE_MS e.who)
    let fl := d.lahFlags late held false false false
    let e := { e with issued := true, mtIssue := d.mt, delayMs := delay, before := d.rd LAH.IMP_RATE_IN_FORCE e.who, flags := fl }
    (d.panSet k e).asApplied 0xFFFF 5 fl (d.entryNo k) e.who 0 e.target e.value d.mt d.md e.dev
  else match d.secRec e.who with
    | none => d.panDel k
    | some r =>
      let on := decide (e.value = 1)
      let delay := d.secDelay e.who on
      let fl := d.lahFlags late held (d.destGated r.sw) false e.stall
      let d := (d.panSet k { e with issued := true, mtIssue := d.mt, delayMs := delay, flags := fl }).asApplied e.who 1 fl (d.entryNo k)
        e.value 0 e.target (d.rd LAH.IMP_RATE_IN_FORCE r.impl) d.mt d.md e.dev
      d.secCommand e.who r on delay

/-- PAN_ENTRY_ISSUE: the scheduler delivers the entry's event (R140). -/
def Dev.panIssue (d : Dev) (k : Nat) (late held : Bool) : Dev :=
  match tget? k d.lah.pan with
  | some e => if e.issued then d else d.panDeliver k e late held
  | none => d

/-- An entry enters the Pan: its number and generation are taken (R140). -/
def Dev.panEnter (d : Dev) (e : PanEntry) (k : Nat) : Dev :=
  let g := match tget? k d.lah.gens with | some g => (g + 1) % 32 | none => 0
  ({ d with lah := { d.lah with pan := tset k e d.lah.pan, gens := tset k g d.lah.gens } }).panCount

/-- The event of slot `s`, of class `c`, of entry `k` is late: under DISCARD both are removed, the event flagged DISCARDED; else the entry is
delivered at once, flagged LATE, or waits with its event (R117). A rate entry whose target has passed issues in any case (chapter 5, +0x1C;
assumption 51). -/
def Dev.panLate (d : Dev) (c s k : Nat) (e : PanEntry) : Dev :=
  if d.flag TMB.CLASS_LATE_POLICY c ∧ ¬(e.isRate ∧ e.target ≤ d.md) then
    (match tget? s d.tmb.slots with
      | some ev => (d.cause TMB.EVT_LATE).dropEvent s ev 32
      | none => d).panDel k
  else
    let r := d.issueLate s
    if r.2 then r.1.panDeliver k e true false else r.1

/-- Files an entry while there is room. A switch entry whose issue point has passed is not filed: R143 covers it; a rate entry goes as its
class's LATE_POLICY states (R117, R140, R143). -/
def Dev.panPut (d : Dev) (e : PanEntry) : Dev :=
  let k := freePan 2048 0 d.lah.pan
  match d.lahClass with
  | none => d.count LAH.PAN_REFUSED
  | some c =>
    let late := d.lateAt c e.issueMd
    if late ∧ !e.isRate then d
    else match d.placeEvent c e.issueMd k 0 with
      | none => d.fullSeen.count LAH.PAN_REFUSED
      | some (d, h) =>
        let e := { e with handle := h }
        let d := d.panEnter e k
        if late then d.panLate c (h % 4096) k e else d

/-- The FILED entry with the latest issue point (R144). -/
def Dev.lastFiled (d : Dev) : Option (Nat × PanEntry) :=
  (d.lah.pan.filter fun p => !p.2.issued).foldl (fun b p => match b with
    | none => some p
    | some q => if q.2.issueMd < p.2.issueMd then some p else some q) none

/-- LAH_LAST_FLOOD (R147). -/
def Dev.lastFlood (d : Dev) (cause impl removed : Nat) : Dev :=
  (((d.wr LAH.LAST_CAUSE cause).wr LAH.LAST_IMPL impl).wr LAH.LAST_REMOVED (satN 16 removed)).cause LAH.EVT_FLOOD

/-- A FILED entry is removed without a trace outside (R149). -/
def Dev.panRemove (d : Dev) (k : Nat) (e : PanEntry) : Dev := (((d.freeEvent (e.handle % 4096)).panDel k).count LAH.FLOOD_BEFORE)

/-- An entry waits for room in the Pan (R144). -/
def Dev.panWait (d : Dev) (e : PanEntry) : Dev := { d with lah := { d.lah with waiting := d.lah.waiting ++ [e] } }

/-- A full Pan: the FILED entry with the latest issue point is displaced, and waits for room (R144). -/
def Dev.panDisplace (d : Dev) (k : Nat) (e : PanEntry) : Dev :=
  let d := ((d.panRemove k e).lastFlood 11 e.owner 1).panWait e
  if e.isRate then d.cause LAH.EVT_RATE_FLOODED else d

/-- The entry's issue point has passed. -/
def Dev.panPast (d : Dev) (e : PanEntry) : Bool := match d.lahClass with | some c => d.lateAt c e.issueMd | none => false

/-- Files an entry (R140, R144). A switch entry that would not be filed displaces none; the FILED entry that is issuing is not displaced
(R119). -/
def Dev.panFile (d : Dev) (e : PanEntry) : Dev :=
  if !e.isRate && d.panPast e then d
  else if d.lah.pan.length < 2048 then d.panPut e
  else match d.lastFiled with
    | some (k, f) => if e.issueMd < f.issueMd ∧ d.cancelCode f.handle = 0 then (d.panDisplace k f).panPut e else d.panWait e
    | none => d.panWait e

/-- The effective instant of an ISSUED entry, in MT (Table 5.4). -/
def PanEntry.effective (e : PanEntry) : Nat := e.mtIssue + e.delayMs * ms

/-- FLAGS of a RAKE item: those of the entry's ISSUE item, with HOLDOVER and DEGRADED as MD stands (R112, R152). -/
def Dev.rakeFlags (d : Dev) (fl : Nat) : Nat := fl / 16 * 16 + fl % 4 + d.lahFlags false false false false false % 16

/-- An ISSUED entry is raked (R145): its item, and a rate comes into force (R146). -/
def Dev.rake (d : Dev) (k : Nat) (e : PanEntry) : Dev :=
  let t := e.effective
  let md := d.md - divAway (d.tmb.rate * (d.mt - t : Nat)) 25600000000
  let impl := e.owner
  let d := if e.isRate then d.wr LAH.IMP_RATE_IN_FORCE e.value e.who else d
  let fl := d.rakeFlags e.flags
  let d := if e.isRate then d.asApplied 0xFFFF 6 fl (d.entryNo k) e.who 0 e.target e.value t md e.dev
           else d.asApplied e.who 2 fl (d.entryNo k) e.value 0 e.target (d.rd LAH.IMP_RATE_IN_FORCE impl) t md e.dev
  (d.panDel k).count LAH.CNT_RAKED

/-- Every ISSUED entry whose effective instant has come is raked (R145). -/
def Dev.rakeDue (d : Dev) : Dev :=
  forAll (d.lah.pan.filter fun p => p.2.issued && decide (p.2.effective ≤ d.mt)) (fun p d => d.rake p.1 p.2) d

/-- The ISSUED entry that is effective first. -/
def Dev.nextRake (d : Dev) : Option (Nat × PanEntry) :=
  (d.lah.pan.filter fun p => p.2.issued).foldl (fun b p => match b with
    | none => some p
    | some q => if p.2.effective < q.2.effective then some p else some q) none

/-- PAN_ENTRY_RAKE: the ISSUED entry that is effective first reaches its instant (R145). -/
def panEntryRake (d : Dev) : Dev :=
  match d.nextRake with
  | none => d
  | some (k, e) => (d.waitMt e.effective).rake k e

/-! Paths. -/

/-- The measured curvature, clamped, in 10^-6 per m (R129, R130). -/
def Dev.curvNow (d : Dev) : Int :=
  match (d.itemsOf 7).findSome? fun it => match it with | .curvature p => some p | _ => none with
  | some p => clampI (-250000) 250000 (d.pointVal p)
  | none => 0

/-- The prediction of implement `i` from the pose now (R130). -/
def Dev.predict (d : Dev) (i : Nat) : Path :=
  ⟨d.md, d.lah.east, d.lah.north, d.lah.heading, d.curvNow, (tget? i d.lah.trails).getD d.lah.heading⟩

/-- The committed path of implement `i` (R133). -/
def Dev.committed (d : Dev) (i : Nat) : Path := (tget? i d.lah.paths).getD (d.predict i)

/-- The unit may file for implement `i`: not while REVERSE, MD LOST, POSE LOST or MASTER 0 (R147). -/
def Dev.lahMay (d : Dev) (i : Nat) : Bool :=
  d.flag LAH.EN && !d.flag TMB.REVERSE && decide (d.rd TMB.MD_STATE ≠ 3) && decide (d.rd LAH.POSE_STATE ≠ 2) && (d.rd LAH.MASTER).testBit i

/-! Floods (R147 to R151). -/

/-- The cause's compensating value is OFF (Table 5.5). -/
def causeOff (c : Nat) : Bool := c = 3 || c = 7 || c = 8 || c = 9

/-- The cause floods rate entries (Table 5.5). -/
def causeRates (c : Nat) : Bool := c = 3 || decide (6 ≤ c)

/-- An entry lies in a trigger's scope (Table 5.5). -/
def Trigger.covers (t : Trigger) (e : PanEntry) : Bool :=
  if e.isRate then causeRates t.cause && t.impls.contains e.who
  else t.sections.contains e.who || t.impls.contains e.owner

/-- The sections in a trigger's scope, ascending by implement. -/
def Dev.scopeSections (d : Dev) (t : Trigger) : List Nat := t.sections ++ t.impls.flatMap fun i => d.sectionsOf i

/-- What a flood has met so far: sections to compensate with their last cause and latest flooded entry, and ISSUED entries to
retire with the cause. -/
structure FloodAcc where
  d : Dev
  secs : List (Nat × Nat × Option PanEntry)
  gone : List (Nat × Nat × PanEntry)

/-- The later issued of two entries. -/
def laterEntry (a : Option PanEntry) (b : PanEntry) : Option PanEntry :=
  match a with | some x => if x.mtIssue ≤ b.mtIssue then some b else some x | none => some b

/-- An ISSUED entry is met (R150). -/
def FloodAcc.issued (a : FloodAcc) (cause k : Nat) (e : PanEntry) : FloodAcc :=
  { a with
    gone := tset k (cause, e) a.gone
    secs := if e.isRate then a.secs
            else tset e.who (cause, laterEntry (match tget? e.who a.secs with | some p => p.2 | none => none) e) a.secs }

/-- The latest flooded entry a section already has in a flood. -/
def floodedEntry (l : List (Nat × Nat × Option PanEntry)) (s : Nat) : Option PanEntry :=
  match tget? s l with | some p => p.2 | none => none

/-- For a cause that gives OFF, every section in scope that is commanded ON is compensated too (R150). -/
def FloodAcc.allOn (a : FloodAcc) (t : Trigger) : FloodAcc :=
  if causeOff t.cause then
    { a with secs := ((a.d.scopeSections t).filter fun s => a.d.flag LAH.SEC_CMD s).foldl
              (fun l s => tset s (t.cause, floodedEntry l s) l) a.secs }
  else a

/-- Adds a section to a rising list. -/
def addAsc (s : Nat) : List Nat → List Nat
  | [] => [s]
  | x :: t => if s < x then s :: x :: t else if s = x then x :: t else x :: addAsc s t

/-- The cancel of a FILED entry loses against its event, which has crossed: the event issues, with its record, and the entry with it (R119,
R151). -/
def Dev.panLose (d : Dev) (k : Nat) (e : PanEntry) : Dev :=
  match d.pendingEvent e.handle with
  | some v => if d.mayIssue v then
      ((d.issueRecord e.handle v (bit v.late + d.mdFlags + 8 * bit v.held)).afterIssue (e.handle % 4096) v false).panIssue k v.late v.held
    else d
  | none => d

/-- Entries of the flooded sections that wait for room go with the prediction they came from. -/
def Dev.waitDrop (d : Dev) (t : Trigger) : Dev :=
  { d with lah := { d.lah with waiting := d.lah.waiting.filter fun e => e.isRate || !t.covers e } }

/-- One trigger is applied (R147, R151). -/
def FloodAcc.trigger (a : FloodAcc) (t : Trigger) : FloodAcc :=
  let beyond (d : Dev) := d.lah.pan.filter fun p => t.covers p.2 && decide (d.md < p.2.target)
  let d := forAll ((beyond a.d).filter fun p => !p.2.issued) (fun p d => d.panLose p.1 p.2) (a.d.waitDrop t)
  let hit := beyond d
  let filed := hit.filter fun p => !p.2.issued
  let iss := hit.filter fun p => p.2.issued
  let d := forAll filed (fun p d => d.panRemove p.1 p.2) d
  let low := ((t.impls ++ t.sections.map fun s => match d.secRec s with | some r => r.impl | none => 7).foldl Nat.min 7)
  let d := d.lastFlood t.cause low hit.length
  let d := { d with lah := { d.lah with refile := (d.scopeSections t).foldl (fun l s => addAsc s l) d.lah.refile } }
  let d := if hit.any fun p => p.2.isRate then d.cause LAH.EVT_RATE_FLOODED else d
  (iss.foldl (fun (x : FloodAcc) p => x.issued t.cause p.1 p.2) { a with d := d }).allOn t

/-- TEST_STEP_MM as it acts, in 0.1 mm. -/
def Dev.testStep (d : Dev) : Nat := 10 * clampN 50 1000 (d.rd LAH.TEST_STEP_MM)

/-- The state of R137 of section `s` at an MD ahead, from its commanded state on along the committed path. -/
def Dev.stateAhead (d : Dev) (m : Memory) (s : Nat) (r : SecRec) (goal : Int) : Bool × Bool × Nat :=
  let n := Nat.max 1 (ceilDiv (goal - d.md).toNat d.testStep)
  d.stateFrom m r (d.committed r.impl) d.testStep goal n d.md (d.flag LAH.SEC_CMD s, false, 0)

/-- The value of a compensating command, whether rule 3 of R137 decided it, and its tests on uncached tiles (R150). -/
def Dev.compValue (d : Dev) (m : Memory) (s cause : Nat) (r : SecRec) (e : Option PanEntry) : Bool × Bool × Nat :=
  match e with
  | none => (false, false, 0)
  | some e =>
    if causeOff cause then (false, false, 0)
    else
      let t := Nat.max e.effective (d.mt + e.delayMs * ms)
      let md := d.md + divAway (d.tmb.fused * (t - d.mt : Nat)) 25600000000
      d.stateAhead m s r md

/-- Adds uncached tests to COV_MISS (R135). -/
def Dev.covMiss (d : Dev) (n : Nat) : Dev :=
  if n = 0 then d else (d.wr LAH.CNT_COV_MISS (satN 32 (d.rd LAH.CNT_COV_MISS + n))).cause LAH.EVT_COV_MISS

/-- One compensating command (R150). -/
def Dev.compensate (d : Dev) (m : Memory) (s cause : Nat) (e : Option PanEntry) : Dev :=
  match d.secRec s with
  | none => d
  | some r =>
    let (v, stall, miss) := d.compValue m s cause r e
    let d := d.covMiss miss
    let fl := d.lahFlags false false (d.destGated r.sw) (v == d.flag LAH.SEC_CMD s) (stall && !v)
    let d := d.asApplied s 3 fl 0xFFFF (bit v) cause 0 (d.rd LAH.IMP_RATE_IN_FORCE r.impl) d.mt d.md (match e with | some e => e.dev | none => 0)
    (d.secCommand s r v (d.secDelay s v)).cause LAH.EVT_COMP

/-- A flooded ISSUED entry is retired; a rate entry's rate is put back (R150). -/
def Dev.retire (d : Dev) (k cause : Nat) (e : PanEntry) : Dev :=
  let no := d.entryNo k
  let d := (d.panDel k).count LAH.FLOOD_AFTER
  if e.isRate then
    let v := if causeOff cause then 0 else e.before
    ((d.wr LAH.IMP_RATE_IN_FORCE v e.who).asApplied 0xFFFF 7 (d.lahFlags false false false false false) no e.who cause e.target v d.mt d.md
      e.dev).cause LAH.EVT_COMP
  else d

/-- Triggers in the code order of Table 5.5. -/
def orderTriggers (l : List Trigger) : List Trigger := (List.range 12).flatMap fun c => l.filter fun t => t.cause = c

/-- FLOOD: the triggers that wait are taken up, in code order; one compensating command per section, ascending (R147 to R151). -/
def lahFlood (m : Memory) (d : Dev) : Dev :=
  if d.lah.triggers = [] then d
  else
    let ts := orderTriggers d.lah.triggers
    let d := { d with lah := { d.lah with triggers := [] } }.rakeDue
    let a := ts.foldl FloodAcc.trigger ⟨d, [], []⟩
    let d := forAll a.secs (fun p d => d.compensate m p.1 p.2.1 p.2.2) a.d
    forAll a.gone (fun p d => d.retire p.1 p.2.1 p.2.2) d

/-! Pose (R129). -/

/-- The epoch period in ns (R265). -/
def Dev.epochPeriod (d : Dev) : Nat :=
  match d.rd GNS.RATE_HZ with | 0 => second | 1 => second / 2 | 2 => second / 5 | 3 => second / 10 | _ => second / 20

/-- DR_LIMIT_MS in ns. -/
def Dev.drLimit (d : Dev) : Nat := Nat.max 1 (d.rd LAH.DR_LIMIT_MS) * ms

/-- POSE_STATE moves; entry of LOST floods all implements (R129, Table 5.5). -/
def Dev.poseTo (d : Dev) (st : Nat) : Dev :=
  let was := d.rd LAH.POSE_STATE
  let d := d.wr LAH.POSE_STATE st
  if st = 2 ∧ was ≠ 2 then (d.floodTrigger 8 allImpls []).cause LAH.EVT_POSE_LOST else d

/-- POSE_STATE as epochs and MD stand (R129). -/
def Dev.poseState (d : Dev) : Nat :=
  if !d.flag TMB.MD_VALID then 2
  else match d.lah.epochAt with
    | none => 2
    | some t => if t + d.drLimit ≤ d.now then 2 else if t + 2 * d.epochPeriod < d.now then 1 else 0

/-- POSE_LOST_TIMEOUT: DR_LIMIT_MS without an epoch (R129). -/
def poseLostTimeout (d : Dev) : Dev :=
  match d.lah.epochAt with
  | none => d.poseTo 2
  | some t => (d.waitUntil (t + d.drLimit)).poseTo 2

/-- The pose registers, rounded to their units. -/
def Dev.poseShow (d : Dev) : Dev :=
  ((d.wrS LAH.POSE_E (divAway d.lah.east 1000)).wrS LAH.POSE_N (divAway d.lah.north 1000)).wr LAH.POSE_HDG (d.lah.heading / 65536)

/-- The pose is carried forward from MD and curvature (R129). The current heading of a TRAILED implement is the machine's at the first epoch
and follows the hitch from then on, as far as the machine goes forward (R130; assumption 51). -/
def Dev.carryPose (d : Dev) : Dev :=
  let l := d.lah
  let path (i : Nat) : Path := ⟨l.lastMd, l.east, l.north, l.heading, d.curvNow, (tget? i l.trails).getD l.heading⟩
  let p := (path 0).at d.md
  let trails := d.impls.map fun i => (i, if d.trailed i then
      let (rx, ry, w) := d.implRec i
      trailAlong (path i) rx ry w d.md ((d.md - l.lastMd).toNat / 1000 + 1) l.lastMd (path i).trail else p.h)
  { d with lah := { l with east := p.e, north := p.n, heading := p.h, lastMd := d.md, trails := trails } }.poseShow

/-- A GNSS epoch sets the pose: position in mm, and a heading in 2^-32 revolution where one is valid; else the heading is carried (R129). -/
def Dev.lahEpoch (d : Dev) (east north : Int) (heading : Option Nat) : Dev :=
  let first := d.lah.epochAt.isNone
  let d := if first then d else d.carryPose
  let h := heading.getD d.lah.heading
  let d := { d with lah := { d.lah with
    east := 1000 * east, north := 1000 * north, heading := h, lastMd := d.md, epochAt := some d.now,
    trails := if first then d.impls.map fun i => (i, h) else d.lah.trails } }
  let d := d.poseShow
  d.poseTo (if d.flag TMB.MD_VALID then 0 else 2)

/-! Checking paths (R133). -/

/-- The sections of implement `i` with the outermost centres. -/
def Dev.outermost (d : Dev) (i : Nat) : List SecRec :=
  let l := (d.sectionsOf i).filterMap fun s => d.secRec s
  match l with
  | [] => []
  | r :: t => [t.foldl (fun b x => if b.y < x.y then x else b) r, t.foldl (fun b x => if x.y < b.y then x else b) r]

/-- The deviation in mm of path `q` from path `p` at a check point, perpendicular to `p` at equal MD (R133). -/
def checkDev (a b : Pose) : Int := divAway ((((b.n - a.n) * sinQ a.h - (b.e - a.e) * cosQ a.h)) >>> 30) 1000

/-- The deviations at the three check points at an MD. -/
def Dev.devsAt (d : Dev) (i : Nat) (p q : Path) (md : Int) : List Int :=
  checkDev (d.implAt i p md) (d.implAt i q md) :: (d.outermost i).map fun r => checkDev (d.secAt r p md) (d.secAt r q md)

/-- The largest of deviations, signed. -/
def largest (l : List Int) : Int := l.foldl (fun b x => if b.natAbs < x.natAbs then x else b) 0

/-- RAKE_LAT_MM as it acts. -/
def Dev.rakeLat (d : Dev) : Nat := clampN 20 2000 (d.rd LAH.RAKE_LAT_MM)

/-- The prediction of an implement is compared with its committed path, and the actual position with it (R133). A path that stands is
extended to the new horizon by prolonging its arc (assumption 51). -/
def Dev.checkImpl (d : Dev) (i : Nat) : Dev :=
  let q := d.predict i
  match tget? i d.lah.paths with
  | none => { d with lah := { d.lah with paths := tset i q d.lah.paths } }
  | some p =>
    let now := largest (d.devsAt i p q d.md)
    let n := (d.horizon / d.testStep).toNat
    let ahead := (List.range (n + 1)).any fun k => (d.devsAt i p q (d.md + k * d.testStep)).any fun x => decide (d.rakeLat < x.natAbs)
    let d := { d with lah := { d.lah with pan := d.lah.pan.map fun (k, e) =>
      (k, if e.owner = i ∧ e.dev.natAbs < now.natAbs then { e with dev := now } else e) } }
    let d := if ahead then { d with lah := { d.lah with paths := tset i q d.lah.paths } }.floodTrigger 1 [i] [] else d
    if d.rakeLat < now.natAbs then d.floodTrigger 2 [i] [] else d

/-! Filing (R136, R141 to R143). -/

/-- The issue point of an entry as it stands now (R141). -/
def Dev.issueNow (d : Dev) (e : PanEntry) : Int :=
  if e.isRate then e.target - travel (Nat.min 4000 (d.rd LAH.IMP_DELAY_RATE_MS e.who)) d.tmb.fused
  else match d.secRec e.who with
    | some r => d.issuePoint r (d.committed r.impl) e.target (d.secDelay e.who (decide (e.value = 1)))
    | none => e.issueMd

/-- R142: the issue point of a FILED entry follows the fused speed; a move of 1 mm or more cancels its event, with the record of R123, and
files it again; one that is late by then goes as its class's LATE_POLICY states (R117). An event that has crossed is left to issue. -/
def Dev.reissue (d : Dev) (k : Nat) (e : PanEntry) : Dev :=
  let ip := d.issueNow e
  let crossed : Bool := match d.pendingEvent e.handle with | some v => v.crossed.isSome | none => false
  if (ip - e.issueMd).natAbs < 10 ∨ crossed then d
  else
    let d := d.cancel e.handle
    let e := { e with issueMd := ip }
    match d.lahClass with
    | none => d.panDel k
    | some c =>
      let late := d.lateAt c ip
      match d.placeEvent c ip k 0 with
      | none => (d.fullSeen.panDel k).count LAH.PAN_REFUSED
      | some (d, h) =>
        let e := { e with handle := h }
        let d := d.panSet k e
        if late then d.panLate c (h % 4096) k e else d

/-- A section's last entry, in the Pan or waiting for room: from its target on the test goes on (R137). -/
def Dev.lastEntry (d : Dev) (s : Nat) : Option PanEntry :=
  ((d.lah.pan.map (fun p => p.2) ++ d.lah.waiting).filter fun e => !e.isRate && decide (e.who = s)).foldl (fun b e => match b with
    | none => some e
    | some q => if q.target < e.target then some e else some q) none

/-- A switch entry for a change (R141). -/
def Dev.changeEntry (d : Dev) (s : Nat) (r : SecRec) (c : Change) : PanEntry :=
  { isRate := false, who := s, impl := r.impl, value := bit c.value, target := c.target
    issueMd := d.issuePoint r (d.committed r.impl) c.target (d.secDelay s c.value)
    issued := false, handle := 0, mtIssue := 0, delayMs := 0, dev := 0, before := 0, stall := c.stall, flags := 0 }

/-- The changes of one section within the horizon are filed, from its commanded state on, or from that of its last entry that has not
issued (R131, R136, R137). -/
def Dev.fileSection (d : Dev) (m : Memory) (s : Nat) : Dev :=
  match d.secRec s with
  | none => d
  | some r =>
    let (from_, st) := match d.lastEntry s with
      | some e => (max e.target d.md, if e.issued then d.flag LAH.SEC_CMD s else decide (e.value = 1))
      | none => (d.md, d.flag LAH.SEC_CMD s)
    let n := ((d.md + d.horizon - from_) / d.testStep).toNat
    let (l, miss) := d.scan m r (d.committed r.impl) d.testStep n from_ st 0
    forAll l (fun c d => d.panFile (d.changeEntry s r c)) (d.covMiss miss)

/-- The mismatch of a section with no FILED entry is put right by a catch-up command, flagged LATE (R143). -/
def Dev.catchUp (d : Dev) (m : Memory) (s : Nat) : Dev :=
  match d.secRec s with
  | none => d
  | some r =>
    if d.lah.pan.any fun p => !p.2.isRate && decide (p.2.who = s) && !p.2.issued then d
    else
      let cmd := d.flag LAH.SEC_CMD s
      let md := d.md + travel (d.secDelay s (!cmd)) d.tmb.fused
      let (v, stall, miss) := d.stateAhead m s r md
      let d := d.covMiss miss
      if v = cmd then d
      else
        let fl := d.lahFlags true false (d.destGated r.sw) false stall
        let d := d.asApplied s 4 fl 0xFFFF (bit v) 0 0 (d.rd LAH.IMP_RATE_IN_FORCE r.impl) d.mt d.md 0
        ((d.secCommand s r v (d.secDelay s v)).count LAH.CATCHUPS).cause LAH.EVT_CATCHUP

/-- Entries that waited for room are filed (R144). -/
def Dev.fileWaiting (d : Dev) : Dev :=
  let l := d.lah.waiting
  forAll l (fun e d => if d.lahMay e.owner then d.panFile { e with issueMd := d.issueNow e } else d)
    { d with lah := { d.lah with waiting := l.filter fun e => !d.lahMay e.owner } }

/-! Rates and marking (R127, R139, R146). -/

/-- The rate of a section: RATE_IN_FORCE, scaled by its path ratio where CURVE_COMP (R146). -/
def Dev.secRate (d : Dev) (r : SecRec) : Nat :=
  let f := d.rd LAH.IMP_RATE_IN_FORCE r.impl
  if d.flag LAH.IMP_CURVE_COMP r.impl then
    let md := d.md + travel (Nat.min 4000 (d.rd LAH.IMP_DELAY_RATE_MS r.impl)) d.tmb.fused
    satN 16 (divAway (f * d.pathRatio r (d.committed r.impl) md) 1000000000).toNat
  else f

/-- The rate class of a rate (R127). -/
def Dev.rateClass (d : Dev) (i rate : Nat) : Nat :=
  if rate < d.rd LAH.IMP_RC_T1 i then 0 else if rate < d.rd LAH.IMP_RC_T2 i then 1 else if rate < d.rd LAH.IMP_RC_T3 i then 2 else 3

/-- A section's RATE_DEST and STALLED are written (R146, R132). -/
def Dev.writeRate (d : Dev) (s : Nat) : Dev :=
  match d.secRec s with
  | none => d
  | some r =>
    let d := (d.secSettle s).wr LAH.SEC_STALLED (bit (d.stalled (d.pathRatio r (d.committed r.impl) d.md))) s
    d.pointUpdate? r.rate (if d.flag LAH.SEC_CMD s then d.secRate r else 0)

/-- The cells under the way from `a` to `b`: a way that begins and ends in one cell stays in it, any other is halved, down to 1 µm (R139). -/
def Dev.cellsOn (d : Dev) : Nat → Pose → Pose → List (Option (Nat × Nat))
  | 0, a, b => [d.cellOf a.e a.n, d.cellOf b.e b.n]
  | n + 1, a, b =>
    if (d.cellOf a.e a.n = d.cellOf b.e b.n ∧ (d.cellOf a.e a.n).isSome) ∨ ((b.e - a.e).natAbs ≤ 1 ∧ (b.n - a.n).natAbs ≤ 1) then
      [d.cellOf a.e a.n, d.cellOf b.e b.n]
    else
      let mid : Pose := ⟨(a.e + b.e) / 2, (a.n + b.n) / 2, b.h⟩
      d.cellsOn n a mid ++ d.cellsOn n mid b

/-- The cells a test point crossed on its way from `a` to `b` (R139). -/
def Dev.crossed (d : Dev) (a b : Pose) : List (Nat × Nat) := ((d.cellsOn 40 a b).filterMap id).eraseDups

/-- Own marking of one section between two poses of its centre (R139). -/
def Dev.markSection (r : SecRec) (a b : Pose) (x : Dev × Memory) : Dev × Memory :=
  let cls := x.1.rateClass r.impl (x.1.secRate r)
  forAll ((testPoints r.width a).zip (testPoints r.width b)) (fun p x =>
    forAll (x.1.crossed p.1 p.2) (fun c x => Dev.cellPut c (markCell (x.1.cellSeen x.2 c) cls) x) x) x

/-- Own marking of every section that is effectively ON, from where it stood at the end of the cycle before to now (R139). -/
def Dev.markAll (d : Dev) (m : Memory) : Dev × Memory :=
  let x := forAll (d.sections.filter fun s => d.flag LAH.SEC_EFFECTIVE s) (fun s x => match d.secRec s with
    | none => x
    | some r =>
      let p := (tget? r.impl d.lah.marked).getD (d.predict r.impl)
      Dev.markSection r (d.secAt r p p.md0) (d.secAt r (d.predict r.impl) d.md) x) (d, m)
  ({ x.1 with lah := { x.1.lah with marked := d.impls.map fun i => (i, d.predict i) } }, x.2)

/-! Import (R153, R154). -/

/-- Applies one cell of a record (Table 5.6). -/
def importCell (op cls v : Nat) : Nat :=
  match op with
  | 0 => markCell v (cls % 4)
  | 1 => v % 8 + 8
  | 2 => v % 8
  | _ => v / 8 * 8

/-- What a slice of import records has done so far: the map, the cells changed with whether EXCLUDED changed, the cells and records skipped,
the records applied and the SOURCE of the last (R153). -/
structure ImportAcc where
  x : Dev × Memory
  changed : List (Nat × Nat × Bool)
  skipped : Nat
  applied : Nat
  source : Option Nat

/-- One cell of a record. -/
def ImportAcc.one (a : ImportAcc) (op cls : Nat) (c : Nat × Nat) : ImportAcc :=
  let d := a.x.1
  if c.1 < 64 * d.mapW ∧ c.2 < 64 * d.mapH then
    let v := d.cellSeen a.x.2 c
    let v' := importCell op cls v
    if v = v' then a else { a with x := Dev.cellPut c v' a.x, changed := (c.1, c.2, decide (v / 8 ≠ v' / 8)) :: a.changed }
  else { a with skipped := a.skipped + 1 }

/-- One import record; one with an OP above 3 is skipped in full (Table 5.6, R153). -/
def ImportAcc.record (a : ImportAcc) (bs : List Nat) : ImportAcc :=
  let at_ := leVal (bs.take 2)
  let y := leVal ((bs.drop 2).take 2)
  let run := clampN 1 4096 (leVal ((bs.drop 4).take 2))
  let op := bs.getD 6 0
  if 3 < op then { a with skipped := a.skipped + 1 }
  else
    let a := forAll (List.range run) (fun k a => ImportAcc.one a op (bs.getD 7 0) (at_ + k, y)) a
    { a with applied := a.applied + 1, source := some (leVal ((bs.drop 8).take 2)) }

/-- The sections with a predicted test point, within the horizon, in one of the cells (R154). -/
def Dev.sectionsOver (d : Dev) (cells : List (Nat × Nat)) : List Nat :=
  if cells = [] then []
  else d.sections.filter fun s => match d.secRec s with
    | none => false
    | some r => (List.range ((d.horizon / d.testStep).toNat + 1)).any fun k =>
        (testPoints r.width (d.secAt r (d.committed r.impl) (d.md + k * d.testStep))).any fun p =>
          match d.cellOf p.e p.n with | some c => cells.contains c | none => false

/-- The sections over changed cells are to be flooded: BOUNDARY where EXCLUDED changed, else IMPORT (R154). -/
def Dev.importFlood (d : Dev) (changed : List (Nat × Nat × Bool)) : Dev :=
  let bound := d.sectionsOver ((changed.filter fun c => c.2.2).map fun c => (c.1, c.2.1))
  let other := (d.sectionsOver (changed.map fun c => (c.1, c.2.1))).filter fun s => !bound.contains s
  let d := if bound.isEmpty then d else d.floodTrigger 4 [] bound
  if other.isEmpty then d else d.floodTrigger 5 [] other

/-- A slice of up to 4,096 records is applied (R154). -/
def Dev.importSlice (m : Memory) (d : Dev) : Dev × Memory :=
  if !d.flag LAH.IMP_STATE then (d, m)
  else
    let n := Nat.min 4096 d.lah.impLeft
    let recs := (List.range n).map fun k => memReadBytes m (d.lah.impAt + 16 * k) 16
    let left := d.lah.impLeft - n
    let res : ImportAcc := forAll recs (fun b a => a.record b) ⟨(d, m), [], 0, 0, none⟩
    let d := { res.x.1 with lah := { res.x.1.lah with impAt := d.lah.impAt + 16 * n, impLeft := left } }
    let d := (((d.wr LAH.IMP_OUTSIDE (satN 32 (d.rd LAH.IMP_OUTSIDE + res.skipped))).wr LAH.IMP_APPLIED (d.rd LAH.IMP_APPLIED + res.applied)).wr
      LAH.IMP_LASTSRC (res.source.getD (d.rd LAH.IMP_LASTSRC)))
    let d := d.importFlood res.changed
    (if left = 0 then ((d.wr LAH.IMP_STATE 0).wr LAH.IMP_RESULT 1).cause LAH.EVT_IMP_DONE else d, res.x.2)

/-! The prediction cycle. -/

/-- A tile lies under a predicted test point within the horizon (R135). -/
def Dev.tileAhead (d : Dev) (t : Nat) : Bool :=
  d.sections.any fun s => match d.secRec s with
    | none => false
    | some r => (List.range ((d.horizon / d.testStep).toNat + 1)).any fun k =>
        (testPoints r.width (d.secAt r (d.committed r.impl) (d.md + k * d.testStep))).any fun p =>
          match d.cellOf p.e p.n with | some c => decide (d.tileOf c = t) | none => false

/-- The bytes of a tile as DRAM holds them (R134). -/
def Dev.tileBytes (d : Dev) (m : Memory) (t : Nat) : Memory :=
  let a := d.rd LAH.MAP_BASE * 4096 + t * 2048
  m.filter fun c => decide (a ≤ c.1 ∧ c.1 < a + 2048)

/-- Tiles along the predicted paths are fetched into the cache as DRAM holds them, newest first (R135). -/
def Dev.fetchTiles (d : Dev) (l : List Nat) (m : Memory) : Dev :=
  let l := (l.filter d.tileAhead).eraseDups
  { d with lah := { d.lah with
      cache := (l.map (fun t => (t, d.tileBytes m t)) ++ d.lah.cache.filter fun p => !l.contains p.1).take 256 } }

/-- Mismatches are put right and entries are filed, section by section in rising order; sections still to be refiled wait, and those of an
implement with a trigger that waits stand until it is taken up (R137, R143, R148, assumption 20). While an implement's MASTER is 0 its
sections are still tested, for OFF; while REVERSE or a lost MD or pose bars filing no catch-up undoes the Flood's OFF (R143, R147;
assumption 51). -/
def Dev.fileAll (d : Dev) (m : Memory) : Dev :=
  let open_ (i : Nat) : Bool := !d.lah.triggers.any fun t => t.impls.contains i
  let impl (s : Nat) : Nat := (d.secRec s).elim 8 fun r => r.impl
  let secs := d.sections.filter fun s => open_ (impl s)
  let may := secs.filter fun s => d.lahMay (impl s)
  let off := secs.filter fun s => !(d.rd LAH.MASTER).testBit (impl s) && d.flag LAH.SEC_CMD s
  let d := forAll (secs.filter fun s => may.contains s || off.contains s) (fun s d => d.catchUp m s) d
  forAll (may.filter fun s => !d.lah.refile.contains s) (fun s d => d.fileSection m s) d.fileWaiting

/-- The sections whose turn to be refiled has come leave the list: 512 a cycle of those filing is open for (R148). -/
def Dev.takeRefile (d : Dev) : Dev :=
  let due := (d.lah.refile.filter fun s => (d.secRec s).elim true fun r => d.lahMay r.impl).take 512
  { d with lah := { d.lah with refile := d.lah.refile.filter fun s => !due.contains s } }

/-- PREDICTION_CYCLE (R129 to R154). -/
def predictionCycle (fetched : List Nat) (m : Memory) (d : Dev) : Dev × Memory :=
  if !d.powered 4 ∨ !d.flag LAH.EN ∨ !d.running then (d, m)
  else
    let d := ((d.boundary 4 0).fetchTiles fetched m).rakeDue
    let (d, m) := d.importSlice m
    let d := (lahFlood m d.takeRefile).carryPose
    let d := d.poseTo d.poseState
    let d := forAll d.impls (fun i d => d.checkImpl i) d
    let d := forAll (d.lah.pan.filter fun p => !p.2.issued) (fun p d => d.reissue p.1 p.2) d
    let d := d.fileAll m
    (forAll d.sections (fun s d => d.writeRate s) d).markAll m

/-! Registers. -/

/-- FLOOD_REQUEST: floods the implements named, cause HOST (R147). -/
def floodRequest (mask : Nat) (d : Dev) : Dev := if mask % 256 = 0 then d else d.floodTrigger 10 (maskBits 8 mask) []

/-- MASTER_WRITE: a bit written from 1 to 0 floods its implement, cause MASTER (R147). -/
def masterWrite (v : Nat) (d : Dev) : Dev :=
  let fall := (maskBits 8 (d.rd LAH.MASTER)).filter fun i => !v.testBit i
  let d := d.wr LAH.MASTER v
  if fall = [] then d else d.floodTrigger 9 fall []

/-- LAH_DISABLE: EN written 0: all implements are flooded, cause MASTER, and filing stops (R156). -/
def lahDisable (m : Memory) (d : Dev) : Dev := if d.flag LAH.EN then (lahFlood m (d.floodTrigger 9 allImpls [])).wr LAH.EN 0 else d

/-- Table 5.3: ON_UNCOV_PCT, OFF_COV_PCT, BND_OFF_PCT. -/
def overlapRow (v : Nat) : Option (Nat × Nat × Nat) :=
  match v with | 0 => some (50, 60, 50) | 1 => some (1, 100, 100) | 2 => some (100, 1, 1) | _ => none

/-- OVERLAP_PRESET_WRITE: 3 is ignored unless the image defines it (R138, R90). -/
def overlapPreset (v : Nat) (d : Dev) : Dev :=
  let v := v % 4
  let row := overlapRow v
  if row.isNone ∧ !d.definesPreset LAH.OVERLAP_PRESET 0 v then d
  else (((d.wr LAH.OVERLAP_PRESET v).expand LAH.OVERLAP_PRESET 0 v LAH.ON_UNCOV_PCT 0 0 (row.map fun r => r.1)).expand LAH.OVERLAP_PRESET 0 v
    LAH.OFF_COV_PCT 0 0 (row.map fun r => r.2.1)).expand LAH.OVERLAP_PRESET 0 v LAH.BND_OFF_PCT 0 0 (row.map fun r => r.2.2)

/-- ON_UNCOV_PCT plus OFF_COV_PCT is at least 101: a write that would break this sets OFF_COV_PCT and CLAMPED (R137). -/
def Dev.coverSum (d : Dev) : Dev :=
  let on := clampN 1 100 (d.rd LAH.ON_UNCOV_PCT)
  if on + d.rd LAH.OFF_COV_PCT < 101 then (d.wr LAH.OFF_COV_PCT (101 - on)).wr LAH.CLAMPED 1 else d

/-- The map's DRAM area: first address and bytes (R134). -/
def Dev.mapArea (d : Dev) : Nat × Nat := (d.rd LAH.MAP_BASE * 4096, d.mapW * d.mapH * 2048)

/-- The map cleared to all zeros, and no tile of it held. -/
def Dev.mapClear (d : Dev) (m : Memory) : Dev × Memory :=
  let (a, n) := d.mapArea
  ({ d with lah := { d.lah with cache := [] } }, m.filter fun c => decide (c.1 < a ∨ a + n ≤ c.1))

/-- Map fields as they are kept after a write: origins in multiples of 250 mm, at most 62,500 tiles (R134, chapter 5). -/
def Dev.mapLimits (d : Dev) : Dev :=
  let d := (d.wrS LAH.MAP_ORG_E (d.rdS LAH.MAP_ORG_E - d.rdS LAH.MAP_ORG_E % 250)).wrS LAH.MAP_ORG_N
    (d.rdS LAH.MAP_ORG_N - d.rdS LAH.MAP_ORG_N % 250)
  if 62500 < d.mapW * d.mapH then (d.wr LAH.MAP_H (62500 / d.mapW - 1)).wr LAH.CLAMPED 1 else d

/-- The Brine region: first address and bytes (R381). -/
def Dev.brineArea (d : Dev) : Nat × Nat := (d.rd QUE.BRINE_BASE * 4096, 64 * d.rd QUE.BRINE_ENTRIES)

/-- The bytes a frame of camera `c` takes for each byte of a pixel. -/
def Dev.camPixels (d : Dev) (c : Nat) : Nat := d.rd ISP.C_WIDTH c * d.rd ISP.C_HEIGHT c

/-- The bytes of a frame buffer: the descriptor's page and three planes (R253). -/
def Dev.frameSize (d : Dev) (c : Nat) : Nat := 4096 + 3 * ((d.camPixels c + 4095) / 4096 * 4096)

/-- The bytes of a raw-tap buffer: what the widest tap point up to TAP_MAX needs behind the descriptor's page (R256). -/
def Dev.rawTapBytes (d : Dev) (c : Nat) : Nat :=
  match d.rd ISP.C_TAP_MAX c with
  | 0 => 0
  | 1 | 2 => 4096 + 2 * d.camPixels c
  | _ => 4096 + 6 * d.camPixels c

/-- The areas an item of CR11 places in DRAM: frame buffers, statistics slots, raw-tap buffers, feature-tap buffers (R233, R253, R255,
R256). -/
def Dev.bufferAreas (d : Dev) : List (Nat × Nat) :=
  ((d.itemsOf 11).flatMap fun it => match it with
    | .buffer lo len => [(lo, len)]
    | .camPlace c bufs stats taps => (bufs.map fun a => (a, d.frameSize c)) ++ [(stats, 8192 * d.rd ISP.C_N_BUF c)]
        ++ (taps.map fun a => (a, d.rawTapBytes c))
    | .fusTap _ a => [(a, 64 + 0x100000)]
    | _ => []).filter fun a => decide (0 < a.2)

/-- `n` bytes from `a` lie in DRAM and outside the Brine region (Table 1.11). -/
def Dev.coreMayRead (d : Dev) (a n : Nat) : Bool :=
  decide (dramBase ≤ a ∧ a + n ≤ dramEnd) && decide (a + n ≤ d.brineArea.1 ∨ d.brineArea.1 + d.brineArea.2 ≤ a)

/-- DRAM the field cores may write: not the Brine region, not the frame and raw-tap buffers (Table 1.11). -/
def Dev.coreMayWrite (d : Dev) (a n : Nat) : Bool :=
  d.coreMayRead a n && d.bufferAreas.all fun b => decide (a + n ≤ b.1 ∨ b.1 + b.2 ≤ a)

/-- IMPORT_GO: starts a batch, or is refused BUSY or BAD-ADDR (R153). -/
def importGo (d : Dev) : Dev :=
  let a := 16 * d.rd LAH.IMP_ADDR16
  let n := clampN 1 65536 (d.rd LAH.IMP_CNT)
  if d.flag LAH.IMP_STATE then d.wr LAH.IMP_RESULT 2
  else if !d.coreMayWrite a (16 * n) then d.wr LAH.IMP_RESULT 3
  else { d with lah := { d.lah with impAt := a, impLeft := n } }.wr LAH.IMP_STATE 1 |>.wr LAH.IMP_APPLIED 0 |>.wr LAH.IMP_RESULT 0

/-- RATE_FILE: a rate entry for implement `i` from its registers (R146). It is filed at once, be its target within the horizon or beyond
(assumption 51). -/
def rateFile (i : Nat) (d : Dev) : Dev :=
  if 8 ≤ i ∨ d.rd LAH.IMP_TYPE i = 0 ∨ !d.lahMay i then d
  else
    let target := sgn 48 (d.rd LAH.IMP_RATE_MD_LO i + d.rd LAH.IMP_RATE_MD_HI i * 2 ^ 32)
    d.panFile { isRate := true, who := i, impl := i, value := d.rd LAH.IMP_RATE_VAL i, target := target,
                issueMd := target - travel (Nat.min 4000 (d.rd LAH.IMP_DELAY_RATE_MS i)) d.tmb.fused
                issued := false, handle := 0, mtIssue := 0, delayMs := 0, dev := 0, before := 0, stall := false, flags := 0 }

end Sys2Proof.Machine
end

