-- ==== Sys2Proof/Machine/Slu.lean ====
section
/-! DEFINITION. Machine/Slu.lean: Sluice groups, Carsil and the participant's side (chapter 6, R157 to R184). -/

namespace Sys2Proof.Machine

/-! States, reasons and flags (Tables 6.3, 6.4 and 6.8). -/

def slIdle : Nat := 0
def slArmed : Nat := 1
def slPreparing : Nat := 2
def slVoting : Nat := 3
def slCommit : Nat := 4
def slAbort : Nat := 5
def slOutcome : Nat := 6
def slComp : Nat := 7

/-- NODE 0xFE: the module itself (R159). -/
def nodeLocal : Nat := 0xFE

/-! Built content. -/

/-- The entries CR8 builds for template `t`: actions, or compensation entries (R158). -/
def Dev.tplEntries (d : Dev) (t : Nat) (comp : Bool) : List SlAct :=
  (d.itemsOf 8).filterMap fun it => match it with
    | .tplEntry k c a => if k = t ∧ c = comp then some a else none
    | _ => none

/-- The report queue of template `t`. -/
def Dev.tplReport (d : Dev) (t : Nat) : Option Nat :=
  (d.itemsOf 8).findSome? fun it => match it with
    | .template k q => if k = t then q else none
    | _ => none

/-- The remote nodes a list of entries names. -/
def remoteNodes (l : List SlAct) : List Nat := ((l.map fun a => a.node).filter fun a => decide (a < nodeLocal)).eraseDups

/-- The group of template `t`. -/
def Dev.grp (d : Dev) (t : Nat) : SlGroup := tget t d.slu.groups

/-- Replaces the group of template `t`. -/
def Dev.setGrp (d : Dev) (t : Nat) (g : SlGroup) : Dev := { d with slu := { d.slu with groups := tset t g d.slu.groups } }

/-- Moves template `t` to a state (Table 6.4). -/
def Dev.slState (d : Dev) (t st : Nat) : Dev := d.wr SLU.T_STATE st t

/-- A group that has not been decided (R173): ARMED, PREPARING or VOTING. -/
def Dev.slUndecided (d : Dev) (t : Nat) : Bool := let s := d.rd SLU.T_STATE t; decide (1 ≤ s ∧ s ≤ 3)

/-- The templates with an open group (R161). -/
def Dev.slOpen (d : Dev) : List Nat := d.slu.groups.map fun p => p.1

/-- OPEN (R161). -/
def Dev.slCount (d : Dev) : Dev := d.wr SLU.OPEN d.slu.groups.length

/-! Carsil windows (R172, R357). -/

/-- The Carsil window entries of a port: start, length, BASE, REP. -/
def Dev.carsilRows (d : Dev) (port : Nat) : List (Nat × Nat × Nat × Nat) :=
  (d.itemsOf 13).filterMap fun it => match it with
    | .canWindow p s l k b r _ => if p = port ∧ k = 4 then some (s, l, b, r) else none
    | _ => none

/-- The reference mark, in MT, from which CAN0's basic cycles are counted. -/
def Dev.cycleMark (d : Dev) : Option Nat :=
  match tget? 0 d.net.marks, tget? 1 d.net.marks with
  | some m, _ => some m
  | none, some m => some (m - 1000 * d.rd CAN.CAN1_OFS_US)
  | none, none => none

/-- The parts of the Carsil windows of basic cycle `j` after the last mark that a port gives, in MT. -/
def Dev.portWindows (d : Dev) (mark j port : Nat) : List (Nat × Nat) :=
  let cyc := 1000 * d.rd CAN.P_CYCLE_US 0
  let c := (d.rd CAN.P_CYCLE (if (tget? 0 d.net.marks).isSome then 0 else 1) + j) % Nat.max 1 (d.rd CAN.P_MATRIX_CYCLES 0)
  let ofs := if port = 1 then 1000 * d.rd CAN.CAN1_OFS_US else 0
  ((d.carsilRows port).filter fun w => decide (c % 2 ^ w.2.2.2 = w.2.2.1)).map fun w =>
    (mark + j * cyc + ofs + 1000 * w.1, mark + j * cyc + ofs + 1000 * (w.1 + w.2.1))

/-- The Carsil window of the exchange in CAN0 basic cycle `j`: from the first start to the last end on both ports (R172, R357). -/
def Dev.cycleWindow (d : Dev) (mark j : Nat) : Option (Nat × Nat) :=
  (d.portWindows mark j 0 ++ d.portWindows mark j 1).foldl (fun a w => match a with
    | none => some w
    | some v => some (Nat.min v.1 w.1, Nat.max v.2 w.2)) none

/-- The next `n` Carsil windows that start at or after an MT, looked for over `fuel` basic cycles from cycle `j`. -/
def Dev.nextWindows (d : Dev) (mark t : Nat) : Nat → Nat → Nat → List (Nat × Nat)
  | 0, _, _ => []
  | fuel + 1, j, n =>
    if n = 0 then []
    else match d.cycleWindow mark j with
      | some w => if t ≤ w.1 then w :: d.nextWindows mark t fuel (j + 1) (n - 1) else d.nextWindows mark t fuel (j + 1) n
      | none => d.nextWindows mark t fuel (j + 1) n

/-- The next `n` Carsil windows that start at or after MT `t`. -/
def Dev.carsilWindows (d : Dev) (t n : Nat) : List (Nat × Nat) :=
  match d.cycleMark with
  | none => []
  | some m =>
    let cyc := Nat.max 1000000 (1000 * d.rd CAN.P_CYCLE_US 0)
    d.nextWindows m t (64 * (n + 1)) ((t - m) / cyc - 1) n

/-- The exchange that starts with the first window at or after `t`: that window, the end of the last vote window and the end of
the decision window (R172). -/
def Dev.exchange (d : Dev) (t votes : Nat) : Option ((Nat × Nat) × Nat × Nat) :=
  let l := d.carsilWindows t (votes + 2)
  match l.head?, l.drop votes, l.drop (votes + 1) with
  | some p, v :: _, w :: _ => some (p, v.2, w.2)
  | _, _, _ => none

/-- The exchange meets the commit instant: the decision window ends DECIDE_MARGIN_US before it (R172). -/
def inTime (x : Option ((Nat × Nat) × Nat × Nat)) (margin commit : Nat) : Bool :=
  match x with | some (_, _, e) => decide (e + 1000 * margin ≤ commit) | none => false

/-! Carsil frames (Tables 6.5 and 6.6). -/

/-- Network time of an MT (R358). -/
def Dev.netTime (d : Dev) (mt : Nat) : Nat := enc 64 (mt + d.gpsOfs)

/-- The MT of a network time. -/
def Dev.mtOfNet (d : Dev) (t : Nat) : Nat := ((t : Int) - d.gpsOfs).toNat

/-- The header of Table 6.5. -/
def Dev.carsilHead (d : Dev) (type group inst dst : Nat) : List Nat :=
  [16 + type, group] ++ leBytes 2 inst ++ [d.rd ETH.OWN_ADDR, dst, 0, 0]

/-- An 8-byte entry (Table 6.2). -/
def SlAct.bytes (a : SlAct) : List Nat := [a.kind, a.node] ++ leBytes 2 a.target ++ leBytes 4 a.value

/-- The entry in 8 bytes. -/
def actOf (bs : List Nat) : SlAct := ⟨bs.getD 0 0, bs.getD 1 0, leVal ((bs.drop 2).take 2), leVal ((bs.drop 4).take 4)⟩

/-- Up to `n` entries of 8 bytes each. -/
def actsOf : Nat → List Nat → List SlAct
  | 0, _ => []
  | n + 1, bs => if bs.length < 8 then [] else actOf (bs.take 8) :: actsOf n (bs.drop 8)

/-- The PREPARE or COMP frames of a node's entries, five a frame (R169). -/
def Dev.entryFrames (d : Dev) (type group inst node time grace : Nat) (l : List SlAct) : List (List Nat) :=
  let n := Nat.max 1 (ceilDiv l.length 5)
  (List.range n).map fun k =>
    let part := (l.drop (5 * k)).take 5
    d.carsilHead type group inst node ++ leBytes 8 time ++ leBytes 2 grace ++ [k + 128 * bit (k + 1 = n), part.length] ++ leBytes 4 0
      ++ padTo 40 (part.flatMap SlAct.bytes)

/-- The links to the node with a Carsil address: CAN ports, and 2 + n for the Ethernet link of device n (R168). -/
def Dev.carsilLinks (d : Dev) (addr : Nat) : List Nat :=
  (d.itemsOf 13).flatMap fun it => match it with
    | .netNode n cans eth (some a) _ => if a = addr then (cans.filter fun p => decide (p < 2)) ++ (if eth.isSome then [2 + n] else []) else []
    | _ => []

/-- The points of the device, or of the peer, with a Carsil address are lost (R29, R168, R176). -/
def Dev.carsilPointsLost (d : Dev) (addr : Nat) : Dev :=
  forAll ((List.range 16).filter fun e => d.flag ETH.PE_BUILT e && decide (d.rd ETH.PE_ADDR e = addr)) (fun e d => d.sourceLost (.peer e))
    (forAll (d.itemsOf 13) (fun it d => match it with
      | .netNode n _ _ (some a) _ => if a = addr then d.sourceLost (.node n) else d
      | _ => d) d)

/-- Frames to a node wait for the next Carsil window (R172). -/
def Dev.carsilQueue (d : Dev) (prepOf : Option Nat) (addr : Nat) (frames : List (List Nat)) : Dev :=
  let l := frames.flatMap fun f => (d.carsilLinks addr).map fun k => (⟨k, prepOf, f⟩ : SlTx)
  { d with slu := { d.slu with tx := d.slu.tx ++ l } }

/-- The frames the module's part of a Carsil window carries on a CAN port (R172). -/
def Dev.carsilRoom (d : Dev) (port : Nat) : Nat :=
  ((d.itemsOf 13).findSome? fun it => match it with | .carsilFrames p n => if p = port then some n else none | _ => none).getD 0

/-- A Carsil frame leaves on its link: on CAN only while the port is SYNCED; one due in bus-off counts MISSED_WIN (R168, R351,
R356). -/
def Dev.carsilSend (d : Dev) (x : SlTx) : Dev :=
  if x.link < 2 then
    if d.rd CAN.P_SYNC x.link = 2 then d.emit (.can x.link (d.rd CAN.CARSIL_ID_BASE + x.data.getD 0 0 % 16) x.data)
    else if d.rd CAN.P_ERR_STATE x.link = 2 then d.count CAN.P_MISSED_WIN x.link else d
  else
    (d.itemsOf 13).foldl (fun d it => match it with
      | .netNode n _ (some (p, ip)) _ _ => if n + 2 = x.link then d.emit (.eth p 1 ip x.data) else d
      | _ => d) d

/-- The frames that wait leave in their order as far as the open window carries them; the rest wait for the next (R172). -/
def Dev.carsilDrain (d : Dev) : Dev :=
  forAll d.slu.tx (fun x d =>
    let used : Nat := (tget? x.link d.slu.used).getD 0
    if x.link < 2 ∧ d.carsilRoom x.link ≤ used then { d with slu := { d.slu with tx := d.slu.tx ++ [x] } }
    else { d with slu := { d.slu with used := if x.link < 2 then tset x.link (used + 1) d.slu.used else d.slu.used } }.carsilSend x)
    { d with slu := { d.slu with tx := [] } }

/-! Local actions (R164, R165). -/

/-- What a local action holds: kinds VALVE-START and VALVE-STOP share a channel. -/
def SlAct.key (a : SlAct) : Nat × Nat := (if a.kind = 4 then 3 else a.kind, a.target)

/-- The output gate, a latched fault and the running loop, checked for one local action (R164). -/
def Dev.actPasses (d : Dev) (a : SlAct) : Bool :=
  match a.kind with
  | 1 => decide (a.target < 64) && d.powered 10 && d.flag LSW.CH_BUILT a.target && d.gateOpen (.ls a.target) && !d.lsLatchedFault a.target
  | 2 => decide (a.target < 64) && d.powered 12 && d.pinIsOut a.target && d.gateOpen (.io a.target) && !d.flag FIO.PIN_OUT_FAULT a.target
  | 3 => decide (a.target < 32) && d.flag VDR.EN && d.flag VDR.CH_BUILT a.target && d.flag VDR.PS_BUILT (a.value % 32)
      && d.gateOpen (.vd a.target) && decide (d.rd VDR.CH_STATE a.target ≠ vdStLatched)
  | 4 => decide (a.target < 32) && d.flag VDR.EN && d.flag VDR.CH_BUILT a.target && d.gateOpen (.vd a.target)
      && decide (d.rd VDR.CH_STATE a.target ≠ vdStLatched)
  | 5 => decide (a.target < 256) && d.flag CTL.EN && d.flag CTL.S_BUILT a.target && d.flag CTL.S_EN a.target && !d.loopGated a.target
      && decide ((d.lp a.target).st = lpRun)
  | 6 => d.flag LAH.EN
  | _ => false

/-- The gate of a local action's output is closed (R174). -/
def Dev.actGated (d : Dev) (a : SlAct) : Bool :=
  match a.kind with
  | 1 => !d.gateOpen (.ls a.target)
  | 2 => !d.gateOpen (.io a.target)
  | 3 => !d.gateOpen (.vd a.target)
  | 4 => !d.gateOpen (.vd a.target)
  | 5 => d.loopGated a.target
  | _ => false

/-- Another group, or another coordinator's group, has reserved the target (R164). -/
def Dev.actHeld (d : Dev) (t : Nat) (a : SlAct) : Bool :=
  (d.slu.groups.any fun p => decide (p.1 ≠ t) && p.2.staged.any fun b => decide (b.key = a.key))
    || d.slu.parts.any fun q => decide (q.vote = some true ∧ q.res = 0) && (q.frags.flatMap fun f => f.2).any fun b => decide (b.key = a.key)

/-- A staged value is delivered (R165, R180). -/
def Dev.actDeliver (d : Dev) (a : SlAct) : Dev :=
  match a.kind with
  | 1 => lsCommand a.target (a.value.testBit 0) d
  | 2 => ioCommand a.target (a.value.testBit 0) d
  | 3 => vdStart a.target (a.value % 32) d
  | 4 => vdStop a.target d
  | 5 => d.loopSetpoint a.target (a.value % 65536)
  | 6 =>
    let mask := a.value % 256
    let new := a.value / 256 % 256
    masterWrite (Nat.lor (Nat.land (d.rd LAH.MASTER) (255 - mask)) (Nat.land new mask)) d
  | _ => d

/-- Delivers a list of entries in order. -/
def Dev.actsDeliver (d : Dev) (l : List SlAct) : Dev := forAll l (fun a d => d.actDeliver a) d

/-- The first failing reason of local prepare: 1 LOCAL-PREPARE, 2 CONFLICT (R164). -/
def Dev.prepReason (d : Dev) (t : Nat) (l : List SlAct) : Option Nat :=
  l.findSome? fun a => if !d.actPasses a then some 1 else if d.actHeld t a then some 2 else none

/-! The end of a group (R183). -/

/-- The outcome item of Table 6.8. A commit instant or a node the group never had is a free value (assumption 3). -/
def Dev.outcomeItem (d : Dev) (t outcome reason : Nat) (g : SlGroup) : Dev :=
  let cm := g.commitMt.getD (d.free % 2 ^ 64)
  let d := if g.commitMt.isNone then d.freeTaken else d
  let node := g.blame.getD (d.free % 256)
  let d := if g.blame.isNone then d.freeTaken else d
  let d := (((d.wr SLU.T_OUTCOME outcome t).wr SLU.T_REASON reason t).wr SLU.T_NODE node t).wr SLU.T_N_LATE g.nLate t
  d.queueItem? 5 (d.tplReport t) ([t, outcome, reason, g.flags] ++ leBytes 2 g.inst ++ [node, g.nLate % 256] ++ leBytes 8 cm
    ++ leBytes 8 d.mt ++ leBytes 6 (enc 48 d.md) ++ [0, 0])

/-- Counters and event causes of an outcome. -/
def Dev.outcomeCount (d : Dev) (outcome : Nat) : Dev :=
  match outcome with
  | 1 => (d.count SLU.COMMITS).cause SLU.EVT_COMMITTED
  | 2 => (d.count SLU.ABORTS).cause SLU.EVT_ABORTED
  | 3 => d.cause SLU.EVT_PARTIAL
  | _ => d.cause SLU.EVT_INCOMPLETE

/-- The group leaves the machine: IDLE (Table 6.4). -/
def Dev.grpGone (d : Dev) (t : Nat) : Dev :=
  ({ d with slu := { d.slu with
      groups := tdel t d.slu.groups
      tx := d.slu.tx.filter fun x => x.prepOf ≠ some t
      due := d.slu.due.filter fun x => x.1 ≠ t } }.slState t slIdle).slCount

/-- The group's scheduler events are cancelled, with their records (R123); one that has crossed issues to a group that is gone (R119). -/
def Dev.grpEvents (d : Dev) (g : SlGroup) : Dev :=
  let drop (h : Option Nat) (d : Dev) : Dev := match h.bind fun h => (d.pendingEvent h).map fun e => (h, e) with
    | some (h, e) =>
      if d.mayIssue e then (d.issueRecord h e (bit e.late + d.mdFlags + 8 * bit e.held)).afterIssue (h % 4096) e false else d.cancel h
    | none => d
  drop g.commitEvent (drop g.prepEvent d)

/-- A group ends for good with its outcome item. -/
def Dev.grpEnd (d : Dev) (t outcome reason : Nat) : Dev :=
  let g := d.grp t
  ((((d.grpEvents g).outcomeItem t outcome reason g).outcomeCount outcome).grpGone t).recover Flt.SLU_ABORTED_LATE t

/-- A group is aborted: its item is written now and its reservations are released; one whose PREPARE has gone out stays
DECIDED-ABORT to tell its nodes (R172, R174, Table 6.4). -/
def Dev.grpAbort (d : Dev) (t reason : Nat) (blame : Nat := nodeLocal) : Dev :=
  let g := d.grp t
  let sent := g.remote && decide (slPreparing ≤ d.rd SLU.T_STATE t)
  let g := { g with blame := some blame, reason := reason, staged := [] }
  if sent then
    let d := ((d.grpEvents g).outcomeItem t 2 reason g).outcomeCount 2
    let d := { d with slu := { d.slu with tx := d.slu.tx.filter fun x => x.prepOf ≠ some t } }
    (d.setGrp t { g with prepEvent := none, commitEvent := none, told := false }).slState t slAbort
  else (d.setGrp t g).grpEnd t 2 reason

/-- Aborts every undecided group that a condition picks. -/
def Dev.grpAbortAll (d : Dev) (p : Nat → SlGroup → Bool) (reason : Nat) : Dev :=
  forAll (d.slu.groups.filter fun x => p x.1 x.2) (fun x d => if d.slUndecided x.1 then d.grpAbort x.1 reason else d) d

/-! Arming (R161). -/

/-- The scheduler class CR6 assigns to the unit (R163). -/
def Dev.sluClass (d : Dev) : Option Nat :=
  (List.range 32).find? fun c => match d.classRow c with | some (.slu, f, _, _) => f.testBit 1 | _ => false

/-- The current mode is in MODE_MASK (Table 6.1). -/
def Dev.tplMode (d : Dev) (t : Nat) : Bool :=
  let m := d.mode
  decide (4 ≤ m ∧ m ≤ 6) && (d.rd SLU.T_MODE_MASK t).testBit (m - 4)

/-- A peer excluded by chapter 14 has this Carsil address (R161, R370). -/
def Dev.peerExcluded (d : Dev) (addr : Nat) : Bool :=
  (List.range 16).any fun e => d.flag ETH.PE_BUILT e && decide (d.rd ETH.PE_ADDR e = addr) && !d.flag ETH.PE_MATCH e && !d.flag ETH.PE_JOINING e
    && (d.rd ETH.PEER_SEEN).testBit e

/-- The limits of the timing fields (R184). -/
def Dev.graceUs (d : Dev) : Nat := clampN 100 10000 (d.rd SLU.GRACE_US)
def Dev.marginUs (d : Dev) : Nat := clampN 100 10000 (d.rd SLU.DECIDE_MARGIN_US)
def Dev.voteWindows (d : Dev) : Nat := clampN 1 4 (d.rd SLU.VOTE_WINDOWS)
def Dev.prepLead (d : Dev) (t : Nat) : Nat := clampN 20 1000000 (d.rd SLU.T_PREP_LEAD t)

/-- The commit instant written (R161): MT, or MD sign-extended. -/
def Dev.armTarget (d : Dev) (md : Bool) : Int :=
  let v := d.rd SLU.ARM_TGT_LO + d.rd SLU.ARM_TGT_HI * 2 ^ 32
  if md then sgn 64 v else (v : Int)

/-- The target of the prepare event of an MD group: PREP_LEAD before the commit target in the class's direction (R163). -/
def Dev.prepTarget (d : Dev) (c t : Nat) (target : Int) : Int :=
  let lead : Int := 10 * d.prepLead t
  let back := decide (d.dirOf c = 1) || (decide (d.dirOf c = 2) && decide (d.tmb.rate < 0))
  if back then target + lead else target - lead

/-- The timing a group is prepared with (R172, Table 3.6). -/
def Dev.timed (d : Dev) (g : SlGroup) : SlGroup :=
  { g with grace := d.graceUs, margin := d.marginUs, votes := d.voteWindows, tries := d.rd SLU.OUTCOME_TRIES }

/-- A template has remote actions as it stands built (R162). -/
def Dev.tplRemote (d : Dev) (t : Nat) : Bool := !(remoteNodes (d.tplEntries t false)).isEmpty

/-- The group an arm opens. -/
def Dev.newGroup (d : Dev) (t inst : Nat) (md : Bool) (target : Int) : SlGroup :=
  d.timed { (default : SlGroup) with
    inst := inst
    isMd := md
    target := target
    remote := d.tplRemote t
    commitMt := if md then none else some target.toNat }

/-- The refusals of Table 6.3 that need no instant; none when there is no such cause. -/
def Dev.armRefusal (d : Dev) (t : Nat) : Option Nat :=
  let nodes := remoteNodes (d.tplEntries t false)
  if !d.flag SLU.EN then some 7
  else if !d.flag SLU.T_BUILT t ∨ (d.flag SLU.T_COORD t ∧ d.sluClass.isNone) then some 5
  else if !d.tplMode t then some 6
  else if (tget? t d.slu.groups).isSome then some 2
  else if 32 ≤ d.slu.groups.length then some 3
  else if nodes.any d.peerExcluded then some 9
  else if nodes ≠ [] ∧ !d.flag SLU.CARSIL_READY then some 8
  else none

/-- A refused arm changes nothing but what tells of it (R161). -/
def Dev.armRefuse (d : Dev) (code : Nat) : Dev := ((d.wr SLU.ARM_RESULT code).count SLU.REFUSALS).cause SLU.EVT_REFUSED

/-- An accepted arm: the group is open and ARMED. -/
def Dev.armAccept (d : Dev) (t : Nat) (g : SlGroup) : Dev :=
  ((((d.setGrp t g).slState t slArmed).wr SLU.ARM_RESULT 1).wr SLU.ARM_INSTANCE g.inst |>.wr SLU.T_INSTANCE g.inst t).slCount

/-! Prepare and commit. -/

/-- Local prepare: checks, reservations and staging; a failure of a local-only group ends it, one of a remote group is judged at
its decision (R164, R173). -/
def Dev.localPrepare (d : Dev) (t : Nat) : Dev :=
  let acts := d.tplEntries t false
  let loc := acts.filter fun a => decide (a.node = nodeLocal)
  let g := { d.grp t with
    acts := acts
    comps := d.tplEntries t true
    nodes := (remoteNodes acts).map fun a => ⟨a, none, 0, 0, 0⟩ }
  match d.prepReason t loc with
  | none => d.setGrp t { g with staged := loc }
  | some r => d.setGrp t { g with prepFail := some r }

/-- A group with only local actions is prepared at its prepare instant. -/
def Dev.prepareLocal (d : Dev) (t : Nat) : Dev :=
  let d := (d.slState t slPreparing).localPrepare t
  match (d.grp t).prepFail with
  | some r => d.grpAbort t r
  | none => d

/-- The commit of a group with only local actions: the second check, then every staged value (R165). -/
def Dev.commitLocal (d : Dev) (t : Nat) : Dev :=
  let g := d.grp t
  if g.staged.all d.actPasses then ((d.setGrp t { g with commitMt := some (g.commitMt.getD d.mt) }).actsDeliver g.staged).grpEnd t 1 0
  else d.grpAbort t 12

/-- MD_FREEZE: the commit MT of a remote MD group, to whole µs; none below 0.1 m/s (R167). -/
def Dev.freezeMt (d : Dev) (target : Int) : Option Nat :=
  if d.tmb.fused < 25600 then none
  else
    let ns : Int := d.mt + (target - d.md) * 25600000000 / d.tmb.fused
    some (((ns + 500) / 1000 * 1000).toNat)

/-- The PREPARE frames of a group enter the window's frames (R169). -/
def Dev.prepareFrames (d : Dev) (t commit : Nat) (g : SlGroup) : Dev :=
  forAll g.nodes (fun n d => d.carsilQueue (some t) n.addr
    (d.entryFrames 1 t g.inst n.addr (d.netTime commit) g.grace (g.acts.filter fun a => decide (a.node = n.addr)))) d

/-- After a window has carried what it could: the PREPARE window of a group is this one, or its frames move to the next and the
rule of R172 is checked again. -/
def Dev.prepareSettle (d : Dev) (t : Nat) : Dev :=
  let g := d.grp t
  let start : Nat := match d.slu.window with | some w => w.1 | none => d.mt
  if d.slu.tx.any fun x => decide (x.prepOf = some t) then
    if inTime (d.exchange (start + 1) g.votes) g.margin (g.commitMt.getD 0) then d else d.grpAbort t 11
  else match d.exchange start g.votes with
    | some (_, v, _) => (d.setGrp t { g with voteEnd := v }).slState t slVoting
    | none => d.grpAbort t 11

/-- The prepare instant of a remote group, at the start of a Carsil window: freezing, local prepare, PREPARE frames. -/
def Dev.prepareRemote (d : Dev) (t : Nat) : Dev :=
  let g := d.timed (d.grp t)
  match (if g.isMd then d.freezeMt g.target else g.commitMt) with
  | none => d.grpAbort t 14
  | some c =>
    let d := (d.grpEvents g).setGrp t { g with
      isMd := false
      commitMt := some c
      prepEvent := none
      commitEvent := none
      flags := if g.isMd then putBit 0 true g.flags else g.flags }
    if !inTime (d.exchange d.mt g.votes) g.margin c then d.grpAbort t 11
    else
      let d := (d.slState t slPreparing).localPrepare t
      ((d.prepareFrames t c (d.grp t)).carsilDrain).prepareSettle t

/-- SLUICE_PREPARE: the prepare instant of an ARMED group comes (R163, R164). -/
def sluicePrepare (t : Nat) (d : Dev) : Dev :=
  if d.rd SLU.T_STATE t ≠ slArmed then d
  else match (d.grp t).prepMt with
    | none => d
    | some p => if (d.grp t).remote then (d.waitMt p).prepareRemote t else (d.waitMt p).prepareLocal t

/-- The prepare event of an MD group issues, or prepare is due at once (R163, R166). -/
def Dev.mdPrepare (d : Dev) (t : Nat) (held late : Bool) : Dev :=
  if d.rd SLU.T_STATE t ≠ slArmed then d
  else
    let g := d.grp t
    let g := { g with
      prepEvent := none
      flags := putBit 2 (late || g.flags.testBit 2) (putBit 1 (held || g.flags.testBit 1) g.flags) }
    let d := d.setGrp t g
    if g.remote then
      match d.carsilWindows (d.mt + 20000) 1 with
      | w :: _ => d.setGrp t { g with prepMt := some w.1 }
      | [] => d.grpAbort t 11
    else d.prepareLocal t

/-- The commit event of an MD group issues (R166). A remote group that is not yet frozen has missed its windows. -/
def Dev.mdCommit (d : Dev) (t : Nat) (held late : Bool) : Dev :=
  if !d.slUndecided t then d
  else
    let g := d.grp t
    let g := { g with
      commitEvent := none
      flags := putBit 2 (late || g.flags.testBit 2) (putBit 1 (held || g.flags.testBit 1) g.flags) }
    let d := d.setGrp t g
    if g.remote then d.grpAbort t 11
    else
      let d := if d.rd SLU.T_STATE t = slArmed then d.prepareLocal t else d
      if d.rd SLU.T_STATE t = slPreparing then d.commitLocal t else d

/-- The scheduler delivers an event of the Sluice class: argument 2 × template, plus 1 for the commit event, whose group acts behind the
scheduler's other issues of that cycle (R163, R165). -/
def Dev.sluEvent (d : Dev) (arg : Nat) (late held : Bool) : Dev :=
  if arg % 2 = 1 then { d with slu := { d.slu with due := d.slu.due ++ [(arg / 2, held, late)] } } else d.mdPrepare (arg / 2) held late

/-- The groups whose commit events have issued act, unless an event that crossed by the instant `c` still waits to be delivered (R165). -/
def Dev.sluDue (d : Dev) (c : Nat) : Dev :=
  if d.slu.due = [] ∨ d.tmb.slots.any (fun s => d.mayIssue s.2 && decide (s.2.crossed.getD 0 ≤ c)) then d
  else forAll d.slu.due (fun x d => d.mdCommit x.1 x.2.1 x.2.2) { d with slu := { d.slu with due := [] } }

/-- SLUICE_ARM of an MT template: its prepare instant and whether the commit instant can be met (R163, R172). -/
def Dev.armMt (d : Dev) (t : Nat) (g : SlGroup) : Dev :=
  if g.remote then
    let x := d.exchange (d.mt + 20000) g.votes
    if inTime x g.margin g.target.toNat then d.armAccept t { g with prepMt := x.map fun x => x.1.1 } else d.armRefuse 4
  else if g.target < d.mt + 20000 then d.armRefuse 4
  else d.armAccept t { g with prepMt := some (Nat.max d.mt (g.target.toNat - 1000 * d.prepLead t)) }

/-- A late arm under ISSUE-NOW: the commit event issues at once, or waits while MD events are held or MD is LOST (R166). -/
def Dev.armLate (d : Dev) (t c : Nat) (g : SlGroup) : Dev :=
  match d.placeEvent c g.target (2 * t + 1) 1 with
  | none => d.fullSeen.armRefuse 3
  | some (d, h) =>
    let r := d.issueLate (h % 4096)
    if r.2 then (r.1.armAccept t { g with flags := 4 }).mdCommit t false true
    else r.1.armAccept t { g with flags := 4, commitEvent := some h }

/-- The prepare event of an accepted MD group is late under ISSUE-NOW: it issues at once, or waits (R166). -/
def Dev.armPrepLate (d : Dev) (t s : Nat) : Dev :=
  let r := d.issueLate s
  if r.2 then r.1.mdPrepare t false true else r.1

/-- A CR8 swap has changed the content of an ARMED MT group: where it has gained or lost its remote actions its prepare instant is found anew
(R163, R172, R181). -/
def Dev.rearm (d : Dev) (t : Nat) : Dev :=
  let g := d.grp t
  if d.rd SLU.T_STATE t ≠ slArmed ∨ g.remote = d.tplRemote t then d
  else if g.isMd then d.setGrp t { g with remote := d.tplRemote t }
  else if d.tplRemote t then
    let x := d.exchange (d.mt + 20000) g.votes
    if inTime x g.margin g.target.toNat then d.setGrp t { g with remote := true, prepMt := x.map fun x => x.1.1 } else d.grpAbort t 11
  else d.setGrp t { g with remote := false, prepMt := some (Nat.max d.mt (g.target.toNat - 1000 * d.prepLead t)) }

/-- SLUICE_ARM of an MD template: its two events are filed; a late one acts at once or is refused (R163, R166). -/
def Dev.armMd (d : Dev) (t c : Nat) (g : SlGroup) : Dev :=
  let p := d.prepTarget c t g.target
  if (d.lateAt c g.target ∨ d.lateAt c p) ∧ d.flag TMB.CLASS_LATE_POLICY c then d.armRefuse 4
  else if d.lateAt c g.target then d.armLate t c g
  else match d.placeEvent c g.target (2 * t + 1) 1 with
    | none => d.fullSeen.armRefuse 3
    | some (d1, h) => match d1.placeEvent c p (2 * t) 1 with
      | none => d.fullSeen.armRefuse 3
      | some (d2, h2) =>
        let d3 := d2.armAccept t { g with commitEvent := some h, prepEvent := some h2 }
        if d.lateAt c p then d3.armPrepLate t (h2 % 4096) else d3

/-- SLUICE_ARM: GO with a template number (R161). -/
def sluiceArm (t : Nat) (d : Dev) : Dev :=
  let t := t % 256
  match d.armRefusal t with
  | some c => d.armRefuse c
  | none =>
    let md := d.flag SLU.T_COORD t
    let g := d.newGroup t ((d.rd SLU.ARM_INSTANCE + 1) % 65536) md (d.armTarget md)
    if md then d.armMd t (d.sluClass.getD 0) g else d.armMt t g

/-- The scheduler has removed an event of an undecided MD group: cancelled at a reversal (8) or discarded at a release (9) (R166). -/
def Dev.sluOrphans (d : Dev) (reason : Nat) : Dev :=
  let gone (h : Option Nat) : Bool := match h with | some h => (d.pendingEvent h).isNone | none => false
  d.grpAbortAll (fun _ g => gone g.prepEvent || gone g.commitEvent) reason

/-- SLUICE_COMMIT: the commit instant of a group comes (R165, R174). -/
def sluiceCommit (t : Nat) (d : Dev) : Dev :=
  let g := d.grp t
  match g.commitMt with
  | none => d
  | some c =>
    if !g.remote ∧ d.rd SLU.T_STATE t = slPreparing then (d.waitMt c).commitLocal t
    else if d.rd SLU.T_STATE t = slCommit then
      let d := d.waitMt c
      let shut := g.staged.filter d.actGated
      let fl := if shut.isEmpty then g.flags else putBit 3 true g.flags
      ((d.actsDeliver g.staged).setGrp t { g with flags := fl, staged := [], gated := shut.map SlAct.key }).slState t slOutcome
    else d

/-! Decision (R173). -/

/-- The reason against a commit, with the node: local prepare, the first NO, the first missing vote. -/
def SlGroup.against (g : SlGroup) : Option (Nat × Nat) :=
  match g.prepFail, g.nodes.find? (fun n => decide (n.vote = some false)), g.nodes.find? (fun n => decide (n.vote = none)) with
  | some r, _, _ => some (r, nodeLocal)
  | none, some n, _ => some (3, n.addr)
  | none, none, some n => some (4, n.addr)
  | none, none, none => none

/-- SLUICE_DECIDE: the last vote window of a group ends (R173). -/
def sluiceDecide (t : Nat) (d : Dev) : Dev :=
  if d.rd SLU.T_STATE t ≠ slVoting then d
  else
    let d := d.waitMt (d.grp t).voteEnd
    match (d.grp t).against with
    | some (r, n) => d.grpAbort t r n
    | none => d.slState t slCommit

/-- SLUICE_CANCEL: the field cores name a group to cancel (R173). -/
def sluiceCancel (t : Nat) (d : Dev) : Dev :=
  let t := t % 256
  if (tget? t d.slu.groups).isNone then d.wr SLU.CANCEL_RESULT 2
  else if d.slUndecided t then (d.grpAbort t 5).wr SLU.CANCEL_RESULT 0
  else d.wr SLU.CANCEL_RESULT 1

/-! Messages from nodes (R169). -/

/-- A Carsil message the module takes: version 1, its type, its own address or 0xFF (R169). -/
def Dev.carsilFor (d : Dev) (type : Nat) (bs : List Nat) : Bool :=
  decide (bs.getD 0 0 = 16 + type) && (decide (bs.getD 5 0 = d.rd ETH.OWN_ADDR) || decide (bs.getD 5 0 = 0xFF))

/-- A node given up sends again: its fault ends (Table 18.6). -/
def Dev.nodeHeard (d : Dev) (addr : Nat) : Dev :=
  if d.slu.givenUp.contains addr then
    { d with slu := { d.slu with givenUp := d.slu.givenUp.filter fun a => a ≠ addr } }.recover Flt.SLU_OUTCOME_UNKNOWN addr
  else d

/-- The group a message names, if it is open: template and instance (Table 6.5). -/
def Dev.msgGroup (d : Dev) (bs : List Nat) : Option (Nat × SlGroup) :=
  let t := bs.getD 1 0
  match tget? t d.slu.groups with
  | some g => if g.inst = leVal ((bs.drop 2).take 2) then some (t, g) else none
  | none => none

/-- Changes what a group keeps of a node. -/
def SlGroup.onNode (g : SlGroup) (addr : Nat) (f : SlNode → SlNode) : SlGroup :=
  { g with nodes := g.nodes.map fun n => if n.addr = addr then f n else n }

/-- VOTE: a node's vote is recorded; one after the last vote window is ignored (R169, R172). -/
def voteMessage (bs : List Nat) (d : Dev) : Dev :=
  if !d.carsilFor 2 bs then d
  else
    let d := d.nodeHeard (bs.getD 4 0)
    match d.msgGroup bs with
    | some (t, g) =>
      if d.rd SLU.T_STATE t = slVoting ∧ d.mt ≤ g.voteEnd then
        d.setGrp t (g.onNode (bs.getD 4 0) fun n => { n with vote := some (decide (bs.getD 8 0 = 1)) })
      else d
    | none => d

/-- A node's first OUTCOME of a committed group (R171, R175); ABORTED-LATE makes it COMPENSATING (Table 6.4). -/
def Dev.outcomeTaken (d : Dev) (t : Nat) (g : SlGroup) (addr res : Nat) : Dev :=
  let g := g.onNode addr fun n => { n with res := res, tries := 0 }
  if res = 3 then
    ((d.setGrp t { g with nLate := g.nLate + 1, blame := some (g.blame.getD addr) }).slState t slComp).count SLU.LATE_NODES
  else if res = 4 then (d.setGrp t { g with flags := putBit 4 true g.flags }).cause SLU.EVT_APPLIED_LATE
  else d.setGrp t g

/-- OUTCOME: a node reports what it did (R170, R175, R176). -/
def outcomeMessage (bs : List Nat) (d : Dev) : Dev :=
  if !d.carsilFor 5 bs then d
  else
    let addr := bs.getD 4 0
    let res := bs.getD 8 0
    let d := d.nodeHeard addr
    match d.msgGroup bs with
    | some (t, g) =>
      let st := d.rd SLU.T_STATE t
      match g.nodes.find? fun n => decide (n.addr = addr) with
      | some n =>
        if st ≠ slOutcome ∧ st ≠ slComp then d
        else if res = 5 then
          if 1 ≤ n.comp ∧ n.comp ≤ 3 then d.setGrp t (g.onNode addr fun n => { n with comp := 4 }) else d
        else if n.res = 0 ∧ 1 ≤ res ∧ res ≤ 4 then d.outcomeTaken t g addr res
        else d
      | none => d
    | none => d

/-! Carsil windows. -/

/-- The decision messages of a group due in the window that starts: COMMIT or ABORT to every link of its nodes (R172). -/
def Dev.tellDecision (d : Dev) (t wEnd : Nat) (g : SlGroup) : Dev :=
  let st := d.rd SLU.T_STATE t
  let due := !g.told || decide (wEnd < g.commitMt.getD 0)
  if (st = slCommit ∨ st = slAbort) ∧ due then
    let body := if st = slCommit then d.carsilHead 3 t g.inst 0xFF ++ leBytes 8 (d.netTime (g.commitMt.getD 0))
                else d.carsilHead 4 t g.inst 0xFF ++ padTo 8 [g.reason]
    let links := (g.nodes.flatMap fun n => d.carsilLinks n.addr).eraseDups
    let d := { d with slu := { d.slu with tx := d.slu.tx ++ links.map fun k => (⟨k, none, body⟩ : SlTx) } }
    d.setGrp t { g with told := true }
  else d

/-- COMP frames of template `t` to a node still wait for a window. -/
def Dev.compWaits (d : Dev) (t addr : Nat) : Bool :=
  d.slu.tx.any fun x => decide (x.data.getD 0 0 = 22 ∧ x.data.getD 1 0 = t ∧ x.data.getD 5 0 = addr)

/-- COMP has been sent to the nodes all of whose frames have left with this window (R172, R175). -/
def Dev.compSent (d : Dev) (t : Nat) (g : SlGroup) : SlGroup :=
  { g with nodes := g.nodes.map fun n => if n.comp = 1 ∧ !d.compWaits t n.addr then { n with comp := 2 } else n }

/-- The OUTCOME a participant owes, in the first window that starts after COMMIT_TIME + GRACE_US (R170). -/
def Dev.partFrame (d : Dev) (p : SlPart) (res : Nat) : List Nat :=
  d.carsilHead 5 p.group p.inst p.src ++ padTo 8 [res] ++ leBytes 8 p.applied

/-- Participants whose window has come send OUTCOME (R170). -/
def Dev.partOutcomes (d : Dev) : Dev :=
  forAll d.slu.parts (fun p d =>
    if p.res ≠ 0 ∧ !p.sent ∧ d.mtOfNet p.time + 1000 * p.grace < d.mt then
      let d := d.carsilQueue none p.src [d.partFrame p p.res]
      { d with slu := { d.slu with parts := d.slu.parts.map fun q =>
          if q.src = p.src ∧ q.group = p.group ∧ q.inst = p.inst then { q with sent := true } else q } }
    else d) d

/-- A Carsil window starts (R172). -/
def Dev.windowStart (d : Dev) (w : Nat × Nat) : Dev :=
  let d := d.waitMt w.1
  let d := { d with slu := { d.slu with window := some w, opened := true, used := [] } }
  let d := forAll d.slu.groups (fun p d => d.tellDecision p.1 w.2 p.2) d
  let d := d.partOutcomes.carsilDrain
  let d := { d with slu := { d.slu with groups := d.slu.groups.map fun p => (p.1, d.compSent p.1 p.2) } }
  forAll d.slOpen (fun t d => if d.rd SLU.T_STATE t = slPreparing ∧ (d.grp t).remote then d.prepareSettle t else d) d

/-- SLUICE_COMPENSATE: the local entries are delivered in list order, but for targets whose gate was closed at the commit instant, and the
group is COMPENSATING; its PARTIAL outcome raises its fault (R174 to R176). -/
def Dev.sluCompensate (d : Dev) (t : Nat) : Dev :=
  let g := d.grp t
  let d := if g.nLate = 0 then d else d.actsDeliver (g.comps.filter fun a => decide (a.node = nodeLocal) && !g.gated.contains a.key)
  (((d.setGrp t { d.grp t with comped := true }).slState t slComp).count SLU.COMPENSATIONS).raise Flt.SLU_ABORTED_LATE t

/-- The compensation entries of a node. -/
def SlGroup.compsFor (g : SlGroup) (addr : Nat) : List SlAct := g.comps.filter fun a => decide (a.node = addr)

/-- COMP frames for a node that applied wait for the next window; a node without entries needs none (R175). -/
def Dev.askComp (d : Dev) (t : Nat) (n : SlNode) : Dev :=
  let g := d.grp t
  if n.comp ≠ 0 ∨ (n.res ≠ 1 ∧ n.res ≠ 4) ∨ (g.compsFor n.addr).isEmpty then d
  else (d.carsilQueue none n.addr (d.entryFrames 6 t g.inst n.addr 0 g.grace (g.compsFor n.addr))).setGrp t
    (g.onNode n.addr fun n => { n with comp := 1, tries := 0 })

/-- A node is given up (OUTCOME_TRIES_EXHAUSTED, R176). -/
def Dev.giveUp (d : Dev) (t : Nat) (n : SlNode) : Dev :=
  let g := d.grp t
  let g := g.onNode n.addr fun n => if n.res = 0 then { n with res := 9 } else { n with comp := 5 }
  let d := d.setGrp t { g with blame := some (g.blame.getD n.addr) }
  ({ d with slu := { d.slu with givenUp := n.addr :: d.slu.givenUp.filter fun a => a ≠ n.addr } }.count SLU.UNKNOWN_NODES
    |>.carsilPointsLost n.addr).raise Flt.SLU_OUTCOME_UNKNOWN n.addr

/-- An answer of a node is missing at the end of a window: it is asked again, or given up (R176). -/
def Dev.answerMissing (d : Dev) (t : Nat) (n : SlNode) : Dev :=
  let g := d.grp t
  if n.comp = 2 then d.setGrp t (g.onNode n.addr fun n => { n with comp := 3 })
  else if n.res ≠ 0 ∧ n.comp ≠ 3 then d
  else if g.tries ≤ n.tries then d.giveUp t n
  else (d.carsilQueue none n.addr [d.carsilHead 7 t g.inst n.addr]).setGrp t (g.onNode n.addr fun n => { n with tries := n.tries + 1 })

/-- Every answer is in or given up. -/
def SlGroup.settled (g : SlGroup) : Bool := g.nodes.all fun n => decide (n.res ≠ 0 ∧ (n.comp = 0 ∨ 4 ≤ n.comp))

/-- The outcome of a settled group: INCOMPLETE, PARTIAL or COMMITTED (R175, R176). -/
def SlGroup.outcome (g : SlGroup) (compensating : Bool) : Nat :=
  if g.nodes.any fun n => decide (n.res = 9 ∨ n.comp = 5) then 4 else if compensating then 3 else 1

/-- The end of an outcome window for one committed group. -/
def Dev.outcomeEnd (d : Dev) (t : Nat) : Dev :=
  let d := if !(d.grp t).comped ∧ ((d.grp t).nLate ≠ 0 ∨ (d.grp t).safe) then d.sluCompensate t else d
  let before := (d.grp t).nodes
  let d := if d.rd SLU.T_STATE t = slComp then forAll before (fun n d => d.askComp t n) d else d
  let d := forAll before (fun n d => d.answerMissing t n) d
  let g := d.grp t
  if g.settled then d.grpEnd t (g.outcome (decide (d.rd SLU.T_STATE t = slComp))) 0 else d

/-- The end of a Carsil window for one group (R172, Table 6.4). -/
def Dev.groupWindowEnd (d : Dev) (t wStart : Nat) : Dev :=
  let g := d.grp t
  let st := d.rd SLU.T_STATE t
  let past := decide (g.commitMt.getD 0 + 1000 * g.grace < wStart)
  if st = slAbort then (if past ∧ g.told then d.grpGone t else d)
  else if (st = slOutcome ∨ st = slComp) ∧ past then d.outcomeEnd t
  else d

/-- CARSIL_WINDOW: the next Carsil window starts, or the open one ends (R172). -/
def carsilWindow (ends : Bool) (d : Dev) : Dev :=
  if !d.powered 5 ∨ !d.running then d
  else if ends then
    match d.slu.window with
    | some w =>
      if d.slu.opened then
        let d := d.waitMt w.2
        forAll d.slOpen (fun t d => d.groupWindowEnd t w.1) { d with slu := { d.slu with opened := false } }
      else d
    | none => d
  else
    let t0 : Nat := match d.slu.window with | some w => Nat.max d.mt (w.1 + 1) | none => d.mt
    match d.carsilWindows t0 1 with
    | w :: _ => d.windowStart w
    | [] => d

/-! Ends from outside (R178 to R181). -/

/-- SAFE entry (R178): undecided groups are aborted; a group decided COMMIT is compensated on its nodes later. -/
def Dev.sluSafe (d : Dev) : Dev :=
  let d := d.grpAbortAll (fun _ _ => true) 6
  let mark (p : Nat × SlGroup) : Nat × SlGroup := if d.rd SLU.T_STATE p.1 = slCommit then (p.1, { p.2 with safe := true }) else p
  { d with slu := { d.slu with groups := d.slu.groups.map mark } }

/-- SLUICE_DISABLE: EN written 0 (R178). -/
def sluiceDisable (d : Dev) : Dev := (d.wr SLU.EN 0).grpAbortAll (fun _ _ => true) 5

/-- The mode has changed: undecided groups whose MODE_MASK lacks it are aborted (R178). -/
def Dev.sluMode (d : Dev) : Dev := d.grpAbortAll (fun t _ => !d.tplMode t) 7

/-- A peer has been excluded: undecided groups that name it are aborted (R178). -/
def Dev.sluExcluded (d : Dev) (addr : Nat) : Dev :=
  d.grpAbortAll (fun t _ => (remoteNodes (d.tplEntries t false)).contains addr) 10

/-- Undecided groups that name a peer outside the chosen set are aborted (R178, R370). -/
def Dev.sluOutside (d : Dev) : Dev := d.grpAbortAll (fun t _ => (remoteNodes (d.tplEntries t false)).any d.peerExcluded) 10

/-- Groups with remote actions end at a CR13 load (chapter 3). -/
def Dev.sluNetReload (d : Dev) : Dev := d.grpAbortAll (fun _ g => g.remote) 13

/-- Before a CR8 swap: ARMED groups of the templates it removes are aborted, and report as the templates say that still stand (R181,
R183). -/
def Dev.sluReloaded (d : Dev) (removed : Nat → Bool) : Dev :=
  d.grpAbortAll (fun t _ => decide (d.rd SLU.T_STATE t = slArmed) && removed t) 13

/-- A group of a template stands between prepare and outcome: a CR8 swap waits (Table 3.5). -/
def Dev.sluBusy (d : Dev) : Bool := d.slOpen.any fun t => decide (slPreparing ≤ d.rd SLU.T_STATE t)

/-! Presets (Table 6.7). -/

/-- GRACE_US, DECIDE_MARGIN_US, VOTE_WINDOWS, OUTCOME_TRIES of a preset. -/
def carsilRow (v : Nat) : Option (Nat × Nat × Nat × Nat) :=
  match v with
  | 0 => some (500, 1000, 1, 3)
  | 1 => some (250, 500, 1, 2)
  | 2 => some (2000, 2000, 2, 5)
  | _ => none

/-- CARSIL_PRESET_WRITE: 3 is ignored unless the image defines it (R182, R90). -/
def carsilPreset (v : Nat) (d : Dev) : Dev :=
  let v := v % 4
  let row := carsilRow v
  if row.isNone ∧ !d.definesPreset SLU.CARSIL_PRESET 0 v then d
  else (((((d.wr SLU.CARSIL_PRESET v).expand SLU.CARSIL_PRESET 0 v SLU.GRACE_US 0 0 (row.map fun r => r.1)).expand SLU.CARSIL_PRESET 0 v
    SLU.DECIDE_MARGIN_US 0 0 (row.map fun r => r.2.1)).expand SLU.CARSIL_PRESET 0 v SLU.VOTE_WINDOWS 0 0 (row.map fun r => r.2.2.1)).expand
    SLU.CARSIL_PRESET 0 v SLU.OUTCOME_TRIES 0 0 (row.map fun r => r.2.2.2))

/-! The module as a participant (R170). -/

/-- The same group. -/
def SlPart.is (p : SlPart) (bs : List Nat) : Bool :=
  decide (p.src = bs.getD 4 0 ∧ p.group = bs.getD 1 0 ∧ p.inst = leVal ((bs.drop 2).take 2))

/-- The participant's record of the group a message names. -/
def Dev.partOf (d : Dev) (bs : List Nat) : Option SlPart := d.slu.parts.find? fun p => p.is bs

/-- Replaces the record of the group a message names. -/
def Dev.setPart (d : Dev) (bs : List Nat) (p : SlPart) : Dev :=
  { d with slu := { d.slu with parts := p :: d.slu.parts.filter fun q => !q.is bs } }

/-- All actions held. -/
def SlPart.acts (p : SlPart) : List SlAct := p.frags.flatMap fun f => f.2

/-- Every fragment up to the last is held (R169). -/
def SlPart.whole (p : SlPart) : Bool :=
  match p.last with | some k => (List.range (k + 1)).all fun i => (tget? i p.frags).isSome | none => false

/-- It votes YES only if it is able to apply every action at COMMIT_TIME (R170). -/
def Dev.partAble (d : Dev) (p : SlPart) : Bool :=
  decide (d.mt ≤ d.mtOfNet p.time) && p.acts.all fun a => d.actPasses a && !d.actHeld 256 a

/-- PREPARE: a fragment is taken; with the last one the participant checks, stages and votes (R169, R170). -/
def prepareMessage (bs : List Nat) (d : Dev) : Dev :=
  if !d.carsilFor 1 bs then d
  else
    let old := (d.partOf bs).getD { (default : SlPart) with src := bs.getD 4 0, group := bs.getD 1 0, inst := leVal ((bs.drop 2).take 2) }
    if old.vote.isSome then d
    else
      let k := bs.getD 18 0 % 16
      let p := { old with
        time := leVal ((bs.drop 8).take 8)
        grace := leVal ((bs.drop 16).take 2)
        frags := tset k (actsOf (Nat.min 5 (bs.getD 19 0)) (bs.drop 24)) old.frags
        last := if 128 ≤ bs.getD 18 0 then some k else old.last }
      if p.whole then
        let ok := d.partAble p
        let vote := d.carsilHead 2 p.group p.inst p.src ++ padTo 8 [bit ok, bit (!ok)]
        (d.setPart bs { p with vote := some ok }).carsilQueue none p.src [vote]
      else d.setPart bs p

/-- The staged actions are applied now (R170). -/
def Dev.partApply (d : Dev) (bs : List Nat) (p : SlPart) (res : Nat) : Dev :=
  (d.actsDeliver p.acts).setPart bs { p with res := res, applied := d.netTime d.mt }

/-- COMMIT: held at COMMIT_TIME the actions are applied then; arriving later, within the grace, on receipt (R170). -/
def commitMessage (bs : List Nat) (d : Dev) : Dev :=
  if !d.carsilFor 3 bs then d
  else match d.partOf bs with
    | some p =>
      if p.vote ≠ some true ∨ p.res ≠ 0 then d
      else if d.mt ≤ d.mtOfNet p.time then (d.waitMt (d.mtOfNet p.time)).partApply bs p 1
      else if d.mt < d.mtOfNet p.time + 1000 * p.grace then d.partApply bs p 4
      else d
    | none => d

/-- ABORT: the staged actions are released, ABORTED is reported (R170). -/
def abortMessage (bs : List Nat) (d : Dev) : Dev :=
  if !d.carsilFor 4 bs then d
  else match d.partOf bs with
    | some p => if p.res ≠ 0 then d else d.setPart bs { p with res := 2, applied := 0 }
    | none => d

/-- GRACE_EXPIRY: no decision held by COMMIT_TIME + GRACE_US (R170). -/
def graceExpiry (src group inst : Nat) (d : Dev) : Dev :=
  let bs := [0, group] ++ leBytes 2 inst ++ [src]
  match d.partOf bs with
  | some p =>
    if p.vote = some true ∧ p.res = 0 then
      (d.waitMt (d.mtOfNet p.time + 1000 * p.grace)).setPart bs { p with res := 3, applied := 0 }
    else d
  | none => d

/-- COMP: the entries are applied on receipt; OUTCOME COMPENSATED goes in the next Carsil window (R170). -/
def compMessage (bs : List Nat) (d : Dev) : Dev :=
  if !d.carsilFor 6 bs then d
  else
    let d := d.actsDeliver (actsOf (Nat.min 5 (bs.getD 19 0)) (bs.drop 24))
    match d.partOf bs with
    | some p =>
      let p := { p with res := 5, sent := true }
      if 128 ≤ bs.getD 18 0 then (d.setPart bs p).carsilQueue none p.src [d.partFrame p 5] else d
    | none => d

/-- QUERY: the OUTCOME is sent again (R170). -/
def queryMessage (bs : List Nat) (d : Dev) : Dev :=
  if !d.carsilFor 7 bs then d
  else match d.partOf bs with
    | some p => if p.res = 0 then d else d.carsilQueue none p.src [d.partFrame p p.res]
    | none => d

end Sys2Proof.Machine
end

