-- ==== Sys2Proof/Machine/Issue.lean ====
section
/-! DEFINITION. Machine/Issue.lean: filing by the field cores, issuing and delivering scheduled events (R114 to R123). -/

namespace Sys2Proof.Machine

/-- The gate behind a scheduler destination is closed (R122, Table 4.7). -/
def Dev.issueGated (d : Dev) (w : Dest) : Bool :=
  match w with
  | .loopSp s => d.loopGated s
  | w => d.destGated w

/-- Blower `n` is built and powered (R339). -/
def Dev.blowerHere (d : Dev) (n : Nat) : Bool := decide (n < 4) && d.flag BLW.CH_BUILT n && d.powered 13

/-- A command of an issued event reaches its destination (R114). Bit 0 of the argument is ON for a channel; a valve channel
takes its profile slot from bits 12:8 unless the class names it; a blower takes ON; a flow-control pin takes no command but its queue's
(R392; assumption 31). -/
def Dev.deliver (d : Dev) (w : Dest) (arg : Nat) (late held : Bool) : Dev :=
  match w with
  | .chan (.ls n) => lsCommand n (arg.testBit 0) d
  | .chan (.io n) => ioCommand n (arg.testBit 0) d
  | .chan (.vd n) => if arg.testBit 0 then vdStart n (arg / 256 % 32) d else vdStop n d
  | .chan (.bl n) => if d.blowerHere n then d.wr BLW.CH_ON (arg % 2) n else d
  | .chan (.fc _) => d
  | .valve n slot => if arg.testBit 0 then vdStart n slot d else vdStop n d
  | .point p => d.pointUpdate p arg
  | .lah => d.panIssue arg late held
  | .slu => d.sluEvent arg late held
  | .queue q => d.queueItem 3 q (leBytes 4 arg)
  | .loopSp s => d.loopSetpoint s (arg % 65536)
  | .master => d.actDeliver ⟨6, nodeLocal, 0, arg⟩
  | .impact a => d.impactGate a arg

/-- The event of slot `k` issues: record, slot, delivery (R116, R118, R122, R123). -/
def Dev.issueSlot (d : Dev) (k : Nat) (e : Event) (late : Bool) : Dev :=
  match d.classRow e.cls with
  | none => d
  | some (w, _, _, _) =>
    let rep := decide (d.rd TMB.CLASS_COORD e.cls = 1 ∧ d.rd TMB.CLASS_DIR e.cls = 3)
    let flags := bit late + d.mdFlags + 8 * bit e.held + 64 * bit rep + 128 * bit (d.issueGated w)
    let handle := d.handleOf k
    let d := d.issueRecord handle e flags
    (d.afterIssue k e rep).deliver w e.arg late e.held

/-- A late event: issued at once, or discarded (LATE_EVENT, R117). MD events held or without MD wait as noted crossings; while MD_STATE is
LOST none is discarded, and one due for it waits, FILED (Table 4.4, assumption 50). -/
def Dev.lateEvent (d : Dev) (k : Nat) (e : Event) : Dev :=
  if d.flag TMB.CLASS_LATE_POLICY e.cls then
    if d.isMd e.cls ∧ d.rd TMB.MD_STATE = 3 then
      { d with tmb := { d.tmb with slots := tset k { e with crossed := some d.now, late := true, drop := true } d.tmb.slots } }
    else ((d.cause TMB.EVT_LATE).dropEvent k e 32).wr TMB.FILE_RESULT 4
  else
    let d := d.cause TMB.EVT_LATE
    let e := { e with crossed := some d.now, late := true }
    let d := d.wr TMB.FILE_RESULT 3
    if d.mayIssue e then (d.issueSlot k e true).sluDue d.now
    else { d with tmb := { d.tmb with slots := tset k e d.tmb.slots } }

/-- The target written (R115): MD sign-extended, RA of 40 bits, MT of 64. -/
def Dev.fileTarget (d : Dev) (c : Nat) : Int :=
  let v := d.rd TMB.FILE_TGT_LO + d.rd TMB.FILE_TGT_HI * 2 ^ 32
  match d.rd TMB.CLASS_COORD c with
  | 0 => sgn 64 v
  | 1 => ((v % 2 ^ 40 : Nat) : Int)
  | _ => (v : Int)

/-- FILE_EVENT: GO with a class: the event is filed, or refused with CLASS-DENIED or FULL (R115, R117). -/
def fileEvent (c : Nat) (d : Dev) : Dev :=
  let c := c % 32
  match d.classRow c with
  | none => d.wr TMB.FILE_RESULT 5
  | some (_, filers, _, _) =>
    if !filers.testBit 2 then d.wr TMB.FILE_RESULT 5
    else
      let target := d.fileTarget c
      let late := d.lateAt c target
      match d.placeEvent c target (d.rd TMB.FILE_ARG) 2 with
      | none => d.fullSeen.wr TMB.FILE_RESULT 2
      | some (d, h) =>
        let d := (d.wr TMB.HANDLE h).wr TMB.FILE_RESULT 1
        match late, tget? (h % 4096) d.tmb.slots with
        | true, some e => d.lateEvent (h % 4096) e
        | _, _ => d

/-- The earliest MT target not yet crossed: what EVENT_ISSUE waits for when nothing has crossed. -/
def Dev.nextMtTarget (d : Dev) : Option Nat :=
  d.tmb.slots.foldl (fun a p =>
    if d.rd TMB.CLASS_COORD p.2.cls = 2 ∧ p.2.crossed.isNone then
      match a with
      | none => some p.2.target.toNat
      | some m => some (Nat.min m p.2.target.toNat)
    else a) none

/-- FILED Pan entries whose event the scheduler has removed go as well (R152). -/
def Dev.panOrphans (d : Dev) : Dev :=
  forAll (d.lah.pan.filter fun p => !p.2.issued && (d.pendingEvent p.2.handle).isNone) (fun p d => d.panDel p.1) d

/-- The event ranked first issues, or is discarded where LOST held that up (R118, Table 4.4). -/
def Dev.issueFirst (d : Dev) : Dev :=
  match d.nextIssue with
  | some (k, e) =>
    (if e.drop then (((if e.late then d.cause TMB.EVT_LATE else d).dropEvent k e 32).sluOrphans 9).panOrphans else d.issueSlot k e e.late).sluDue (e.crossed.getD d.now)
  | none => d

/-- EVENT_ISSUE: the crossed event ranked first is issued; with none crossed, time passes to the next MT target (R116, R118). -/
def eventIssue (d : Dev) : Dev :=
  if !d.running then d
  else
    if d.nextIssue.isSome then d.issueFirst
    else match d.nextMtTarget with
      | some t => (d.waitMt t).issueFirst
      | none => d

/-- Every event that has crossed and may issue does, in order; `n` bounds them (R118). -/
def Dev.issueAll : Nat → Dev → Dev
  | 0, d => d
  | n + 1, d => if d.nextIssue.isSome then Dev.issueAll n d.issueFirst else d

/-- SLUICE_COMMIT: the commit instant of a group comes: the scheduler's issues up to that cycle are delivered, then its actions (R165,
R174). -/
def sluiceCommitted (t : Nat) (d : Dev) : Dev :=
  if d.rd SLU.T_STATE t = slCommit ∨ d.rd SLU.T_STATE t = slPreparing ∧ !(d.grp t).remote then
    match (d.grp t).commitMt with
    | some c => let d := d.waitMt c; sluiceCommit t (Dev.issueAll d.tmb.slots.length d)
    | none => d
  else d

/-- A hold bit is written; what its end discards is told to the filers (R120, R152, R166). -/
def Dev.writeHold (d : Dev) (f : Fld) (on : Bool) : Dev := ((d.setHold f on).sluOrphans 9).panOrphans

/-- HOLD_RELEASE as a happening of its own: the field cores' hold ends (R120). -/
def holdRelease (d : Dev) : Dev := d.writeHold TMB.HOLD_MD false

/-- REVERSAL_CONFIRM with what it cancels told to the filers (R121, R166). -/
def reversalConfirmed (d : Dev) : Dev := ((reversalConfirm d).sluOrphans 8).panOrphans

end Sys2Proof.Machine
end

