-- ==== Sys2Proof/Machine/Fus.lean ====
section
/-! DEFINITION. Machine/Fus.lean: the fusion engine (chapter 8, R210 to R235). -/

namespace Sys2Proof.Machine

/-! Instants and windows (R214). -/

/-- Fusion instant `n` in MT. -/
def fusInstant (n : Nat) : Nat := n * 1000000000 / 30

/-- The first `n` from a start on, of three tried, whose instant lies beyond an MT. -/
def firstAfter (t n : Nat) : Nat := if t < fusInstant n then n else if t < fusInstant (n + 1) then n + 1 else n + 2

/-- The number of the first fusion instant after an MT. -/
def nextInstant (t : Nat) : Nat := firstAfter t (t * 30 / 1000000000)

/-- ACQ_OFS in ns (R235). -/
def Dev.acqOfs (d : Dev) : Nat := 1000 * Nat.min 100000 (d.rd FUS.ACQ_OFS_US)

/-- The frame whose window holds a capture MT. -/
def Dev.frameOf (d : Dev) (capture : Nat) : Nat := nextInstant (capture + d.acqOfs)

/-- CR11 builds a program (STATE NOT-BUILT, R235). -/
def Dev.fusBuilt (d : Dev) : Bool := (d.itemsOf 11).any fun it => match it with | .headProgram _ => true | _ => false

/-! Camera frames (R215). -/

/-- A camera frame completes in DRAM: it waits for its window's instant, or is late and dropped (R215). -/
def Dev.fusFrame (d : Dev) (f : CamFrame) : Dev :=
  if !d.powered 7 ∨ !d.flag FUS.CAM_BUILT f.cam then d
  else if d.frameOf f.capture ≤ d.fus.last then
    if !d.flag FUS.EN then d else ((d.count FUS.CNT_FUS_LATE).count FUS.CAM_LATE f.cam).cause FUS.EVT_LATE
  else { d with fus := { d.fus with frames := d.fus.frames ++ [f] } }

/-- The frame of camera `c` in window `n` with the latest capture MT. -/
def Dev.presentFrame (d : Dev) (c n : Nat) : Option CamFrame :=
  (d.fus.frames.filter fun f => decide (f.cam = c) && decide (d.frameOf f.capture = n)).foldl (fun b f => match b with
    | none => some f
    | some g => if g.capture ≤ f.capture then some f else some g) none

/-- The camera frames fused into frame `n`, in ascending camera number. -/
def Dev.presentFrames (d : Dev) (n : Nat) : List CamFrame := (List.range 8).filterMap fun c => d.presentFrame c n

/-- Frames of window `n` and earlier leave; those superseded are counted (R215). -/
def Dev.fusClose (d : Dev) (n : Nat) (counted : Bool) : Dev :=
  let mine := (d.fus.frames.filter fun f => decide (d.frameOf f.capture = n)).length
  let more : Nat := mine - (d.presentFrames n).length
  let d' := { d with fus := { d.fus with frames := d.fus.frames.filter fun f => decide (n < d.frameOf f.capture) } }
  if counted ∧ 0 < more then (d'.wr FUS.CNT_SUPERSEDED (satN 16 (d'.rd FUS.CNT_SUPERSEDED + more))).cause FUS.EVT_SUPERSEDED else d'

/-! Point sensors (R216). -/

/-- One point sensor is read at the instant of frame `n`: its value when present; a late sample is counted. -/
def Dev.readSensor (d : Dev) (p n : Nat) : Dev × Option Int :=
  let pt := d.rd FUS.PT_POINT p
  let r := d.point pt
  let w := d.frameOf r.stamp
  let was := tget? p d.fus.seqs
  let d' := { d with fus := { d.fus with seqs := tset p r.seq d.fus.seqs } }
  if d.pointLost pt then (d', none)
  else if w = n then (d', some (d.loopIn pt))
  else if n < w then (d', none)
  else if was = none ∨ was = some r.seq ∨ d.fus.skips.contains w then (d', none)
  else (((d'.count FUS.CNT_FUS_LATE).count FUS.CNT_LATE_PT |>.count FUS.PT_LATE p).cause FUS.EVT_LATE, none)

/-- Every built point sensor is read once, in ascending number. -/
def Dev.readSensors (d : Dev) (n : Nat) : Dev × List (Nat × Int) :=
  ((List.range 16).filter fun p => d.flag FUS.PT_BUILT p).foldl (fun a p =>
    let r := a.1.readSensor p n
    (r.1, match r.2 with | some v => a.2 ++ [(p, v)] | none => a.2)) (d, [])

/-! The fusion instant (R215 to R219). -/

/-- A frame is lost: dropped or skipped. -/
def Dev.frameLost (d : Dev) (cnt evt : Fld) : Dev :=
  ({ (d.count cnt).cause evt with fus := { d.fus with prevLost := true } }).raise Flt.FUS_FRAME_LOST

/-- A SKIPPED frame: a build is still running (R219). -/
def Dev.frameSkip (d : Dev) (n : Nat) : Dev :=
  let d := d.fusClose n false
  ({ d with fus := { d.fus with skips := n :: d.fus.skips } }).frameLost FUS.CNT_SKIPPED FUS.EVT_SKIPPED

/-- The transform tables CR12 builds: camera, CAL_ID, entries. -/
def Dev.builtTables (d : Dev) : List (Nat × Nat × List Nat) :=
  (d.itemsOf 12).filterMap fun it => match it with | .transform c id _ _ l => if c < 8 then some (c, id, l) else none | _ => none

/-- Tables in use that CR12 no longer builds leave use (R78, R224); says whether any did. -/
def Dev.dropTables (d : Dev) : Dev × Bool :=
  let gone := (d.fus.tables.map fun t => t.1).filter fun c => !d.builtTables.any fun x => decide (x.1 = c)
  (forAll gone (fun c d => d.wr FUS.CAM_CAL_ID 0 c)
    { d with fus := { d.fus with tables := d.fus.tables.filter fun t => !gone.contains t.1 } }, decide (gone ≠ []))

/-- Tables of a CR12 swap are taken up (R224); says whether any was. -/
def Dev.takeTables (d : Dev) : Dev × Bool :=
  d.builtTables.foldl (fun a x =>
    if tget? x.1 a.1.fus.tables = some x.2.2 ∧ a.1.rd FUS.CAM_CAL_ID x.1 = x.2.1 % 2 ^ 32 then a
    else (({ a.1 with fus := { a.1.fus with tables := tset x.1 x.2.2 a.1.fus.tables } }.wr FUS.CAM_CAL_ID x.2.1 x.1).cause
      FUS.EVT_TABLE_TAKEN, true)) d.dropTables

/-- The cameras a frame needs (R217): MIN_CAMERAS, where 0 and numbers above the built count mean every built camera. -/
def Dev.minCameras (d : Dev) : Nat :=
  let built := ((List.range 8).filter fun c => d.flag FUS.CAM_BUILT c).length
  let m := d.rd FUS.MIN_CAMERAS
  if m = 0 ∨ built < m then built else m

/-- NPU cycle skip is above 0 (R212, R412). -/
def Dev.npuThrottled (d : Dev) : Bool := decide (0 < d.rd THM.NPU_SKIP)

/-- The build of frame `n` begins. -/
def Dev.frameBegin (d : Dev) (n : Nat) (cams : List CamFrame) (pts : List (Nat × Int)) : Dev :=
  let a := d.takeTables
  let b : FusBuild := ⟨n, cams, pts, a.2, d.npuThrottled, d.fus.prevLost, false⟩
  { a.1 with fus := { a.1.fus with build := some b, prevLost := false } }.wr FUS.BUILDING 1

/-- Frame `n` when no build is running: built or dropped. -/
def Dev.frameTake (d : Dev) (n : Nat) : Dev :=
  let cams := d.presentFrames n
  let a := (d.fusClose n true).readSensors n
  if cams.length < d.minCameras then a.1.frameLost FUS.CNT_DROPPED FUS.EVT_DROPPED else a.1.frameBegin n cams a.2

/-- FUSION_INSTANT: time passes to the next fusion instant; its window closes (R214 to R219). -/
def fusionInstant (d : Dev) : Dev :=
  if !d.powered 7 ∨ !d.running then d
  else
    let n := Nat.max (nextInstant d.mt) (d.fus.last + 1)
    let d := (d.waitMt (fusInstant n)).boundary 7 0
    let d := { d with fus := { d.fus with last := n } }.wr FUS.STATE (if !d.flag FUS.EN then 0 else if d.fusBuilt then 1 else 2)
    if !d.flag FUS.EN ∨ !d.fusBuilt then d.fusClose n false
    else if d.fus.build.isSome then d.frameSkip n
    else d.frameTake n

/-! Projection and fusion (R220 to R223). -/

/-- What one present camera brings: tensor width, feature tensor, table, gains. -/
structure CamPart where
  width : Nat
  tensor : List Int
  table : List Nat
  gain : List Int
  deriving DecidableEq, Repr, Inhabited

/-- What one present point sensor brings: its value, embedding and footprint. -/
structure PtPart where
  value : Int
  emb : List Int
  row0 : Nat
  row1 : Nat
  col0 : Nat
  col1 : Nat
  deriving DecidableEq, Repr, Inhabited

/-- Byte `k` of a feature tensor at (x, y) (Table 8.3). -/
def CamPart.f (c : CamPart) (x y k : Nat) : Int := c.tensor.getD ((y * c.width + x) * 32 + k) 0

/-- The bilinear sample s of R221 at a table entry. -/
def CamPart.sample (c : CamPart) (e k : Nat) : Int :=
  let u := bitsOf 11 0 e
  let v := bitsOf 23 12 e
  let x := u / 16
  let y := v / 16
  let fx : Int := (u % 16 : Nat)
  let fy : Int := (v % 16 : Nat)
  divAway ((16 - fx) * (16 - fy) * c.f x y k + fx * (16 - fy) * c.f (x + 1) y k + (16 - fx) * fy * c.f x (y + 1) k
    + fx * fy * c.f (x + 1) (y + 1) k) 256

/-- sat16 of R221 with the saturation noted. -/
def sat16 (v : Int) (was : Bool) : Int × Bool := (clampI (-32768) 32767 v, was || decide (v < -32768 ∨ 32767 < v))

/-- The accumulator of cell `g`, channel `k`, and whether it saturated (R221, R222). -/
def accCell (bias : List Int) (cams : List CamPart) (pts : List PtPart) (g k : Nat) : Int × Bool :=
  let a := cams.foldl (fun (a : Int × Bool) c =>
    let e := c.table.getD g 0
    let w := bitsOf 31 24 e
    if w = 0 then a else sat16 (a.1 + divAway (c.sample e k * w * c.gain.getD k 0) 8192) a.2) (bias.getD k 0, false)
  pts.foldl (fun (a : Int × Bool) p =>
    let i := g / 256
    let j := g % 256
    if p.row0 ≤ i ∧ i ≤ p.row1 ∧ p.col0 ≤ j ∧ j ≤ p.col1 then sat16 (a.1 + divAway (p.value * p.emb.getD k 0) 32768) a.2 else a) a

/-- A grid byte (R223). -/
def gridByte (qm : List Nat) (acc : Int) (k : Nat) : Int := clampI (-128) 127 (divAway (acc * qm.getD k 0) 65536)

/-- The bytes of a processed frame, planes R, G, B (Table 8.3, R253). -/
def frameBytes (m : Memory) (f : CamFrame) : List Int :=
  let n := f.width * f.height
  let stride := ceilDiv n 4096 * 4096
  ([0, 1, 2].flatMap fun p => memReadBytes m (f.addr + 4096 + p * stride) n).map fun (b : Nat) => (b : Int)

/-- The feature tensor of camera `c` from what its network gives: W_f × H_f × 32 signed bytes (Table 8.3). -/
def Dev.tensorOf (d : Dev) (c : Nat) (out : List Int) : List Int :=
  (List.range (d.rd FUS.CAM_TENSOR_W c * d.rd FUS.CAM_TENSOR_H c * 32)).map fun k => sgn 8 (enc 8 (out.getD k 0))

/-- The part of a present camera (R213, R221). -/
def Dev.camPart (d : Dev) (m : Memory) (f : CamFrame) : CamPart :=
  let prog := (d.itemsOf 11).findSome? fun it => match it with | .camNet c p => if c = f.cam then some p else none | _ => none
  let gain := (d.itemsOf 11).findSome? fun it => match it with | .fusGain c l => if c = f.cam then some l else none | _ => none
  ⟨d.rd FUS.CAM_TENSOR_W f.cam, d.tensorOf f.cam (Config.program (prog.getD 0) (frameBytes m f)), (tget? f.cam d.fus.tables).getD [], gain.getD []⟩

/-- The part of a present point sensor (R222). -/
def Dev.ptPart (d : Dev) (p : Nat × Int) : Option PtPart :=
  (d.itemsOf 11).findSome? fun it => match it with
    | .fusPoint q emb r0 r1 c0 c1 => if q = p.1 then some ⟨p.2, emb, r0, r1, c0, c1⟩ else none
    | _ => none

/-- BIAS and QM of CR11. -/
def Dev.fusBias (d : Dev) : List Int := ((d.itemsOf 11).findSome? fun it => match it with | .fusBias l => some l | _ => none).getD []
def Dev.fusQm (d : Dev) : List Nat := ((d.itemsOf 11).findSome? fun it => match it with | .fusQm l => some l | _ => none).getD []

/-- The accumulators of the whole grid in byte order (Table 8.1). -/
def accumulators (bias : List Int) (cams : List CamPart) (pts : List PtPart) : List (Int × Bool) :=
  (List.range (512 * 256 * 32)).map fun a => accCell bias cams pts (a / 32) (a % 32)

/-- The INT8 grid from the accumulators. -/
def gridOf (qm : List Nat) (acc : List (Int × Bool)) : List Int := acc.mapIdx fun a x => gridByte qm x.1 (a % 32)

/-- Byte `k` of cell (i, j) of a grid. -/
def cellOf (grid : List Int) (i j k : Nat) : Int := grid.getD ((i * 256 + j) * 32 + k) 0

/-! Ego-motion (R229 to R231). -/

/-- The reference region of a grid: rows EGO_ROW0 - 24 to EGO_ROW0 + 151, columns 56 to 199, eight channels (R229). -/
def egoRegion (grid : List Int) (row0 ch : Nat) : List Int :=
  (List.range (176 * 144 * 8)).map fun a => cellOf grid (row0 - 24 + a / (144 * 8)) (56 + a / 8 % 144) (ch + a % 8)

/-- The score S(dx, dy) (R229), with dx + 24 and dy + 8. -/
def egoScore (grid : List Int) (row0 ch : Nat) (ref : List Int) (dx24 dy8 : Nat) : Int :=
  (List.range (128 * 128 * 8)).foldl (fun (s : Int) a =>
    let i := a / (128 * 8)
    let j := a / 8 % 128
    s + cellOf grid (row0 + i) (64 + j) (ch + a % 8) * ref.getD (((i + dx24) * 144 + (j + dy8)) * 8 + a % 8) 0) 0

/-- All scores in the order of dx, then dy. -/
def egoScores (grid : List Int) (row0 ch : Nat) (ref : List Int) : List Int :=
  (List.range (49 * 17)).map fun a => egoScore grid row0 ch ref (a / 17) (a % 17)

/-- The score at dx + 24, dy + 8. -/
def scoreAt (s : List Int) (x y : Nat) : Int := s.getD (x * 17 + y) 0

/-- The index of the highest score, the first on a tie (R230). -/
def egoPeak (s : List Int) : Nat :=
  ((List.range (49 * 17)).foldl (fun (b : Nat × Int) a => if b.2 < s.getD a 0 then (a, s.getD a 0) else b) (0, s.getD 0 0)).1

/-- The highest score outside the 3 × 3 neighbourhood of the peak. -/
def egoSecond (s : List Int) (x y : Nat) : Int :=
  let l := (List.range (49 * 17)).filter fun a => decide (a / 17 + 1 < x ∨ x + 1 < a / 17 ∨ a % 17 + 1 < y ∨ y + 1 < a % 17)
  l.foldl (fun (b : Int) a => max b (s.getD a 0)) (s.getD (l.headD 0) 0)

/-- Q of R230. -/
def egoQuality (s1 s2 : Int) : Nat := if s1 ≤ 0 then 0 else (Int.fdiv (255 * (s1 - s2)) s1).toNat

/-- Q as EGO_Q shows it. With S2 below 0 it passes 255, and the spec states no 8-bit value for it: a free value (assumption 3). -/
def egoShown (q open_ : Nat) : Nat := if q < 256 then q else open_ % 256

/-- The refinement q of R230, in 1/64 cell. -/
def egoRefine (lo mid hi : Int) : Int :=
  let den := lo - 2 * mid + hi
  if den = 0 then 0
  else clampI (-32) 32 (if 0 < den then divAway (64 * (lo - hi)) (2 * den).toNat else divAway (-(64 * (lo - hi))) (2 * -den).toNat)

/-- A speed in 2^-8 mm/s from a displacement in 1/64 cell and an interval in ns (R231). -/
def egoSpeed (disp64 : Int) (dt : Nat) : Int := divAway (disp64 * 50 * 256 * 1000000000) (64 * dt)

/-- The result of ego-motion: cause (0 valid), speed, lateral speed, quality (R230, R231). -/
structure Ego where
  cause : Nat
  speed : Int
  lat : Int
  q : Nat
  deriving DecidableEq, Repr, Inhabited

/-- The correlation's result from the scores. -/
def egoFrom (s : List Int) (dt minQ open_ : Nat) : Ego :=
  let p := egoPeak s
  let x := p / 17
  let y := p % 17
  let full := egoQuality (scoreAt s x y) (egoSecond s x y)
  let q := egoShown full open_
  if x = 0 ∨ x = 48 ∨ y = 0 ∨ y = 16 then ⟨1, 0, 0, q⟩
  else if full < minQ then ⟨2, 0, 0, q⟩
  else if 100000000 < dt then ⟨3, 0, 0, q⟩
  else
    let qx := egoRefine (scoreAt s (x - 1) y) (scoreAt s x y) (scoreAt s (x + 1) y)
    let qy := egoRefine (scoreAt s x (y - 1)) (scoreAt s x y) (scoreAt s x (y + 1))
    ⟨0, egoSpeed (64 * ((x : Int) - 24) + qx) dt, egoSpeed (64 * ((y : Int) - 8) + qy) dt, q⟩

/-- EGO_ROW0 and EGO_CH_BASE within their limits (R235). -/
def Dev.egoRow0 (d : Dev) : Nat := clampN 24 360 (d.rd FUS.EGO_ROW0)
def Dev.egoCh (d : Dev) : Nat := Nat.min 24 (d.rd FUS.EGO_CH_BASE)

/-- EGO_MOTION of frame `n` (R229, R230). -/
def Dev.ego (d : Dev) (grid : List Int) (n : Nat) : Ego :=
  if !d.flag FUS.EGO_EN then ⟨4, 0, 0, 0⟩
  else match d.fus.ref with
    | none => ⟨5, 0, 0, 0⟩
    | some (m, ref) => egoFrom (egoScores grid d.egoRow0 d.egoCh ref) (fusInstant n - fusInstant m) (d.rd FUS.EGO_MIN_Q) d.free

/-! Publication (R218, R226 to R228, R233). -/

/-- Value of map `k` at cell `g` of the head program's output (R225). -/
def mapAt (maps : List Int) (k g : Nat) : Nat := (maps.getD (k * 131072 + g) 0 % 256).toNat

/-- The cells of a band point's rectangle. -/
def Dev.bandCells (d : Dev) (b : Nat) (maps : List Int) : List Nat :=
  let rows := (List.range 512).filter fun i => decide (d.rd FUS.BAND_ROW0 b ≤ i ∧ i ≤ d.rd FUS.BAND_ROW1 b)
  let cols := (List.range 256).filter fun j => decide (d.rd FUS.BAND_COL0 b ≤ j ∧ j ≤ d.rd FUS.BAND_COL1 b)
  rows.flatMap fun i => cols.map fun j => mapAt maps (d.rd FUS.BAND_MAP b) (i * 256 + j)

/-- A band point has no stated value: reduction code 3, or a rectangle without cells (R226). -/
def Dev.bandOpen (d : Dev) (b : Nat) : Bool :=
  decide (d.rd FUS.BAND_REDUCE b = 3 ∨ d.rd FUS.BAND_ROW1 b < d.rd FUS.BAND_ROW0 b ∨ d.rd FUS.BAND_COL1 b < d.rd FUS.BAND_COL0 b)

/-- A band point's value (R226); one that is not stated is free (assumption 3). -/
def Dev.bandValue (d : Dev) (b : Nat) (maps : List Int) : Int :=
  let l := d.bandCells b maps
  let n := l.length
  let gain : Int := d.rd FUS.BAND_GAIN b
  if d.bandOpen b then sgn 16 d.free else match d.rd FUS.BAND_REDUCE b with
  | 0 => sat15 (divAway ((l.foldl (· + ·) 0 : Nat) * gain) (16 * n))
  | 1 => sat15 (divAway ((l.foldl Nat.max 0 : Nat) * gain) 16)
  | _ => sat15 (divAway (32768 * ((l.filter fun v => decide (d.rd FUS.BAND_THRESH b ≤ v)).length : Nat)) n)

/-- Band points are written, POISONED where a word of a frame was uncorrectable (R29, R226). -/
def Dev.bandPoints (d : Dev) (maps : List Int) (poisoned : Bool) : Dev :=
  forAll ((List.range 64).filter fun b => d.flag FUS.BAND_BUILT b) (fun b d =>
    let d' := d.pointUpdate (d.rd FUS.BAND_POINT b) (enc 16 (d.bandValue b maps)) (stValid + stPoison * bit poisoned)
    if d.bandOpen b then d'.freeTaken else d') d

/-- The output item of Table 8.6. -/
def outputItem (seq buf flags cams pts mt : Nat) (e : Ego) : List Nat :=
  leBytes 2 seq ++ [buf, flags, cams, 0] ++ leBytes 2 pts ++ leBytes 8 mt ++ leBytes 4 (enc 32 e.speed) ++ leBytes 4 (enc 32 e.lat)
    ++ [e.q] ++ List.replicate 7 0

/-- The registers of the last frame and its ego-motion (R235). -/
def Dev.showFrame (d : Dev) (b : FusBuild) (cams pts : Nat) (e : Ego) : Dev :=
  let us := satN 16 ((d.mt - fusInstant b.n) / 1000)
  let d := ((d.wr FUS.OUT_MT_LO (d.mt % 2 ^ 32)).wr FUS.OUT_MT_HI (d.mt / 2 ^ 32)).wr FUS.SEQ d.fus.seq
  let d := ((d.wr FUS.PT_PRESENT pts).wr FUS.CAM_PRESENT cams).wr FUS.EGO_VALID (bit (e.cause = 0))
  let d := (((d.wrSat FUS.EGO_SPEED e.speed).wrSat FUS.EGO_LAT e.lat).wr FUS.EGO_Q e.q).wr FUS.EGO_CAUSE e.cause
  if d.rd FUS.BUILD_PEAK_US < us then d.wr FUS.BUILD_PEAK_US us else d

/-- Ego-motion is counted or delivered to the timebase as VISUAL (R231). -/
def Dev.egoDeliver (d : Dev) (e : Ego) : Dev :=
  if e.cause = 0 then d.mdSample 2 e.speed ((d.mt : Int) - 1000 * d.rd TMB.SRC_LAT_US 2)
  else (d.count FUS.CNT_EGO_INVALIDS).cause FUS.EVT_EGO_INVALID

/-- The bytes of a feature tap (R233). -/
def tapBytes (kind chBase : Nat) (c : CamPart) : List Nat :=
  if kind = 1 then c.tensor.map fun v => enc 8 v
  else (List.range (512 * 256 * 8)).map fun a =>
    let e := c.table.getD (a / 8) 0
    enc 8 (if bitsOf 31 24 e = 0 then 0 else clampI (-128) 127 (divAway (c.sample e (chBase + a % 8) * bitsOf 31 24 e) 128))

/-- The tap of camera `c` is due with this published frame: its kind writes one, CR11 places its buffer, and SEQ is a multiple of
TAP_DECIM (R233): the buffer's address. -/
def Dev.tapDue (d : Dev) (c : Nat) : Option Nat :=
  let kind := d.rd FUS.CAM_TAP_KIND c
  if (kind = 1 ∨ kind = 2) ∧ d.fus.seq % Nat.max 1 (d.rd FUS.CAM_TAP_DECIM c) = 0 then
    (d.itemsOf 11).findSome? fun it => match it with | .fusTap k a => if k = c then some a else none | _ => none
  else none

/-- The taps of a published frame, into their buffers (R233). -/
def Dev.writeTaps (d : Dev) (item : List Nat) (cams : List (Nat × CamPart)) (m : Memory) : Memory :=
  cams.foldl (fun m c => match d.tapDue c.1 with
    | some a => memWriteBytes (memWriteBytes m a (padTo 64 item)) (a + 64)
        (tapBytes (d.rd FUS.CAM_TAP_KIND c.1) (Nat.min 24 (d.rd FUS.CAM_TAP_CH_BASE c.1)) c.2)
    | none => m) m

/-- The output buffer: header, then maps (R228). -/
def Dev.writeOutput (d : Dev) (item : List Nat) (maps : List Int) (m : Memory) : Memory :=
  let a := d.rd FUS.OUT_BASE * 4096 + d.fus.buf * 0x81000
  memWriteBytes (memWriteBytes m a (padTo 64 item)) (a + 64) ((List.range (4 * 131072)).map fun x => mapAt maps (x / 131072) (x % 131072))

/-- The head program of CR11. -/
def Dev.headProgram (d : Dev) : Nat := ((d.itemsOf 11).findSome? fun it => match it with | .headProgram p => some p | _ => none).getD 0

/-- The mask of a list of numbers. -/
def maskOf (l : List Nat) : Nat := l.foldl (fun a k => putBit k true a) 0

/-- A tap whose previous write is still running is skipped (R233): the cameras named. -/
def Dev.skipTaps (d : Dev) (l : List Nat) : Dev := forAll l (fun _ d => (d.count FUS.CNT_TAP_SKIPS).cause FUS.EVT_TAP_SKIPPED) d

/-- Steps 3 to 8 of Table 8.4 for a build; `busy` names the cameras whose previous tap write still runs. -/
def Dev.publish (d : Dev) (m : Memory) (b : FusBuild) (busy : List Nat) : Dev × Memory :=
  let cams := b.cams.map fun f => (f.cam, d.camPart m f)
  let acc := accumulators d.fusBias (cams.map fun c => c.2) (b.pts.filterMap d.ptPart)
  let grid := gridOf d.fusQm acc
  let e := d.ego grid b.n
  let maps := Config.program d.headProgram grid
  let camMask := maskOf (b.cams.map fun f => f.cam)
  let ptMask := maskOf (b.pts.map fun p => p.1)
  let flags := bit (e.cause = 0) + 2 * bit b.takeup + 4 * bit (b.throttled || d.npuThrottled) + 8 * bit b.prevLost
  let d := { d with fus := { d.fus with build := none, ref := some (b.n, egoRegion grid d.egoRow0 d.egoCh), seq := (d.fus.seq + 1) % 65536 } }.freeTaken
  let item := outputItem d.fus.seq d.fus.buf flags camMask ptMask d.mt e
  let d := if acc.any fun x => x.2 then d.wr FUS.ACC_SAT 1 else d
  let d := ((((d.wr FUS.BUILDING 0).bandPoints maps b.poisoned).egoDeliver e).showFrame b camMask ptMask e).cause FUS.EVT_PUBLISHED
  let tapped := cams.filter fun c => !busy.contains c.1
  let m := d.writeTaps item tapped (d.writeOutput item maps m)
  let d := (d.queueItem 7 (d.rd FUS.OUT_Q) item).skipTaps
    ((cams.filter fun c => busy.contains c.1 && (d.tapDue c.1).isSome).map fun c => c.1)
  ({ d with fus := { d.fus with buf := (d.fus.buf + 1) % 4 } }, m)

/-- The area of a processed frame that a camera network reads: its three planes (R253). -/
def CamFrame.holds (f : CamFrame) (a : Nat) : Bool :=
  decide (f.addr + 4096 ≤ a ∧ a < f.addr + 4096 + 3 * (ceilDiv (f.width * f.height) 4096 * 4096))

/-- A DRAM word turned out uncorrectable: a frame being built from it is poisoned (R29). -/
def Dev.fusPoison (d : Dev) (a : Nat) : Dev :=
  match d.fus.build with
  | some b => { d with fus := { d.fus with build := some { b with poisoned := b.poisoned || b.cams.any fun f => f.holds a } } }
  | none => d

/-- NPU cycle skip rises above 0 while a frame is built: its item carries THROTTLED (Table 8.6). -/
def Dev.fusThrottle (d : Dev) : Dev :=
  match d.fus.build with
  | some b => { d with fus := { d.fus with build := some { b with throttled := b.throttled || d.npuThrottled } } }
  | none => d

/-- FRAME_BUILD_COMPLETE: the frame being built is published (R218). -/
def frameBuildComplete (busy : List Nat) (m : Memory) (d : Dev) : Dev × Memory :=
  match d.fus.build with
  | none => (d, m)
  | some b => d.publish m b busy

/-! Enable and presets. -/

/-- FUS EN is written: 1 starts afresh the count of frames, the reference and the peak; 0 builds none from the next instant on
(R228, R230, R235). -/
def fusEnable (on : Bool) (d : Dev) : Dev :=
  let was := d.flag FUS.EN
  let d := d.wr FUS.EN (bit on)
  if on ∧ !was then
    { (d.wr FUS.STATE (if d.fusBuilt then 1 else 2)).wr FUS.BUILD_PEAK_US 0 with fus := { d.fus with ref := none, seq := 0, prevLost := false } }
  else if on then d
  else d.wr FUS.STATE 0

/-- Table 8.7: MIN_CAMERAS, EGO_EN, EGO_MIN_Q. -/
def fuseRow (v : Nat) : Option (Nat × Nat × Nat) :=
  match v with | 0 => some (1, 1, 64) | 1 => some (0, 1, 64) | 2 => some (1, 0, 64) | _ => none

/-- FUSE_PRESET_WRITE: 3 is ignored unless the image defines it (R234, R90). -/
def fusePreset (v : Nat) (d : Dev) : Dev :=
  let v := v % 4
  let row := fuseRow v
  if row.isNone ∧ !d.definesPreset FUS.FUSE_PRESET 0 v then d
  else (((d.wr FUS.FUSE_PRESET v).expand FUS.FUSE_PRESET 0 v FUS.MIN_CAMERAS 0 0 (row.map fun r => r.1)).expand FUS.FUSE_PRESET 0 v
    FUS.EGO_EN 0 0 (row.map fun r => r.2.1)).expand FUS.FUSE_PRESET 0 v FUS.EGO_MIN_Q 0 0 (row.map fun r => r.2.2)

/-- EGO_ROW0 outside 24 to 360 acts as the nearer limit and sets CLAMPED (R235). -/
def Dev.egoRow0Clamp (d : Dev) (v : Nat) : Dev := if v < 24 ∨ 360 < v then d.wr FUS.CLAMPED 1 else d

end Sys2Proof.Machine
end

