-- ==== Sys2Proof/Machine/Isp.lean ====
section
/-! DEFINITION. Machine/Isp.lean: camera ports and the image pipeline (chapter 9, R236 to R258). -/

namespace Sys2Proof.Machine

/-- Hidden state of camera `c`. -/
def Dev.cam (d : Dev) (c : Nat) : IspCam := tget c d.isp.cams

/-- Replaces the hidden state of camera `c`. -/
def Dev.setCam (d : Dev) (c : Nat) (x : IspCam) : Dev := { d with isp := { d.isp with cams := tset c x d.isp.cams } }

/-- ISP cycle skip is above 0 (R239, R412). -/
def Dev.ispThrottled (d : Dev) : Bool := decide (0 < d.rd THM.ISP_SKIP)

/-- Where CR11 places camera `c`'s buffers: frames, statistics, taps (R253 to R256). -/
def Dev.camPlaces (d : Dev) (c : Nat) : List Nat × Nat × List Nat :=
  ((d.itemsOf 11).findSome? fun it => match it with | .camPlace k b s t => if k = c then some (b, s, t) else none | _ => none).getD ([], 0, [])

/-! Processing (R245 to R249). Every stage works on a whole plane; a neighbour outside the frame is its mirror image. -/

/-- A plane of values: rows of columns. -/
abbrev Plane := List (List Nat)

/-- The value at column x, row y. -/
def Plane.at (p : Plane) (x y : Nat) : Nat := (List.getD p y []).getD x 0

/-- A plane from a function of column and row. -/
def mkPlane (w h : Nat) (f : Nat → Nat → Nat) : Plane := (List.range h).map fun y => (List.range w).map fun x => f x y

/-- A coordinate `k` lower, mirrored at the edge (R245). -/
def lower (x k : Nat) : Nat := if x < k then x + k else x - k

/-- A coordinate `k` higher, mirrored at the edge of an extent (R245). -/
def upper (n x k : Nat) : Nat := if x + k < n then x + k else x - k

/-- Rounded division, ties up: for numbers that are not negative this is away from zero (R245). -/
def rdiv (a b : Nat) : Nat := (2 * a + b) / (2 * b)

/-- The mean of the two middle ones of four values (R246). -/
def midMean (a b c e : Nat) : Nat :=
  let lo := Nat.min (Nat.min a b) (Nat.min c e)
  let hi := Nat.max (Nat.max a b) (Nat.max c e)
  rdiv (a + b + c + e - lo - hi) 2

/-- The shading gains of one phase. -/
def Dev.phaseGains (d : Dev) (even odd : Fld) (c : Nat) : List Nat :=
  (List.range 289).map fun k => if k % 2 = 0 then d.rd even c (k / 2) else d.rd odd c (k / 2)

/-- The static defect table CR12 carries for camera `c`, entries of 32 bits (R246). -/
def Dev.camDefects (d : Dev) (c : Nat) : List Nat :=
  ((d.itemsOf 12).findSome? fun it => match it with | .defects k l => if k = c then some l else none | _ => none).getD []

/-- The parameter set in force for camera `c` (R251). -/
def Dev.camSet (d : Dev) (c : Nat) : CamSet :=
  { w := d.rd ISP.C_WIDTH c
    h := d.rd ISP.C_HEIGHT c
    cfa := d.rd ISP.C_CFA c
    bits := 10 + 2 * d.rd ISP.C_DT c
    bl := [ISP.C_BL0, ISP.C_BL1, ISP.C_BL2, ISP.C_BL3].map fun f => Nat.min 65534 (d.rd f c)
    wb := [ISP.C_WB0, ISP.C_WB1, ISP.C_WB2, ISP.C_WB3].map fun f => d.rd f c
    staticEn := d.flag ISP.C_DPC_STATIC_EN c
    dynEn := d.flag ISP.C_DPC_DYN_EN c
    hi := d.rd ISP.C_DPC_HI c
    lo := d.rd ISP.C_DPC_LO c
    defects := d.camDefects c
    shading := d.flag ISP.C_SHADING_EN c
    gains := [d.phaseGains ISP.C_G0_EVEN ISP.C_G0_ODD c, d.phaseGains ISP.C_G1_EVEN ISP.C_G1_ODD c,
      d.phaseGains ISP.C_G2_EVEN ISP.C_G2_ODD c, d.phaseGains ISP.C_G3_EVEN ISP.C_G3_ODD c]
    dmMode := d.rd ISP.C_DM_MODE c
    dmThr := d.rd ISP.C_DM_THR c
    matrix := [ISP.C_C00, ISP.C_C01, ISP.C_C02, ISP.C_C10, ISP.C_C11, ISP.C_C12, ISP.C_C20, ISP.C_C21, ISP.C_C22].map fun f => d.rdS f c
    tone := (List.range 257).map fun k => if k % 2 = 0 then d.rd ISP.C_T_EVEN c (k / 2) else d.rd ISP.C_T_ODD c (k / 2)
    satThr := d.rd ISP.C_SAT_THR c }

/-- Phase p of Table 9.3. -/
def phaseOf (x y : Nat) : Nat := 2 * (y % 2) + x % 2

/-- The colour at a phase: 0 red, 1 green, 2 blue (R245). -/
def colourOf (cfa p : Nat) : Nat :=
  (([[0, 1, 1, 2], [1, 0, 2, 1], [1, 2, 0, 1], [2, 1, 1, 0]] : List (List Nat)).getD cfa []).getD p 0

/-- Stage 1, unpack. -/
def stage1 (s : CamSet) (raw : Plane) : Plane := mkPlane s.w s.h fun x y => raw.at x y * 2 ^ (16 - s.bits) % 65536

/-- Stage 2, black level. -/
def stage2 (s : CamSet) (p : Plane) : Plane :=
  mkPlane s.w s.h fun x y =>
    let b := s.bl.getD (phaseOf x y) 0
    Nat.min 65535 (rdiv ((p.at x y - b) * 65535) (65535 - b))

/-- The eight same-colour neighbours at distance 2 (R246). -/
def ring (s : CamSet) (p : Plane) (x y : Nat) : List Nat :=
  let l := lower x 2
  let r := upper s.w x 2
  let u := lower y 2
  let v := upper s.h y 2
  [p.at l u, p.at x u, p.at r u, p.at l y, p.at r y, p.at l v, p.at x v, p.at r v]

/-- The pixel is in the static table (R246). -/
def CamSet.isStatic (s : CamSet) (x y : Nat) : Bool :=
  s.staticEn && s.defects.any fun e => decide (bitsOf 11 0 e = x) && decide (bitsOf 27 16 e = y)

/-- The pixel is dynamically defective (R246). -/
def CamSet.isDynamic (s : CamSet) (p : Plane) (x y : Nat) : Bool :=
  let n := ring s p x y
  let v := p.at x y
  s.dynEn && (decide (n.foldl Nat.max 0 + s.hi < v) || decide (v + s.lo < n.foldl Nat.min 65535))

/-- The replacement of a defective pixel (R246). -/
def CamSet.replaced (s : CamSet) (p : Plane) (x y : Nat) : Nat :=
  midMean (p.at (lower x 2) y) (p.at (upper s.w x 2) y) (p.at x (lower y 2)) (p.at x (upper s.h y 2))

/-- Stage 3, defective pixels (R246). -/
def stage3 (s : CamSet) (p : Plane) : Plane :=
  mkPlane s.w s.h fun x y => if s.isStatic x y || s.isDynamic p x y then s.replaced p x y else p.at x y

/-- The node and fraction of a coordinate on an axis of extent `n` (R247). -/
def shadeAxis (n x : Nat) : Nat × Nat :=
  let u := rdiv (x * 65536) (n - 1)
  if u / 4096 = 16 then (15, 4096) else (u / 4096, u % 4096)

/-- The interpolated shading gain (R247). -/
def shadeGain (g : List Nat) (w h x y : Nat) : Nat :=
  let a := shadeAxis w x
  let b := shadeAxis h y
  let n (i j : Nat) : Nat := g.getD (17 * j + i) 0
  rdiv ((4096 - a.2) * (4096 - b.2) * n a.1 b.1 + a.2 * (4096 - b.2) * n (a.1 + 1) b.1 + (4096 - a.2) * b.2 * n a.1 (b.1 + 1)
    + a.2 * b.2 * n (a.1 + 1) (b.1 + 1)) (2 ^ 24)

/-- Stage 4, lens shading. -/
def stage4 (s : CamSet) (p : Plane) : Plane :=
  if s.shading then
    mkPlane s.w s.h fun x y => Nat.min 65535 (rdiv (p.at x y * shadeGain (s.gains.getD (phaseOf x y) []) s.w s.h x y) 4096)
  else p

/-- Stage 5, white balance. -/
def stage5 (s : CamSet) (p : Plane) : Plane :=
  mkPlane s.w s.h fun x y => Nat.min 65535 (rdiv (p.at x y * s.wb.getD (phaseOf x y) 0) 4096)

/-- The distance of two values. -/
def dist (a b : Nat) : Nat := if a < b then b - a else a - b

/-- The green value missing at a red or blue site (R248). -/
def greenAt (s : CamSet) (p : Plane) (x y : Nat) : Nat :=
  let l := p.at (lower x 1) y
  let r := p.at (upper s.w x 1) y
  let u := p.at x (lower y 1)
  let v := p.at x (upper s.h y 1)
  if s.dmMode = 1 ∧ dist l r + s.dmThr < dist u v then rdiv (l + r) 2
  else if s.dmMode = 1 ∧ dist u v + s.dmThr < dist l r then rdiv (u + v) 2
  else rdiv (l + r + u + v) 4

/-- Component `k` (0 red, 1 green, 2 blue) at a site after stage 6 (R248). -/
def demosaic (s : CamSet) (p : Plane) (k x y : Nat) : Nat :=
  let c := colourOf s.cfa (phaseOf x y)
  if c = k then p.at x y
  else if c ≠ 1 ∧ k = 1 then greenAt s p x y
  else if c ≠ 1 then
    rdiv (p.at (lower x 1) (lower y 1) + p.at (upper s.w x 1) (lower y 1) + p.at (lower x 1) (upper s.h y 1)
      + p.at (upper s.w x 1) (upper s.h y 1)) 4
  else if colourOf s.cfa (phaseOf (x + 1) y) = k then rdiv (p.at (lower x 1) y + p.at (upper s.w x 1) y) 2
  else rdiv (p.at x (lower y 1) + p.at x (upper s.h y 1)) 2

/-- Stage 6, demosaic: three planes. -/
def stage6 (s : CamSet) (p : Plane) : List Plane := [0, 1, 2].map fun k => mkPlane s.w s.h fun x y => demosaic s p k x y

/-- The value of component `k` at a site. -/
def rgbAt (l : List Plane) (k x y : Nat) : Nat := Plane.at (l.getD k []) x y

/-- Stage 7, colour matrix. -/
def stage7 (s : CamSet) (l : List Plane) : List Plane :=
  [0, 1, 2].map fun i => mkPlane s.w s.h fun x y =>
    (clampI 0 65535 (divAway (s.matrix.getD (3 * i) 0 * rgbAt l 0 x y + s.matrix.getD (3 * i + 1) 0 * rgbAt l 1 x y
      + s.matrix.getD (3 * i + 2) 0 * rgbAt l 2 x y) 4096)).toNat

/-- The tone curve (R249). -/
def toneOut (t : List Nat) (v : Nat) : Nat :=
  let a : Int := t.getD (v / 256) 0
  let b : Int := t.getD (v / 256 + 1) 0
  (clampI 0 255 (divAway (a * 256 + (b - a) * (v % 256 : Nat)) 65536)).toNat

/-- Stage 8, tone curve. -/
def stage8 (s : CamSet) (l : List Plane) : List Plane := l.map fun p => mkPlane s.w s.h fun x y => toneOut s.tone (p.at x y)

/-- A frame after every stage. -/
structure Stages where
  s1 : Plane
  s2 : Plane
  s4 : Plane
  s6 : List Plane
  s7 : List Plane
  s8 : List Plane
  deriving DecidableEq, Repr, Inhabited

/-- The chain of Table 9.3. -/
def process (s : CamSet) (raw : Plane) : Stages :=
  let s1 := stage1 s raw
  let s2 := stage2 s s1
  let s4 := stage4 s (stage3 s s2)
  let s6 := stage6 s (stage5 s s4)
  let s7 := stage7 s s6
  ⟨s1, s2, s4, s6, s7, stage8 s s7⟩

/-! Lines (Table 9.2). -/

/-- The nearest good line of the same parity above, else below (R244). -/
def goodLine (l : List (Option (List Nat))) (y : Nat) : Option (List Nat) :=
  let above := ((List.range (y / 2 + 1)).map fun k => y - 2 * k).findSome? fun k => l.getD k none
  match above with
  | some a => some a
  | none => ((List.range (l.length / 2 + 1)).map fun k => y + 2 * k).findSome? fun k => l.getD k none

/-- The raw plane with replaced lines; a line with nothing to replace it holds free values (assumption 3). -/
def rawPlane (l : List (Option (List Nat))) (w : Nat) (freeSeq : Nat) : Plane :=
  (List.range l.length).map fun y => match goodLine l y with
    | some a => a
    | none => (List.range w).map fun x => Config.freeValue (freeSeq + y * w + x)

/-! Statistics (R255). -/

/-- The pixels of zone (zx, zy). -/
def zonePixels (s : CamSet) (zx zy : Nat) : List (Nat × Nat) :=
  let xs := (List.range s.w).filter fun x => decide (16 * x / s.w = zx)
  let ys := (List.range s.h).filter fun y => decide (16 * y / s.h = zy)
  ys.flatMap fun y => xs.map fun x => (x, y)

/-- SUM_R, SUM_G, SUM_B, N_SAT and SHARP of a zone (Table 9.6). -/
def zoneSums (s : CamSet) (p : Plane) (zx zy : Nat) : List Nat :=
  let l := zonePixels s zx zy
  let sum (k : Nat) : Nat := l.foldl (fun a q =>
    if colourOf s.cfa (phaseOf q.1 q.2) = k ∧ p.at q.1 q.2 < s.satThr then a + p.at q.1 q.2 else a) 0
  let sat : Nat := (l.filter fun q => decide (s.satThr ≤ p.at q.1 q.2)).length
  let sharp : Nat := l.foldl (fun a q =>
    if colourOf s.cfa (phaseOf q.1 q.2) = 1 ∧ q.1 + 2 < s.w then a + dist (p.at q.1 q.2) (p.at (q.1 + 2) q.2) else a) 0
  [sum 0, sum 1, sum 2, sat, sharp]

/-- The luminance bin of a pixel of stage 7 (R255). -/
def histBin (l : List Plane) (x y : Nat) : Nat := (77 * rgbAt l 0 x y + 150 * rgbAt l 1 x y + 29 * rgbAt l 2 x y + 128) / 256 / 256

/-- Every pixel of a frame. -/
def allPixels (s : CamSet) : List (Nat × Nat) := (List.range s.h).flatMap fun y => (List.range s.w).map fun x => (x, y)

/-- The histogram of R255. -/
def histogram (s : CamSet) (l : List Plane) : List Nat :=
  (List.range 256).map fun b => ((allPixels s).filter fun q => decide (histBin l q.1 q.2 = b)).length

/-- Static and dynamic replacements; a static pixel counts as static only (R246). -/
def defectCounts (s : CamSet) (p : Plane) : Nat × Nat :=
  let l := allPixels s
  ((l.filter fun q => s.isStatic q.1 q.2).length, (l.filter fun q => !s.isStatic q.1 q.2 && s.isDynamic p q.1 q.2).length)

/-- The statistics record of Table 9.6. -/
def statRecord (no c flags tag capture : Nat) (s : CamSet) (g : Stages) : List Nat :=
  let zones := (List.range 256).map fun z => zoneSums s g.s4 (z % 16) (z / 16)
  let n := defectCounts s g.s2
  let sat : Nat := zones.foldl (fun a z => a + z.getD 3 0) 0
  leBytes 4 no ++ [c, flags] ++ leBytes 2 tag ++ leBytes 8 capture ++ leBytes 4 n.1 ++ leBytes 4 n.2 ++ leBytes 4 sat ++ leBytes 4 0
    ++ (histogram s g.s7).flatMap (leBytes 4) ++ zones.flatMap fun z => z.flatMap (leBytes 4)

/-! Descriptors and buffers (R253, Table 9.5). -/

/-- The capture MT of a frame (R242). -/
def Dev.captureMt (d : Dev) (c fsMt : Nat) : Nat := enc 64 ((fsMt : Int) - 1000 * d.rd ISP.C_CAPT_OFS_US c)

/-- FLAGS of a frame. -/
def IspFrame.flags (f : IspFrame) : Nat := bit (decide (0 < f.replaced)) + 2 * bit f.long + 4 * bit f.takeup + 8 * bit f.throttled

/-- The descriptor of Table 9.5: STATUS and FE_MT. -/
def IspFrame.descriptor (c status feMt : Nat) (f : IspFrame) : List Nat :=
  padTo 64 (leBytes 4 f.no ++ [c, status, f.flags, 0] ++ leBytes 8 f.capture ++ leBytes 8 f.fsMt ++ leBytes 8 feMt
    ++ leBytes 2 f.sensorFn ++ leBytes 2 f.tag ++ leBytes 2 f.set.w ++ leBytes 2 f.set.h ++ leBytes 2 (satN 16 f.replaced))

/-- The planes of a finished frame into its buffer (R253). -/
def writePlanes (m : Memory) (addr w h : Nat) (l : List Plane) : Memory :=
  let stride := ceilDiv (w * h) 4096 * 4096
  [0, 1, 2].foldl (fun m k => memWriteBytes m (addr + 4096 + k * stride) (List.flatten (l.getD k []))) m

/-- TAP_POINT in force: 5 to 7 act as 0, above TAP_MAX acts as TAP_MAX (R256). -/
def Dev.tapPoint (d : Dev) (c : Nat) : Nat :=
  let t := d.rd ISP.C_TAP_POINT c
  if 5 ≤ t then 0 else Nat.min t (d.rd ISP.C_TAP_MAX c)

/-- The pixels of a raw tap (R256). -/
def tapPixels (point : Nat) (s : CamSet) (g : Stages) : List Nat :=
  match point with
  | 1 => (List.flatten g.s1).flatMap (leBytes 2)
  | 2 => (List.flatten g.s4).flatMap (leBytes 2)
  | 3 => (allPixels s).flatMap fun q => [0, 1, 2].flatMap fun k => leBytes 2 (rgbAt g.s6 k q.1 q.2)
  | _ => (allPixels s).flatMap fun q => [0, 1, 2].map fun k => rgbAt g.s8 k q.1 q.2

/-! Closing frames. -/

/-- The copy of the descriptor in a frame's tap buffer, while its tap is being written (R256). -/
def IspFrame.tapDescriptor (f : IspFrame) (c status feMt : Nat) (m : Memory) : Memory :=
  match f.tap with
  | some (a, _) => memWriteBytes m a (f.descriptor c status feMt)
  | none => m

/-- A camera's lines leave its line store and the tap backlog. -/
def IspH.dropLines (h : IspH) (c : Nat) : IspH :=
  { h with stores := h.stores.map fun p => (p.1, p.2.filter fun e => e.1 ≠ c), taps := h.taps.filter fun e => e.1 ≠ c }

/-- A frame in progress closes INCOMPLETE: it is not delivered, its buffer is released and what waits of it is dropped (R244). -/
def Dev.closeIncomplete (d : Dev) (c : Nat) (m : Memory) : Dev × Memory :=
  match (d.cam c).frame with
  | none => (d, m)
  | some f =>
    let d := d.setCam c { d.cam c with frame := none }
    (({ d with isp := d.isp.dropLines c }.count ISP.C_INCOMPLETE c).cause ISP.EVT_INCOMPLETE,
      f.tapDescriptor c 2 0 (memWriteBytes m f.addr (f.descriptor c 2 0)))

/-- Closes the frames in progress of a list of cameras. -/
def Dev.closeAll (d : Dev) (l : List Nat) (m : Memory) : Dev × Memory := l.foldl (fun a c => a.1.closeIncomplete c a.2) (d, m)

/-! Frame Start (R241, R242, R244). -/

/-- Packets on virtual channels 4 to 15 are discarded and counted (R236). -/
def Dev.discardPacket (d : Dev) (port : Nat) : Dev := d.count ISP.P_DISCARDED port

/-- Packets arrive on a port: its link is up (R240). -/
def Dev.portOn (d : Dev) (port : Nat) : Bool := d.powered 8 && decide (port < 2) && d.flag ISP.P_LINK_UP port

/-- The camera accepts packets (R236, R244). -/
def Dev.camOn (d : Dev) (port vc : Nat) : Bool :=
  d.portOn port && decide (vc < 4) && d.flag ISP.EN && d.flag ISP.C_EN (4 * port + vc) && d.flag ISP.C_BUILT (4 * port + vc)

/-- A Frame Start comes less than 0.9 / FPS_MAX after the last accepted one (Table 9.2). -/
def Dev.tooFast (d : Dev) (c : Nat) : Bool :=
  match (d.cam c).lastFs with
  | some t => decide ((d.now - t) * 10 * d.rd ISP.C_FPS_MAX c < 9000000000)
  | none => false

/-- The next frame buffer in turn that the fusion engine does not read (R253). -/
def Dev.nextBuffer (d : Dev) (c : Nat) : Nat :=
  let l := (d.camPlaces c).1
  let n := Nat.max 1 l.length
  let read : List Nat := match d.fus.build with | some b => b.cams.map fun f => f.addr | none => []
  let k := (d.cam c).nextBuf
  ((List.range n).find? fun i => !read.contains (l.getD ((k + i) % n) 0)).elim (k % n) fun i => (k + i) % n

/-- The raw tap of a frame that starts: its buffer and tap point (R256). -/
def Dev.tapStart (d : Dev) (c no : Nat) : Option (Nat × Nat) :=
  let pt := d.tapPoint c
  if pt = 0 ∨ no % Nat.max 1 (d.rd ISP.C_TAP_DECIM c) ≠ 0 then none
  else some ((d.camPlaces c).2.2.getD ((d.cam c).nextTap % 2) 0, pt)

/-- An accepted Frame Start (R241, R242, R251): the pending parameters apply together, and the frame keeps them to its end. What a CR12 swap
brought stands in the registers since the swap (R470); this frame is the first to be processed with it, and later field-core writes stand. -/
def Dev.frameStart (d : Dev) (c fn : Nat) (m : Memory) : Dev × Memory :=
  let a := d.closeIncomplete c m
  let d := (a.1.boundary 8 0).boundary 8 (c + 1)
  let k := d.nextBuffer c
  let addr := (d.camPlaces c).1.getD k 0
  let no := (d.rd ISP.C_FRAME_NO c + 1) % 2 ^ 32
  let tap := d.tapStart c no
  let f : IspFrame :=
    { no := no
      fsMt := d.mt
      set := d.camSet c
      tag := d.rd ISP.C_PSET_TAG c
      capture := d.captureMt c d.mt
      sensorFn := fn % 65536
      lines := []
      missing := false
      long := false
      replaced := 0
      takeup := (d.cam c).takeup
      throttled := d.ispThrottled
      addr := addr
      tap := tap }
  let nt := if tap.isSome then ((d.cam c).nextTap + 1) % 2 else (d.cam c).nextTap
  let d := d.setCam c { d.cam c with
    frame := some f, lastFs := some d.now, discarding := false, nextBuf := k + 1, nextTap := nt, takeup := false }
  (((d.wr ISP.C_FRAME_NO no c).wr ISP.C_SENSOR_FN fn c).cause ISP.EVT_FRAME_START,
    f.tapDescriptor c 0 0 (memWriteBytes a.2 addr (f.descriptor c 0 0)))

/-- The header ECC of a packet: `hdr` 1 a corrected header, 2 an uncorrectable one (R236). -/
def Dev.headerEcc (d : Dev) (port hdr : Nat) : Dev :=
  if hdr = 1 then d.count ISP.P_ECC_CORR port else if hdr = 2 then d.count ISP.P_ECC_UNCORR port else d

/-- FRAME_START: a Frame Start packet with the sensor's frame number (R242, R244); one with an uncorrectable header is discarded (R236). -/
def frameStart (port vc fn hdr : Nat) (m : Memory) (d : Dev) : Dev × Memory :=
  let d := if d.portOn port then d.headerEcc port hdr else d
  if hdr = 2 then (d, m)
  else if d.portOn port ∧ 4 ≤ vc then (d.discardPacket port, m)
  else if !d.camOn port vc then (d, m)
  else
    let c := 4 * port + vc
    if d.tooFast c then
      (((d.setCam c { d.cam c with discarding := true }).count ISP.C_TOO_FAST c).cause ISP.EVT_TOO_FAST, m)
    else d.frameStart c fn m

/-! Lines (R239, R244). -/

/-- Gb/s of a downstream gear, in Mb/s: G1 2,000, G2 4,000, G3 8,000 (Table 9.1). -/
def gearRate (g : Nat) : Nat := if g = 1 then 2000 else if g = 2 then 4000 else if g = 3 then 8000 else 2000

/-- Work done on the oldest entries of a backlog. -/
def drainWork : Nat → List (Nat × Nat) → List (Nat × Nat)
  | _, [] => []
  | n, (c, w) :: t => if n < w then (c, w - n) :: t else drainWork (n - w) t

/-- The line stores and the raw taps drain up to now: a port processes 400 × 10⁶ × (1 − s) pixels per second, `s` = ISP_SKIP ÷ 8, which
is 8 − ISP_SKIP twentieths of a pixel per ns; the taps share 1.0 GB/s, a byte per ns. A port takes its cameras' lines in the order they
arrived, and the taps likewise (R239, R257; the order is assumption 53's). -/
def Dev.ispDrain (d : Dev) : Dev :=
  let t := d.now - d.isp.drainedAt
  { d with isp := { d.isp with
    stores := d.isp.stores.map fun p => (p.1, drainWork (t * (8 - d.rd THM.ISP_SKIP)) p.2)
    taps := drainWork t d.isp.taps
    drainedAt := d.now } }

/-- A camera's lines in a backlog. -/
def linesOf (c : Nat) (l : List (Nat × Nat)) : Nat := (l.filter fun e => e.1 = c).length

/-- The line store of a camera is full (R239). -/
def Dev.storeIsFull (d : Dev) (c port : Nat) : Bool := decide (16 ≤ linesOf c (tget port d.isp.stores))

/-- Bytes of a tapped line (R256). -/
def tapLine (point w : Nat) : Nat := if point = 3 then 6 * w else if point = 4 then 3 * w else 2 * w

/-- A line enters its camera's line store, and the tap backlog where the frame is tapped. -/
def Dev.putLine (d : Dev) (c port : Nat) (f : IspFrame) : Dev :=
  { d with isp := { d.isp with
    stores := tset port (tget port d.isp.stores ++ [(c, 20 * f.set.w)]) d.isp.stores
    taps := match f.tap with
      | some (_, pt) => d.isp.taps ++ [(c, tapLine pt f.set.w)]
      | none => d.isp.taps } }

/-- A tap that has fallen more than 16 lines behind is abandoned (R257). -/
def Dev.tapBehind (d : Dev) (c : Nat) (m : Memory) : Dev × Memory :=
  match (d.cam c).frame with
  | some f =>
    if f.tap.isSome ∧ 16 < linesOf c d.isp.taps then
      let d := d.setCam c { d.cam c with frame := some { f with tap := none } }
      (({ d with isp := { d.isp with taps := d.isp.taps.filter fun e => e.1 ≠ c } }.count ISP.C_TAP_SKIPS c).cause ISP.EVT_TAP_SKIPPED,
        f.tapDescriptor c 2 0 m)
    else (d, m)
  | none => (d, m)

/-- A line of an open frame (Table 9.2): lost on a full line store, beyond the height, damaged, or taken. -/
def Dev.takeLine (d : Dev) (c port : Nat) (crcOk : Bool) (px : List Nat) (f : IspFrame) : Dev :=
  let put (g : IspFrame) (d : Dev) : Dev := d.setCam c { d.cam c with frame := some g }
  if f.set.h ≤ f.lines.length then put { f with long := true } (if f.long then d else d.count ISP.C_LONG c)
  else if d.storeIsFull c port then (put { f with missing := true } (d.count ISP.C_OVERFLOW c)).cause ISP.EVT_OVERFLOW
  else
    let d := d.putLine c port f
    if !crcOk ∨ px.length ≠ f.set.w then
      (put { f with lines := none :: f.lines, replaced := f.replaced + 1 } (d.count ISP.C_DAMAGED c)).cause ISP.EVT_DAMAGED
    else put { f with lines := some px :: f.lines } d

/-- The data type of a line: RAW10, RAW12 or RAW14, as CR11 fixes for the camera (Table 9.1). -/
def Dev.typeOk (d : Dev) (c dt : Nat) : Bool := decide (dt = 0x2B + d.rd ISP.C_DT c ∧ d.rd ISP.C_DT c < 3)

/-- A packet arrives `after` ns after the port's last one, and not sooner than the link carries `bits` bits at the port's gear (R236). -/
def Dev.packet (d : Dev) (port after bits : Nat) : Dev :=
  let carry := ceilDiv (bits * 1000) (gearRate (d.rd ISP.P_GEAR port))
  let d := d.waitUntil ((tget? port d.isp.packetAt).elim d.now fun t => t + Nat.max after carry)
  { d with isp := { d.isp with packetAt := tset port d.now d.isp.packetAt } }

/-- The frame a port's virtual channel has open for lines. -/
def Dev.openFrame (d : Dev) (port vc : Nat) : Option IspFrame :=
  let c := 4 * port + vc
  if d.camOn port vc ∧ !(d.cam c).discarding then (d.cam c).frame else none

/-- LINE: a packet with a data type arrives `after` ns after the port's last (R236, R239, R244). Line Start and Line End (0x02, 0x03) are
ignored, embedded data (0x12) is discarded without count. -/
def lineReceived (port vc dt hdr after : Nat) (crcOk : Bool) (px : List Nat) (m : Memory) (d : Dev) : Dev × Memory :=
  if !d.portOn port then (d, m)
  else
    let c := 4 * port + vc
    let d := ((d.packet port after (px.length * (10 + 2 * d.rd ISP.C_DT c))).headerEcc port hdr).ispDrain
    if hdr = 2 then match d.openFrame port vc with
      | some f => (d.setCam c { d.cam c with frame := some { f with missing := true } }, m)
      | none => (d, m)
    else if 4 ≤ vc then (d.discardPacket port, m)
    else if dt = 0x12 ∨ dt = 2 ∨ dt = 3 then (d, m)
    else if !d.typeOk c dt then (d.discardPacket port, m)
    else match d.openFrame port vc with
      | some f => (d.takeLine c port crcOk px f).tapBehind c m
      | none => (d, m)

/-! Frame End (R253, R255, R256). -/

/-- The raw tap of a complete frame (R256): its pixels and the descriptor copy. -/
def writeTap (c feMt : Nat) (f : IspFrame) (g : Stages) (m : Memory) : Memory :=
  match f.tap with
  | some (a, pt) => memWriteBytes (memWriteBytes m a (f.descriptor c 1 feMt)) (a + 4096) (tapPixels pt f.set g)
  | none => m

/-- The statistics record of a complete frame and its item (R255). -/
def Dev.writeStats (d : Dev) (c : Nat) (f : IspFrame) (g : Stages) (m : Memory) : Dev × Memory :=
  let k := (d.cam c).nextStat
  let bs := statRecord f.no c f.flags f.tag f.capture f.set g
  let d := d.setCam c { d.cam c with nextStat := (k + 1) % Nat.max 1 (d.rd ISP.C_N_BUF c) }
  (d.queueItem 8 (d.rd ISP.STATS_Q) (bs.take 32), memWriteBytes m ((d.camPlaces c).2.1 + 8192 * k) bs)

/-- A frame completes: planes, descriptor, completion item, statistics, tap, and the fusion engine (R253, R255, R215). -/
def Dev.frameComplete (d : Dev) (c : Nat) (f : IspFrame) (m : Memory) : Dev × Memory :=
  let s := f.set
  let g := process s (rawPlane f.lines.reverse s.w d.freeSeq)
  let desc := f.descriptor c 1 d.mt
  let m := writeTap c d.mt f g (memWriteBytes (writePlanes m f.addr s.w s.h g.s8) f.addr desc)
  let d := { d.setCam c { d.cam c with frame := none } with freeSeq := d.freeSeq + s.w * s.h }
  let d := (d.queueItem 8 (d.rd ISP.FRAME_Q) (desc.take 32)).cause ISP.EVT_FRAME_DONE
  let d := d.fusFrame ⟨c, f.capture, f.addr, s.w, s.h⟩
  d.writeStats c f g m

/-- FRAME_END: a Frame End packet (R244, R253); one with an uncorrectable header is discarded (R236). -/
def frameEnd (port vc hdr : Nat) (m : Memory) (d : Dev) : Dev × Memory :=
  let d := if d.portOn port then d.headerEcc port hdr else d
  if hdr = 2 then (d, m)
  else if d.portOn port ∧ 4 ≤ vc then (d.discardPacket port, m)
  else if !d.camOn port vc then (d, m)
  else
    let c := 4 * port + vc
    if (d.cam c).discarding then (d.setCam c { d.cam c with discarding := false }, m)
    else match (d.cam c).frame with
      | none => (d, m)
      | some f => if f.missing ∨ f.lines.length < f.set.h then d.closeIncomplete c m else d.frameComplete c f m

/-! Links and power (R240). -/

/-- LINK_UP and CPn_UP. -/
def Dev.linkUp (d : Dev) (p : Nat) (up : Bool) : Dev :=
  (d.wr ISP.P_LINK_UP (bit up) p).wr (if p = 0 then ISP.CP0_UP else ISP.CP1_UP) (bit up)

/-- The cameras of a port. -/
def portCams (p : Nat) : List Nat := [4 * p, 4 * p + 1, 4 * p + 2, 4 * p + 3]

/-- LINK_DOWN: a port's link goes down; frames in progress close (R240, Table 9.2). -/
def linkDown (p : Nat) (m : Memory) (d : Dev) : Dev × Memory :=
  if !d.powered 8 ∨ 2 ≤ p ∨ !d.flag ISP.P_LINK_UP p then (d, m)
  else
    let busy := (portCams p).any fun c => (d.cam c).frame.isSome
    let a := ((d.linkUp p false).cause ISP.EVT_LINK_LOST).closeAll (portCams p) m
    let d := { a.1 with isp := { a.1.isp with downAt := tset p d.now a.1.isp.downAt } }
    (if busy then d.count ISP.P_LINK_DROPS p else d, a.2)

/-- CAM_LINK_LOST: the link has been down for 100 ms (R240). -/
def camLinkLost (p : Nat) (d : Dev) : Dev :=
  match tget? p d.isp.downAt with
  | some t => if d.flag ISP.P_LINK_UP p then d else (d.waitUntil (t + 100 * ms)).raise Flt.CAM_LINK_LOST p
  | none => d

/-- CAMERA_LINK_UP: retraining ends; the fault recovers (R240, Table 18.6). -/
def cameraLinkUp (p : Nat) (d : Dev) : Dev :=
  if !d.powered 8 ∨ 2 ≤ p then d
  else ({ d with isp := { d.isp with downAt := tdel p d.isp.downAt } }.linkUp p true).recover Flt.CAM_LINK_LOST p

/-- POC_TRIP: more than 1.2 A for 100 µs: the port's power goes off (R240). -/
def pocTrip (p : Nat) (d : Dev) : Dev :=
  if !d.powered 8 ∨ 2 ≤ p ∨ !d.flag ISP.P_POC_EN p ∨ d.flag ISP.P_POC_TRIP p then d
  else
    (({ (d.wr ISP.P_POC_TRIP 1 p).cause ISP.EVT_POC_TRIP with
        flt := { d.flt with due := d.flt.due.filter fun x => x.2 ≠ (Flt.CAM_POWER, p) } }).emit (.pin 1 p 0)).raise Flt.CAM_POWER p

/-- POC_EN_WRITE: a 0-to-1 write ends a trip; its fault recovers once the power has stayed on for 100 µs (R240, Table 18.6). -/
def pocEnWrite (p : Nat) (on : Bool) (d : Dev) : Dev :=
  let was := d.flag ISP.P_POC_EN p
  let tripped := d.flag ISP.P_POC_TRIP p
  let d := d.wr ISP.P_POC_EN (bit on) p
  if on ∧ !was then
    let d := (d.wr ISP.P_POC_TRIP 0 p).emit (.pin 1 p 1)
    if tripped then { d with flt := { d.flt with due := d.flt.due ++ [(d.now + 100000, Flt.CAM_POWER, p)] } } else d
  else if !on ∧ was then { d with flt := { d.flt with due := d.flt.due.filter fun x => x.2 ≠ (Flt.CAM_POWER, p) } }.emit (.pin 1 p 0)
  else d

/-- FSYNC_TRIGGER: at tₙ − FSYNC_OFS_US the trigger goes up the link (R243). -/
def fsyncTrigger (p : Nat) (d : Dev) : Dev :=
  if !d.powered 8 ∨ !d.running ∨ 2 ≤ p ∨ !d.flag ISP.P_FSYNC_EN p then d
  else
    let ofs := 1000 * Nat.min 33333 (d.rd ISP.P_FSYNC_OFS_US p)
    (d.waitMt (fusInstant (nextInstant (d.mt + ofs)) - ofs)).emit (.pin 2 p 1)

/-- I2C_GO: one tunnelled transfer starts; a write while busy is ignored (R258). -/
def i2cGo (p : Nat) (d : Dev) : Dev :=
  if d.rd ISP.P_I2C_STATE p = 1 then d
  else (d.wr ISP.P_I2C_STATE 1 p).emit (.i2c p (d.rd ISP.P_I2C_ADDR p) (d.flag ISP.P_I2C_READ p) (d.rd ISP.P_I2C_REG p) (d.rd ISP.P_I2C_DATA p))

/-- I2C_DONE: the transfer ends, acknowledged with the byte read, or not (R258). -/
def i2cDone (p : Nat) (ack : Bool) (byte : Nat) (d : Dev) : Dev :=
  if d.rd ISP.P_I2C_STATE p ≠ 1 then d
  else if ack then
    (if d.flag ISP.P_I2C_READ p then d.wr ISP.P_I2C_DATA byte p else d).wr ISP.P_I2C_STATE 2 p
  else d.wr ISP.P_I2C_STATE 3 p

/-! Enables and presets. -/

/-- CAMERA_EN_WRITE: a camera's EN (R241, R244). -/
def cameraEnable (c : Nat) (on : Bool) (m : Memory) (d : Dev) : Dev × Memory :=
  let was := d.flag ISP.C_EN c
  let d := d.wr ISP.C_EN (bit on) c
  if on ∧ !was then (d.wr ISP.C_FRAME_NO 0 c, m) else if !on then d.closeIncomplete c m else (d, m)

/-- ISP EN is written; 0 closes every frame in progress (R258). -/
def ispEnable (on : Bool) (m : Memory) (d : Dev) : Dev × Memory :=
  let d := d.wr ISP.EN (bit on)
  if on then (d, m) else d.closeAll (List.range 8) m

/-- DPC_PRESET_WRITE (R250): STATIC-ONLY leaves the limits; 3 is ignored unless the image defines it. -/
def dpcPreset (c v : Nat) (d : Dev) : Dev :=
  let v := v % 4
  if v = 3 ∧ !d.definesPreset ISP.C_DPC_PRESET c v then d
  else
    let lim : Option Nat := if v = 1 then some 0x1000 else if v = 2 then some 0x600 else none
    let dyn : Option Nat := if v = 3 then none else some (bit (v ≠ 0))
    let sta : Option Nat := if v = 3 then none else some 1
    ((((d.wr ISP.C_DPC_PRESET v c).expand ISP.C_DPC_PRESET c v ISP.C_DPC_STATIC_EN c 0 sta).expand ISP.C_DPC_PRESET c v ISP.C_DPC_DYN_EN
      c 0 dyn).expand ISP.C_DPC_PRESET c v ISP.C_DPC_HI c 0 lim).expand ISP.C_DPC_PRESET c v ISP.C_DPC_LO c 0 lim

/-- T[k] of a tone preset (Table 9.4). -/
def toneEntry (v k : Nat) : Option Nat :=
  match v with
  | 0 => some (255 * k)
  | 1 => some (toneGamma.getD k 0)
  | 2 => some (toneSrgb.getD k 0)
  | _ => none

/-- TONE_PRESET_WRITE (R250): 3 is ignored unless the image defines it. -/
def tonePreset (c v : Nat) (d : Dev) : Dev :=
  let v := v % 4
  if v = 3 ∧ !d.definesPreset ISP.C_TONE_PRESET c v then d
  else
    let d := forAll (List.range 129) (fun k d => d.expand ISP.C_TONE_PRESET c v ISP.C_T_EVEN c k (toneEntry v (2 * k))) (d.wr ISP.C_TONE_PRESET v c)
    forAll (List.range 128) (fun k d => d.expand ISP.C_TONE_PRESET c v ISP.C_T_ODD c k (toneEntry v (2 * k + 1))) d

/-- A CR12 swap: every camera takes the content up at its next Frame Start; the frames in progress keep their parameters (R251). -/
def Dev.ispSwap (d : Dev) : Dev := forAll (List.range 8) (fun c d => d.setCam c { d.cam c with takeup := true }) d

/-- A frame in progress while the ISP level is above 0 is throttled (Table 9.5). -/
def Dev.ispThrottle (d : Dev) : Dev :=
  if !d.ispThrottled then d
  else forAll (List.range 8) (fun c d => match (d.cam c).frame with
    | some f => d.setCam c { d.cam c with frame := some { f with throttled := true } }
    | none => d) d

end Sys2Proof.Machine
end

