-- ==== Sys2Proof/Machine/Gns.lean ====
section
/-! DEFINITION. Machine/Gns.lean: the GNSS baseband (chapter 10, R259 to R278). -/

namespace Sys2Proof.Machine

/-! Signals (R260, R263, R266). -/

/-- The constellation of a signal code: 0 GPS, 1 Galileo, 2 BeiDou (Table 10.1). -/
def GnssSig.constel (s : GnssSig) : Nat := if s.sig = 3 ∨ s.sig = 6 then 1 else if s.sig = 4 ∨ s.sig = 7 then 2 else 0

/-- An L5-band signal (Table 10.1). -/
def GnssSig.isL5 (s : GnssSig) : Bool := decide (5 ≤ s.sig)

/-- A satellite as one number. -/
def GnssSig.sat (s : GnssSig) : Nat := s.svid * 3 + s.constel

/-- The signal's name: signal, satellite, antenna. -/
def GnssSig.name (s : GnssSig) : Nat × Nat × Nat := (s.sig, s.svid, s.ant)

/-- The category of R263, 3 for a signal that is not received at all (R260). -/
def GnssSig.category (l : List GnssSig) (s : GnssSig) : Nat :=
  if s.sig = 0 ∨ 7 < s.sig then 3
  else if s.ant = 0 then (if s.isL5 then 1 else 0)
  else if s.ant = 1 ∧ !s.isL5 ∧ l.any (fun t => decide (t.ant = 0) && decide (t.sat = s.sat)) then 2
  else 3

/-- Inserts a signal into a list by descending elevation. -/
def insSig (s : GnssSig) : List GnssSig → List GnssSig
  | [] => [s]
  | t :: r => if t.elev < s.elev then s :: t :: r else t :: insSig s r

/-- The signals of a category by descending elevation. -/
def sigsOf (l : List GnssSig) (c : Nat) : List GnssSig := (l.filter fun s => decide (s.category l = c)).foldl (fun a s => insSig s a) []

/-- A signal's satellite is among signals tracked on ANT0 (R260). -/
def onAnt0 (l : List GnssSig) (s : GnssSig) : Bool := l.any fun t => decide (t.ant = 0 ∧ t.sat = s.sat)

/-- The lowest-elevation signal a condition picks, the last of equals. -/
def lowestSig (l : List GnssSig) (p : GnssSig → Bool) : Option GnssSig :=
  (l.filter p).foldl (fun (b : Option GnssSig) s => match b with
    | some t => if s.elev ≤ t.elev then some s else some t
    | none => some s) none

/-- A signal without a channel asks for one: a free one; or, where its satellite has risen, the channel of the lowest-elevation signal of a
later category, of its own where no later one has a channel. Answers the channels and the displaced count (R263). -/
def askChannel (all : List GnssSig) (risen : Bool) (a : List GnssSig × Nat) (s : GnssSig) : List GnssSig × Nat :=
  let cat (t : GnssSig) : Nat := t.category all
  if cat s = 2 ∧ !onAnt0 a.1 s then a
  else if a.1.length < 128 then (a.1 ++ [s], a.2)
  else if !risen then a
  else
    let victim := match lowestSig a.1 fun t => decide (cat s < cat t) with
      | some t => some t
      | none => lowestSig a.1 fun t => decide (cat t = cat s)
    match victim with
    | some t => ((a.1.filter fun u => decide (u.name ≠ t.name)) ++ [s], a.2 + 1)
    | none => a

/-- The channels after an epoch's signals, and how many were displaced: signals still received keep theirs, the others ask in the order of
R263. An ANT1 signal goes with its satellite's ANT0 signals (R260). -/
def allocate (was : List (Nat × Nat × Nat)) (seen : Option (List (Nat × Nat × Nat))) (all : List GnssSig) (ant1 : Bool) : List GnssSig × Nat :=
  let rx := sigsOf all 0 ++ sigsOf all 1 ++ (if ant1 then sigsOf all 2 else [])
  let risen (s : GnssSig) : Bool := match seen with | some l => !l.contains s.name | none => false
  let kept := (rx.filter fun s => was.contains s.name).take 128
  let ask (a : List GnssSig × Nat) (l : List GnssSig) := (l.filter fun s => !was.contains s.name).foldl (fun a s => askChannel all (risen s) a s) a
  let a := ask (kept, 0) (sigsOf all 0 ++ sigsOf all 1)
  let a := (a.1.filter fun s => decide (s.ant = 0) || onAnt0 a.1 s, a.2)
  ask a (if ant1 then sigsOf all 2 else [])

/-- CONST_EN and BAND_EN in force; 0 acts as the value of R278. -/
def Dev.constEn (d : Dev) : Nat := if d.rd GNS.CONST_EN = 0 then 7 else d.rd GNS.CONST_EN
def Dev.bandEn (d : Dev) : Nat := if d.rd GNS.BAND_EN = 0 then 1 else d.rd GNS.BAND_EN

/-- A tracked signal enters the solution (R266). -/
def Dev.sigEnters (d : Dev) (s : GnssSig) : Bool :=
  decide (s.ant = 0) && d.constEn.testBit s.constel && d.bandEn.testBit (bit s.isL5) && decide (Nat.min 60 (d.rd GNS.ELEV_MASK) ≤ s.elev)
    && decide (4 * clampN 20 45 (d.rd GNS.CN0_MASK) ≤ s.cn0) && s.nav

/-- Satellites enough for a fix: four, plus one for each constellation beyond the first (R266). -/
def enoughSats (l : List GnssSig) : Bool :=
  let sats := (l.map fun s => s.sat).eraseDups
  let cons := (l.map fun s => s.constel).eraseDups
  decide (sats ≠ [] ∧ 3 + cons.length ≤ sats.length)

/-- FIX from the signals of the solution: 2 when the satellites with an L1 and L5 pair suffice, else 1 or 0 (R266). -/
def fixOf (l : List GnssSig) : Nat :=
  let pairs := l.filter fun s => l.any fun t => decide (t.sat = s.sat) && decide (t.isL5 ≠ s.isL5)
  if enoughSats pairs then 2 else if enoughSats l then 1 else 0

/-- Satellites tracked on the L1 band of both antennas (R267). -/
def commonSats (l : List GnssSig) : Nat :=
  (((l.filter fun s => decide (s.ant = 1) && !s.isL5 && l.any fun t => decide (t.ant = 0) && !t.isL5 && decide (t.sat = s.sat)).map
    fun s => s.sat).eraseDups).length

/-- HDG_VALID (R267). -/
def Dev.hdgValid (d : Dev) (l : List GnssSig) (sol : GnssSol) : Bool :=
  d.flag GNS.ANT1_EN && decide (5 ≤ commonSats l) && decide (dist sol.baseLen (clampN 300 10000 (d.rd GNS.BASELINE_MM)) ≤ 20)

/-! Heading and lever arm (R267, R268). -/

/-- The angle in the first quadrant, 2^-32 revolution, whose tangent is y / x, by bisection (assumption 12). -/
def angleIn (x y : Int) : Nat → Nat → Nat
  | 0, a => a
  | n + 1, a => let b := a + 2 ^ n; angleIn x y n (if 0 ≤ y * cosQ b - x * sinQ b then b else a)

/-- Course over ground in 2^-32 revolution, clockwise from north (R268). -/
def course (n e : Int) : Nat :=
  let a := angleIn n.natAbs e.natAbs 30 0
  (if 0 ≤ n then (if 0 ≤ e then a else 2 ^ 32 - a) else (if 0 ≤ e then 2 ^ 31 - a else 2 ^ 31 + a)) % 2 ^ 32

/-- The heading for the lever arm, 2^-32 revolution: dual-antenna, else course above 0.5 m/s (R268). -/
def armHeading (hdg : Option Nat) (sol : GnssSol) : Option Nat :=
  match hdg with
  | some h => some (h * 65536)
  | none => if 250000 < sol.velN * sol.velN + sol.velE * sol.velE then some (course sol.velN sol.velE) else none

/-- The reference point from ANT0's position (R268): latitude, longitude, height, and whether the arm went unapplied. -/
def Dev.refPoint (d : Dev) (lat lon height : Int) (hdg : Option Nat) : Int × Int × Int × Bool :=
  let h := height - d.rdS GNS.ANT0_Z
  match hdg with
  | none => (lat, lon, h, true)
  | some a =>
    let x := d.rdS GNS.ANT0_X
    let y := d.rdS GNS.ANT0_Y
    let e := -((x * sinQ a - y * cosQ a) >>> 30)
    let n := -((x * cosQ a + y * sinQ a) >>> 30)
    let p := Config.moveGeo lat lon e n
    (p.1, p.2, h, false)

/-! Items (Tables 10.4 to 10.6). -/

/-- FLAGS of an EPOCH or PPS item. -/
def Dev.epochFlags (d : Dev) : Nat := d.rd GNS.TIME_VALID + 2 * bit d.gns.gap

/-- The EPOCH item (Table 10.4). -/
def Dev.epochItem (d : Dev) (f : GnsFix) (n : Nat) : List Nat :=
  leBytes 2 f.seq ++ [3, n, d.epochFlags, 0, 0, 0] ++ leBytes 8 (if d.gns.everValid then f.gt else 0) ++ leBytes 8 f.mt
    ++ leBytes 8 (enc 64 f.sol.clkBias)

/-- A MEAS item (Table 10.5). -/
def Dev.measItem (d : Dev) (seq fix : Nat) (s : GnssSig) : List Nat :=
  let used := decide (0 < fix) && d.sigEnters s
  leBytes 2 seq ++ [2, s.sig, s.svid, s.ant, satN 8 s.cn0,
    bit s.prValid + 2 * bit s.cpValid + 4 * bit s.half + 8 * bit s.slip + 16 * bit used] ++ leBytes 8 s.range ++ leBytes 8 (enc 64 s.carrier)
    ++ leBytes 4 (enc 32 s.doppler) ++ leBytes 2 (satN 16 s.lockMs) ++ [0, 0]

/-- A degree value of 10^-9 as 10^-7 and the rest, the rest with the sign of the value (Table 10.6). -/
def splitDeg (v : Int) : Int × Int := (Int.tdiv v 100, Int.tmod v 100)

/-- The PVT item (Table 10.6). -/
def Dev.pvtItem (d : Dev) (f : GnsFix) (external : Bool) (p : Int × Int × Int × Bool) (hdg : Option Nat) (hAcc : Nat) : List Nat :=
  let la := splitDeg p.1
  let lo := splitDeg p.2.1
  let flags := bit hdg.isSome + 2 * bit (decide (0 < f.fix)) + 4 * bit (decide (0 < f.fix)) + 8 * bit external + 16 * bit p.2.2.2
  leBytes 2 f.seq ++ [1, f.fix, f.nsv, flags, enc 8 la.2, enc 8 lo.2] ++ leBytes 8 (if d.gns.everValid then f.gt else 0) ++ leBytes 8 f.mt
    ++ leBytes 4 (enc 32 la.1) ++ leBytes 4 (enc 32 lo.1) ++ leBytes 4 (enc 32 p.2.2.1) ++ leBytes 4 (enc 32 f.sol.velN)
    ++ leBytes 4 (enc 32 f.sol.velE) ++ leBytes 4 (enc 32 f.sol.velD) ++ leBytes 2 (hdg.getD 0) ++ leBytes 2 f.sol.hdgAcc
    ++ leBytes 2 (satN 16 hAcc) ++ leBytes 2 (satN 16 f.sol.vAcc) ++ leBytes 2 (satN 16 f.sol.sAcc) ++ leBytes 2 f.sol.pdop ++ leBytes 4 0

/-! Delivery (R270). -/

/-- Velocity as the GNSS source: projected on the longitudinal axis, with the fused sign where no dual-antenna heading is valid
(Table 4.2). -/
def Dev.gnsVelocity (d : Dev) (f : GnsFix) : Dev :=
  if f.fix = 0 then d
  else
    let a := f.heading * 65536
    let sq := (f.sol.velN * f.sol.velN + f.sol.velE * f.sol.velE).toNat
    let v : Int := if f.hdgValid then (256 * (f.sol.velN * cosQ a + f.sol.velE * sinQ a)) >>> 30
                   else if d.tmb.fused < 0 then -(isqrt (65536 * sq) : Int) else (isqrt (65536 * sq) : Int)
    d.mdSample 1 v f.mt

/-- Position and heading to the look-ahead unit: course over ground where no heading is valid and MD speed is above 0.5 m/s
(R129, R270). -/
def Dev.gnsPose (d : Dev) (lat lon : Int) (hdg : Option Nat) (sol : GnssSol) : Dev :=
  let g := Config.localGrid (100 * d.rdS LAH.LAT0) (100 * d.rdS LAH.LON0) lat lon
  let h := match hdg with
    | some h => some (h * 65536)
    | none => if 128000 < d.tmb.fused.natAbs then some (course sol.velN sol.velE) else none
  if d.powered 4 then d.lahEpoch g.1 g.2 h else d

/-- The internal heading of an epoch where valid. -/
def GnsFix.hdg? (f : GnsFix) : Option Nat := if f.hdgValid then some f.heading else none

/-- The internal solution goes to the look-ahead unit. -/
def Dev.internalPose (d : Dev) (f : GnsFix) : Dev :=
  if f.fix = 0 then d
  else
    let p := d.refPoint f.sol.lat f.sol.lon f.sol.height (armHeading f.hdg? f.sol)
    d.gnsPose p.1 p.2.1 f.hdg? f.sol

/-! The epoch (R265 to R270). -/

/-- FIX, TIME_VALID and HDG_VALID change, with their events and faults (R266, R276). -/
def Dev.fixChange (d : Dev) (fix : Nat) (hdg : Bool) : Dev :=
  let was := d.rd GNS.FIX
  let hadHdg := d.flag GNS.HDG_VALID
  let d := ((d.wr GNS.FIX fix).wr GNS.TIME_VALID (bit (decide (0 < fix)))).wr GNS.HDG_VALID (bit hdg)
  let d := if was = 0 ∧ 0 < fix then d.cause GNS.EVT_FIX_GAINED else d
  let d := if 0 < was ∧ fix = 0 then ((d.count GNS.FIX_LOSSES).cause GNS.EVT_FIX_LOST).raise Flt.GNSS_FIX_LOST else d
  let d := if 0 < fix then d.recover Flt.GNSS_FIX_LOST else d
  let d := if hadHdg ∧ !hdg then d.cause GNS.EVT_HDG_LOST else d
  { d with gns := { d.gns with everValid := d.gns.everValid || decide (0 < fix), gap := d.gns.gap || (d.gns.everValid && decide (fix = 0)) } }

/-- TTFF_MS at the first fix since power-up (R264). -/
def Dev.firstFix (d : Dev) (fix : Nat) : Dev :=
  match d.gns.upAt with
  | some t =>
    if 0 < fix then { d with gns := { d.gns with upAt := none } }.wr GNS.TTFF_MS (satN 16 ((d.now - t) / ms)) else d
  | none => d

/-- Tracking at an epoch: the channels and what was received, `k` displaced signals, slips. -/
def Dev.trackSignals (d : Dev) (all now : List GnssSig) (k : Nat) : Dev :=
  let slips : Nat := (now.filter fun s => s.slip).length
  let d := { d with gns := { d.gns with tracked := now.map GnssSig.name, seen := some (all.map GnssSig.name) } }
  ((d.wr GNS.TRACKING now.length).wr GNS.CH_DISPLACED (satN 16 (d.rd GNS.CH_DISPLACED + k))).wr GNS.SLIPS (satN 16 (d.rd GNS.SLIPS + slips))

/-- The monitors (R278). -/
def Dev.gnsMonitors (d : Dev) (sol : GnssSol) (fix : Nat) : Dev :=
  let d := (((d.wr GNS.AGC0 sol.agc0).wr GNS.AGC1 sol.agc1).wr GNS.ANT0_MA sol.ma0).wr GNS.ANT1_MA sol.ma1
  if 0 < fix then d.wr GNS.LEAP_S sol.leap else d

/-- GPS seconds from 1980-01-06 to 2000-01-01, where SYS_RTC counts from. -/
def rtcEpoch : Nat := 630720000

/-- The Shoit island sets the RTC from GNSS time, and RTC_VALID with it (R55), at every epoch with a fix (assumption 26). -/
def Dev.rtcFromGnss (d : Dev) (fix gt : Nat) : Dev :=
  if fix = 0 then d
  else ({ d with sys := { d.sys with rtcAt := d.now - gt % second } }.wr SYS.RTC_S (gt / second - rtcEpoch)).wr SYS.RTC_VALID 1

/-- What the receiver clock reads now: it runs on with the module's clock from the last epoch; before the first one it is what the epoch's
own time and bias say. -/
def Dev.receiverClock (d : Dev) (sol : GnssSol) : Nat :=
  match d.gns.last with
  | some f => f.clock + (d.now - f.at_)
  | none => ((sol.gt : Int) + divAway sol.clkBias 1000).toNat

/-- The epoch that comes next: the first multiple of the period that the receiver clock has not passed (R265). -/
def Dev.nextEpoch (d : Dev) (sol : GnssSol) : Nat :=
  let p := d.epochPeriod
  let t := ceilDiv (d.receiverClock sol) p * p
  match d.gns.last with
  | some f => if t ≤ f.clock then t + p else t
  | none => t

/-- An epoch with its signals and what they solve to, at receiver clock reading `clock`. -/
def Dev.epoch (d : Dev) (all : List GnssSig) (sol : GnssSol) (clock : Nat) : Dev :=
  let ch := allocate d.gns.tracked d.gns.seen all (d.flag GNS.ANT1_EN)
  let now := ch.1
  let used := now.filter d.sigEnters
  let fix := fixOf used
  let nsv := if fix = 0 then 0 else (used.map fun s => s.sat).eraseDups.length
  let hdg := decide (0 < fix) && d.hdgValid now sol
  let heading := (sol.baseDir + 65536 - d.rd GNS.BASE_YAW % 65536) % 65536
  let seq := (d.gns.seq + 1) % 65536
  let f : GnsFix := ⟨seq, d.now, d.mt, sol.gt, fix, nsv, hdg, heading, sol, clock⟩
  let d := (((((d.trackSignals all now ch.2).gnsMonitors sol fix).fixChange fix hdg).firstFix fix).wr GNS.NSV nsv).rtcFromGnss fix sol.gt
  let d := { d with gns := { d.gns with seq := seq, last := some f, fixPos := if 0 < fix then some (sol.lat, sol.lon) else d.gns.fixPos } }
  let d := d.queueItem 9 (d.rd GNS.MEAS_Q) (d.epochItem f now.length)
  let d := forAll now (fun s d => d.queueItem 9 (d.rd GNS.MEAS_Q) (d.measItem seq fix s)) d
  let p := d.refPoint sol.lat sol.lon sol.height (armHeading f.hdg? sol)
  let d := (d.queueItem 9 (d.rd GNS.PVT_Q) (d.pvtItem f false p f.hdg? sol.hAcc)).gnsVelocity f
  if d.flag GNS.POS_SRC then { d with gns := { d.gns with awaiting := d.gns.awaiting ++ [f] } } else d.internalPose f

/-- GNSS_EPOCH: the next measurement epoch comes, with the signals received and what they solve to (R265, R270). -/
def gnssEpoch (all : List GnssSig) (sol : GnssSol) (d : Dev) : Dev :=
  if !d.powered 9 then d
  else
    if !d.flag GNS.EN then
      let d := (((d.boundary 9 0).wr GNS.TRACKING 0).wr GNS.NSV 0).fixChange 0 false
      { d with gns := { d.gns with tracked := [], seen := none, last := none } }
    else if !d.running then d.boundary 9 0
    else
      let t := d.nextEpoch sol
      ((d.waitUntil (d.now + (t - d.receiverClock sol))).boundary 9 0).epoch all sol t

/-! The external solution (R269). -/

/-- EXT_TMO_MS in ns. -/
def Dev.extTmo (d : Dev) : Nat := clampN 10 500 (d.rd GNS.EXT_TMO_MS) * ms

/-- The external solution of the latest epoch is taken: a second PVT item, and the pose (R269). -/
def Dev.extTake (d : Dev) (f : GnsFix) : Dev :=
  let lat := 100 * d.rdS GNS.EXT_LAT + d.rdS GNS.EXT_LAT_HP
  let lon := 100 * d.rdS GNS.EXT_LON + d.rdS GNS.EXT_LON_HP
  let hdg := if d.flag GNS.EXT_HDG_VALID then some (d.rd GNS.EXT_HEADING) else f.hdg?
  let p := d.refPoint lat lon (d.rdS GNS.EXT_HEIGHT) (armHeading hdg f.sol)
  let d := { d with gns := { d.gns with awaiting := d.gns.awaiting.filter fun g => g.seq ≠ f.seq } }
  (d.queueItem 9 (d.rd GNS.PVT_Q) (d.pvtItem f true p hdg (d.rd GNS.EXT_H_ACC))).gnsPose p.1 p.2.1 hdg f.sol

/-- EXT_GO: the external solution is offered (R269). -/
def extGo (d : Dev) : Dev :=
  if !d.flag GNS.POS_SRC then d
  else match d.gns.awaiting.getLast? with
    | some f =>
      if some f.seq = d.gns.last.map (fun l => l.seq) ∧ f.seq = d.rd GNS.EXT_SEQ ∧ d.mt ≤ f.mt + d.extTmo then d.extTake f
      else d.cause GNS.EVT_EXT_LATE
    | none => d.cause GNS.EVT_EXT_LATE

/-- EXT_SOLUTION_TIMEOUT: EXT_TMO_MS pass after an epoch with no external solution taken (R269). -/
def extTimeout (d : Dev) : Dev :=
  match d.gns.awaiting with
  | f :: rest =>
    let d := { d.waitMt (f.mt + d.extTmo) with gns := { d.gns with awaiting := rest } }
    if d.flag GNS.EXT_FALLBACK then d.internalPose f else d
  | [] => d

/-! PPS (R271 to R273). -/

/-- PPS_QERR_PUBLISH: the error of the coming edge: its GPS second, the error in ps and the MT at which it is driven, 100 ms off at least
(R272). -/
def ppsQerr (second_ : Nat) (qerr : Int) (edgeMt : Nat) (d : Dev) : Dev :=
  if !d.powered 9 ∨ !d.flag GNS.EN ∨ !d.flag GNS.TIME_VALID ∨ edgeMt < d.mt + 100 * ms then d
  else
    let d := (d.wrS GNS.PPS_QERR qerr).wr GNS.PPS_EDGE second_
    let item := leBytes 2 d.gns.seq ++ [4, d.epochFlags] ++ leBytes 4 second_ ++ leBytes 4 (enc 32 qerr) ++ leBytes 4 0 ++ leBytes 8 edgeMt
      ++ leBytes 8 0
    { d with gns := { d.gns with edge := some (second_, qerr, edgeMt) } }.queueItem 9 (d.rd GNS.PVT_Q) item

/-- The PPS pin's edge: high for PPS_WIDTH_MS (R273). -/
def Dev.ppsPin (d : Dev) : Dev :=
  { d with gns := { d.gns with lastPin := some d.mt } }.emit (.pin 0 (clampN 1 500 (d.rd GNS.PPS_WIDTH_MS)) 1)

/-- PPS_EDGE: the published edge comes: the reference of R104, and the pin under PPS_MODE; without TIME_VALID it is suppressed and
reported missed (R271 to R273). -/
def ppsEdge (d : Dev) : Dev :=
  match d.gns.edge with
  | none => d
  | some (s, q, mt) =>
    let d := { d.waitMt mt with gns := { d.gns with edge := none } }
    if !d.flag GNS.TIME_VALID then d.cause GNS.EVT_PPS_MISSED
    else
      let d := { d with gns := { d.gns with gap := false, lastPin := some d.mt } }
      let d := ppsEdgeMeasure 1 ((s * 1000000000 : Nat) + divAway q 1000) d
      if d.rd GNS.PPS_MODE = 0 then d else d.ppsPin

/-- PPS_HOLDOVER_EDGE: under PPS_MODE ALWAYS the pin goes on across a gap, whole seconds of MT after the last edge (R273). -/
def ppsHoldoverEdge (d : Dev) : Dev :=
  match d.gns.lastPin with
  | some t => if d.powered 9 ∧ d.rd GNS.PPS_MODE = 2 ∧ !d.flag GNS.TIME_VALID ∧ d.gns.gap then (d.waitMt (t + second)).ppsPin else d
  | none => d

/-! Antennas (R262). -/

/-- ANTn_STATE. -/
def antState (n : Nat) : Fld := if n = 0 then GNS.ANT0_STATE else GNS.ANT1_STATE

/-- The bias of a socket is set on. -/
def Dev.biasOn (d : Dev) (n : Nat) : Bool :=
  let v := d.rd (if n = 0 then GNS.ANT0_BIAS else GNS.ANT1_BIAS)
  decide (v = 1 ∨ v = 2)

/-- The states follow the bias settings: OFF where off, OK where newly on (R262). -/
def Dev.antRefresh (d : Dev) : Dev :=
  forAll [0, 1] (fun n d =>
    let on := d.biasOn n && d.powered 9
    let st := d.rd (antState n)
    if on ∧ st = 3 then d.wr (antState n) 0
    else if !on ∧ st ≠ 3 then
      let d := { d with gns := { d.gns with shortAt := tdel n d.gns.shortAt } }.wr (antState n) 3
      if st = 0 then d else d.recover Flt.GNSS_ANT n
    else d) d

/-- ANT_SHORT: bias current above the short threshold for 1 ms (R262). -/
def antShort (n : Nat) (d : Dev) : Dev :=
  if !d.powered 9 ∨ 2 ≤ n ∨ !d.biasOn n ∨ d.rd (antState n) = 2 then d
  else
    let d := { d with gns := { d.gns with shortAt := tset n d.now d.gns.shortAt } }.wr (antState n) 2
    ((d.count GNS.ANT_TRIPS).cause GNS.EVT_ANT_FAULT).raise Flt.GNSS_ANT n

/-- ANT_BIAS_RETRY: 2 s after the trip the bias is tried again; `persists` says that it trips again (R262). -/
def antBiasRetry (n : Nat) (persists : Bool) (d : Dev) : Dev :=
  match tget? n d.gns.shortAt with
  | none => d
  | some t =>
    let d := d.waitUntil (t + 2 * second)
    if persists then ({ d with gns := { d.gns with shortAt := tset n d.now d.gns.shortAt } }).count GNS.ANT_TRIPS
    else ({ d with gns := { d.gns with shortAt := tdel n d.gns.shortAt } }.wr (antState n) 0).recover Flt.GNSS_ANT n

/-- ANT_OPEN: bias current below the open threshold for 1 s; the bias stays on (R262). -/
def antOpen (n : Nat) (d : Dev) : Dev :=
  if !d.powered 9 ∨ 2 ≤ n ∨ !d.biasOn n ∨ d.rd (antState n) ≠ 0 then d
  else ((d.wr (antState n) 1).cause GNS.EVT_ANT_FAULT).raise Flt.GNSS_ANT n

/-- ANT_OPEN_CLEAR: the current is back above the open threshold (R262, Table 18.6). -/
def antOpenClear (n : Nat) (d : Dev) : Dev :=
  if 2 ≤ n ∨ d.rd (antState n) ≠ 1 then d else (d.wr (antState n) 0).recover Flt.GNSS_ANT n

/-! The hot-start store (R274, R275). -/

/-- The store is written with what the baseband holds; with no fixed position at all there is nothing to store. -/
def Dev.storeWrite (d : Dev) (eph : List (Nat × Nat)) (almanac : Nat) (osc : Int) : Dev :=
  match d.gns.fixPos with
  | some p => { d with gns := { d.gns with store := some ⟨eph.take 64, almanac, p.1, p.2, osc, d.rtc, true⟩, storedAt := d.now } }
  | none => d

/-- HOT_START_STORE_WRITE: every 10 min with a fix: ephemerides with their collection times, the almanac's time, the oscillator
offset (R274). -/
def hotStartStore (eph : List (Nat × Nat)) (almanac : Nat) (osc : Int) (d : Dev) : Dev :=
  if !d.powered 9 ∨ d.rd GNS.FIX = 0 then d else (d.waitUntil (d.gns.storedAt + 600 * second)).storeWrite eph almanac osc

/-- The start type at PD6 power-up (Table 10.7). -/
def Dev.startType (d : Dev) : Nat :=
  match d.gns.store with
  | none => 3
  | some s =>
    let unc := 10000 + 20 * (d.rtc - s.rtc)
    let fresh : Nat := (s.eph.filter fun e => decide (d.rtc < e.2 + 14400)).length
    if !s.ok ∨ !d.flag SYS.RTC_VALID then 3
    else if 5 ≤ fresh ∧ unc < 1000000 then 1
    else if d.rtc < s.almanac + 90 * 86400 ∧ unc < 60000000 then 2
    else 3

/-- GNSS_START_TYPE: PD6 powers up (R275). -/
def Dev.gnsPowerUp (d : Dev) : Dev :=
  let bad : Bool := match d.gns.store with | some s => !s.ok | none => false
  let st := d.gns.store
  let at_ := d.gns.storedAt
  let d := { d with gns := { (default : GnsH) with store := st, storedAt := at_, upAt := some d.now, fixPos := st.bind fun x => if x.ok then some (x.lat, x.lon) else none } }
  let d := (d.wr GNS.START_TYPE d.startType).antRefresh
  if bad then d.cause GNS.EVT_STORE_FAIL else d

/-! Enable and presets. -/

/-- GNS EN: epochs are counted afresh from 1 on (R270). -/
def gnsEnable (on : Bool) (d : Dev) : Dev :=
  let was := d.flag GNS.EN
  let d := d.wr GNS.EN (bit on)
  if on ∧ !was then { d with gns := { d.gns with seq := 0, awaiting := [], last := none } } else d

/-- Table 10.9: RATE_HZ, ELEV_MASK, CN0_MASK. -/
def gnssRow (v : Nat) : Nat × Nat × Nat := match v with | 0 => (3, 10, 30) | 1 => (4, 10, 30) | 2 => (3, 15, 35) | _ => (0, 15, 35)

/-- GNSS_PRESET_WRITE (R277). -/
def gnssPreset (v : Nat) (d : Dev) : Dev :=
  let v := v % 4
  let r := gnssRow v
  (((((d.wr GNS.GNSS_PRESET v).expand GNS.GNSS_PRESET 0 v GNS.RATE_HZ 0 0 (some r.1)).expand GNS.GNSS_PRESET 0 v GNS.ELEV_MASK 0 0
    (some r.2.1)).expand GNS.GNSS_PRESET 0 v GNS.CN0_MASK 0 0 (some r.2.2)).expand GNS.GNSS_PRESET 0 v GNS.CONST_EN 0 0 (some 7)).expand
    GNS.GNSS_PRESET 0 v GNS.BAND_EN 0 0 (some 3)

end Sys2Proof.Machine
end

