-- ==== Sys2Proof/Machine/Peer.lean ====
section
/-! DEFINITION. Machine/Peer.lean: the peer messages of Table 14.9 that several chapters send (R366, R367, R371). -/

namespace Sys2Proof.Machine

/-- The image hash, 48 bytes in digest order (R71, R473). -/
def Dev.imageHash (d : Dev) : List Nat := (List.range 12).flatMap fun k => leBytes 4 (d.rd CFG.HASH k)

/-- The peer ports that run: Ethernet ports CR13 marks, enabled, with their link up (R366). -/
def Dev.peerPorts (d : Dev) : List Nat :=
  if d.flag ETH.JOIN_EN ∧ d.powered 15 then
    (List.range 6).filter fun p => d.flag ETH.P_PEER_PORT p && (d.rd ETH.EN).testBit p && (d.rd ETH.LINK_UP).testBit p
  else []

/-- The broadcast address of a port's subnet, whatever its number. -/
def subnetBroadcast : Nat := 0xFFFFFFFF

/-- The header every peer message begins with (Table 14.9). -/
def Dev.peerHead (d : Dev) (type : Nat) : List Nat := [16 + type, d.rd ETH.OWN_ADDR] ++ leBytes 2 d.net.sentSeq ++ [0, 0, 0, 0]

/-- Sends one peer message on every peer port and counts it in SEQ (R362, R367). -/
def Dev.peerSend (d : Dev) (type : Nat) (body : List Nat) : Dev :=
  let data := d.peerHead type ++ body
  let d := forAll d.peerPorts (fun p d => d.emit (.eth p 2 subnetBroadcast data)) d
  if d.peerPorts = [] then d else { d with net := { d.net with sentSeq := (d.net.sentSeq + 1) % 65536 } }

/-- A SAFE message (Table 14.9). -/
def Dev.sendSafe (d : Dev) (cause : Nat) : Dev := d.peerSend 2 (padTo 8 [cause])

/-- The SAFE message of a SAFE entry, and the nine repeats to come; a propagated SAFE is passed on once (R371). -/
def Dev.safeMessage (d : Dev) (cause : Nat) : Dev :=
  let d := d.sendSafe cause
  if cause = 2 ∨ d.peerPorts = [] then d else { d with net := { d.net with safeRepeat := some (cause, 9, d.now + ms) } }

/-- SAFE_MESSAGE_REPEAT: the SAFE message is sent again, ten times in all (R371). -/
def safeMessageRepeat (d : Dev) : Dev :=
  match d.net.safeRepeat with
  | none => d
  | some (cause, n, t) =>
    let d := (d.waitUntil t).sendSafe cause
    { d with net := { d.net with safeRepeat := if n ≤ 1 then none else some (cause, n - 1, t + ms) } }

/-- FLAGS of STATUS (Table 14.9). -/
def Dev.statusFlags (d : Dev) : Nat :=
  bit (decide (d.mode = 7)) + 2 * bit (d.flag ETH.IS_LEADER) + 4 * bit (decide (d.rd ETH.JOIN_STATE = 3))
    + 8 * bit (decide (d.rd ETH.JOIN_STATE = 1)) + 16 * bit (d.flag ETH.NT_GNSS) + 32 * bit (d.flag TMB.HOLD_NET)
    + 64 * bit d.net.modeLag

/-- STATUS_SEND: STATUS on every peer port (R366). -/
def statusSend (d : Dev) : Dev :=
  d.peerSend 1 (padTo 88 ([d.mode, d.statusFlags, d.rd ETH.LEADER_ADDR, 0] ++ leBytes 4 (d.rd UPD.FW_VER_RUN)
    ++ leBytes 8 (d.netTime d.mt) ++ d.imageHash))

end Sys2Proof.Machine
end

