-- ==== Sys2Proof/Machine/Recorder.lean ====
section
/-! DEFINITION. Machine/Recorder.lean: forming, storing, reading and clearing records (chapter 16, R396 to R406, R472). -/

namespace Sys2Proof.Machine

/-- REF of a record that names no other (Table 16.1). -/
def noRef : Nat := 0xFFFFFFFF

/-- The 32 bytes of a record under its number (Table 16.1, R397). -/
def recBytes (no : Nat) (r : Rec) : List Nat :=
  let body := leBytes 4 no ++ leBytes 4 r.opS ++ leBytes 3 r.pwr ++ [r.kind] ++ leBytes 2 r.code ++ [r.severity]
    ++ [r.flags] ++ leBytes 4 r.ref ++ padTo 10 r.data
  body ++ leBytes 2 (crc16 body)

/-- Counts one lost record (R399). -/
def Dev.loseRecord (d : Dev) : Dev :=
  ({ d with recd := { d.recd with lostSince := d.recd.lostSince + 1 } }.count REC.LOST).cause REC.EVT 1

/-- Operating seconds by now: REC_OPS and the whole seconds of PD2's power since it last counted on, saturating (R398). -/
def Dev.ops (d : Dev) : Nat := Nat.min (2 ^ 32 - 1) (d.rd REC.REC_OPS + (d.now - d.recd.opsAt) / second)

/-- REC_OPS is brought up to date; while PD2 is off it stands (R398). -/
def Dev.opsShow (d : Dev) : Dev :=
  if d.pdOn 2 then
    { d with recd := { d.recd with opsAt := d.recd.opsAt + (d.now - d.recd.opsAt) / second * second } }.wr REC.REC_OPS d.ops
  else { d with recd := { d.recd with opsAt := d.now } }

/-- Puts a formed record behind the backlog; one that finds 64 waiting, or the single area full, is lost
(R399, R401). While PD2 is off nothing is recorded. -/
def Dev.formRecord (d : Dev) (kind code severity flags ref : Nat) (data : List Nat) : Dev :=
  if !d.pdOn 2 then d
  else if 64 ≤ d.recd.backlog.length ∨ d.flag REC.FULL then d.loseRecord
  else
    let r : Rec := ⟨kind, code, severity, flags, ref, padTo 10 data, d.ops, d.rd SYS.PWR_CYCLES, d.now⟩
    { d with recd := { d.recd with backlog := d.recd.backlog ++ [r] } }.wr REC.BACKLOG (d.recd.backlog.length + 1)

/-- The number of records Tide, or the single area, holds (R403). -/
def Dev.tideCount (d : Dev) : Nat := (d.rd REC.REC_NEXT + 2 ^ 32 - d.rd REC.REC_TIDE_OLDEST) % 2 ^ 32

/-- Keeps the record under the next number and counts the number on (R396). -/
def Dev.keepRecord (d : Dev) (r : Rec) : Dev :=
  let no := d.rd REC.REC_NEXT
  ({ d with recd := { d.recd with stored := tset no (recBytes no r) d.recd.stored } }.wr REC.REC_NEXT (no + 1)).cause REC.EVT 0

/-- Drops the oldest record of Tide (R400). -/
def Dev.dropOldest (d : Dev) : Dev :=
  { d with recd := { d.recd with stored := tdel (d.rd REC.REC_TIDE_OLDEST) d.recd.stored } }.wr REC.REC_TIDE_OLDEST
    (d.rd REC.REC_TIDE_OLDEST + 1)

/-- Stores one record into the area the recorder mode gives (R400, R401). -/
def Dev.storeRecord (d : Dev) (r : Rec) : Dev :=
  if d.rd REC.REC_MODE = 1 then
    if 9216 ≤ d.tideCount then d.loseRecord
    else
      let d := d.keepRecord r
      if 9216 ≤ d.tideCount ∧ !d.recd.fullRaised then
        ({ d with recd := { d.recd with fullRaised := true } }.wr REC.FULL 1 |>.cause REC.EVT 2).raise Flt.REC_FULL
      else d
  else if d.recd.crustOpen then
    let d := d.keepRecord r
    let d := (d.wr REC.REC_CRUST_N (d.rd REC.REC_CRUST_N + 1)).wr REC.REC_TIDE_OLDEST (d.rd REC.REC_NEXT)
    if 1024 ≤ d.rd REC.REC_CRUST_N then { d with recd := { d.recd with crustOpen := false } } else d
  else if 8192 ≤ d.tideCount then d.dropOldest.keepRecord r
  else d.keepRecord r

/-- The first Crust number follows REC_NEXT while Crust holds no record (R403). -/
def Dev.crustFirst (d : Dev) : Dev :=
  if d.rd REC.REC_CRUST_N = 0 then d.wr REC.REC_CRUST_FIRST (d.rd REC.REC_NEXT) else d

/-- One LOST record once the backlog has room again (R399). -/
def Dev.lostRecord (d : Dev) : Dev :=
  if d.recd.lostSince = 0 ∨ d.flag REC.FULL ∨ 64 ≤ d.recd.backlog.length then d
  else
    let d' := d.formRecord 9 0 0xFF 0 noRef (leBytes 4 d.recd.lostSince)
    { d' with recd := { d'.recd with lostSince := 0 } }

/-- The oldest waiting record is stored: its store completed at `t` (R399). -/
def Dev.storeOldest (d : Dev) (t : Nat) : Dev :=
  match d.recd.backlog with
  | [] => d
  | r :: rest =>
    let d := { d with recd := { d.recd with backlog := rest, storedAt := t } }.wr REC.BACKLOG rest.length
    (d.crustFirst.storeRecord r).crustFirst.lostRecord

/-- The stores whose 20 µs are over have completed: 20 µs after the later of the previous store and the forming of the record (R399). -/
def storesDue : Nat → Dev → Dev
  | 0, d => d
  | n + 1, d => match d.recd.backlog with
    | [] => d
    | r :: _ =>
      let t := Nat.max d.recd.storedAt r.formedAt + 20000
      if t ≤ d.now ∧ d.pdOn 2 then storesDue n (d.storeOldest t) else d

/-- Every store due by now. -/
def Dev.storesNow (d : Dev) : Dev := storesDue (d.recd.backlog.length + 1) d

/-- Forms a record: it finds what the stores due by now have left in the backlog (R399). -/
def Dev.record (d : Dev) (kind code severity flags ref : Nat) (data : List Nat) : Dev :=
  d.storesNow.formRecord kind code severity flags ref data

/-- The REC_NO the next formed record will carry, or 0xFFFF_FFFF when it will be lost: numbers follow the backlog's
order (R399; assumption 9). -/
def Dev.nextRef (d : Dev) : Nat :=
  let d := d.storesNow
  if !d.pdOn 2 ∨ 64 ≤ d.recd.backlog.length ∨ d.flag REC.FULL then noRef
  else (d.rd REC.REC_NEXT + d.recd.backlog.length) % 2 ^ 32

/-- A MODE record (R472). -/
def Dev.modeRecord (d : Dev) (was now why : Nat) : Dev := d.record 2 now 0xFF 0 noRef [was, now, why]

/-- RECORD_STORE: the oldest waiting record is stored (R399). -/
def recordStore (d : Dev) : Dev := d.storeOldest d.now

/-- Every waiting record is stored: step 3 of Table 2.9 and a MODULE reset empty the backlog (R399). -/
def storeAll : Nat → Dev → Dev
  | 0, d => d
  | n + 1, d => if d.recd.backlog = [] then d else storeAll n (recordStore d)

/-- OPERATING_SECOND: one more second with PD2 powered is over, saturating (R398). -/
def operatingSecond (d : Dev) : Dev := if d.pdOn 2 then (d.waitUntil (d.recd.opsAt + second)).opsShow else d

/-- The area a held number lies in: 0 Crust, 1 Tide, 2 the single area (R403). -/
def Dev.areaOf (d : Dev) (no : Nat) : Nat :=
  if d.rd REC.REC_MODE = 1 then 2
  else if (no + 2 ^ 32 - d.rd REC.REC_CRUST_FIRST) % 2 ^ 32 < d.rd REC.REC_CRUST_N then 0 else 1

/-- Places the 32 bytes of a record in the window (R403). -/
def Dev.fillWindow (d : Dev) (bs : List Nat) : Dev :=
  forAll (List.range 8) (fun k d => d.wr REC.REC_WIN (leWord k bs) k) d

/-- Latches the record of a number whole; one that is not held reads all zeros with HELD 0 (R403). -/
def Dev.latch (d : Dev) (no : Nat) : Dev :=
  match tget? no d.recd.stored with
  | none => ((d.fillWindow []).wr REC.HELD 0 |>.wr REC.AREA 0).wr REC.BAD_CRC 0
  | some bs => ((d.fillWindow bs).wr REC.HELD 1 |>.wr REC.AREA (d.areaOf no)).wr REC.BAD_CRC
      (bit (crc16 (bs.take 30) ≠ leVal (bs.drop 30)))

/-- REC_CURSOR_WRITE: the record of the number written is latched (R403). -/
def recCursorWrite (no : Nat) (d : Dev) : Dev := (d.wr REC.REC_CURSOR no).latch (no % 2 ^ 32)

/-- REC_WIN7_READ: the read answers WIN7, the cursor advances and the next record is latched (R403). -/
def recWin7Read (d : Dev) : Dev :=
  let next := (d.rd REC.REC_CURSOR + 1) % 2 ^ 32
  (d.wr REC.REC_CURSOR next).latch next

/-- CHALLENGE: a fresh random 16-byte challenge, valid for 60 s and one request (R404). -/
def challenge (d : Dev) : Dev :=
  let n := d.free % 2 ^ 128
  let bs := leBytes 16 n
  let d := forAll (List.range 4) (fun k d => d.wr REC.REC_CHAL (leWord k bs) k) d.freeTaken
  { d with recd := { d.recd with challenge := some (bs, d.now) } }

/-- The checks of a clear request in the order of R405, as CLR_RES codes; 1 is DONE. `inDram` says that the token lies in
DRAM the field cores may write, `keyOk` that the key is admitted, `sigOk` that the signature verifies. -/
def Dev.clearCheck (d : Dev) (action : Nat) (inDram keyOk sigOk : Bool) : Nat :=
  if d.flag REC.CLR_BUSY then 2
  else if d.mode ≠ 4 then 3
  else if (match d.recd.challenge with | none => true | some (_, t) => decide (t + 60 * second < d.now)) then 4
  else if action = 2 ∧ d.rd REC.REC_MODE = 1 then 5
  else if !inDram then 6
  else if !keyOk then 7
  else if !sigOk then 8
  else 1

/-- The CLEAR record is the first record of the cleared area: it goes before the waiting ones. It names the lowest number still held: Crust's
first where Crust is kept, else its own (R405, Table 16.2). -/
def Dev.clearRecord (d : Dev) (action key : Nat) : Dev :=
  let lowest := if d.rd REC.REC_CRUST_N = 0 then d.rd REC.REC_NEXT else d.rd REC.REC_CRUST_FIRST
  let r : Rec := ⟨8, 0, 0xFF, 0, noRef, padTo 10 ([action, key] ++ leBytes 4 lowest),
    d.ops, d.rd SYS.PWR_CYCLES, d.now⟩
  let bump (q : Rec) : Rec := if q.ref ≠ noRef ∧ d.rd REC.REC_NEXT ≤ q.ref then { q with ref := (q.ref + 1) % 2 ^ 32 } else q
  { d with recd := { d.recd with backlog := r :: d.recd.backlog.map bump } }.wr REC.BACKLOG (d.recd.backlog.length + 1)

/-- Tide, or the single area, holds nothing (R405). -/
def Dev.emptyTide (d : Dev) : Dev :=
  let lo := d.rd REC.REC_TIDE_OLDEST
  let n := d.tideCount
  { d with recd := { d.recd with crustOpen := false,
                                 stored := d.recd.stored.filter (fun e => decide (n ≤ (e.1 + 2 ^ 32 - lo) % 2 ^ 32)) } }.wr
    REC.REC_TIDE_OLDEST (d.rd REC.REC_NEXT)

/-- The recorder mode the built CR14 names: 0 two-area, 1 stop-when-full (R400). -/
def Dev.recNamed (d : Dev) : Nat :=
  ((d.itemsOf 14).findSome? fun it => match it with | .recMode m => some m | _ => none).getD 0 % 2

/-- MODE_DIFF: CR14 names another recorder mode than the one in force (R400). -/
def Dev.modeDiff (d : Dev) : Dev := d.wr REC.MODE_DIFF (bit (d.rd REC.REC_MODE ≠ d.recNamed))

/-- Crust and Tide, or the single area, hold nothing; Crust opens afresh and the recorder runs in two-area mode until the next full
image latches its mode (R400, R405). -/
def Dev.emptyAll (d : Dev) : Dev :=
  ((({ d with recd := { d.recd with crustOpen := true, stored := [], latched := false, fullRaised := false, lostSince := 0 } }.wr
    REC.REC_CRUST_N 0).wr REC.REC_CRUST_FIRST (d.rd REC.REC_NEXT)).wr REC.REC_TIDE_OLDEST (d.rd REC.REC_NEXT)).wr REC.FULL 0 |>.wr REC.REC_MODE 0 |>.modeDiff

/-- A clear request, ACTION 2 or 3 (R404, R405). A refusal, BUSY included, uses up the
challenge and changes nothing else. -/
def clearRequest (action key : Nat) (inDram keyOk sigOk : Bool) (d : Dev) : Dev :=
  let res := d.clearCheck action inDram keyOk sigOk
  let d := d.wr REC.CLR_RES res
  let d := { d with recd := { d.recd with challenge := none } }
  if res ≠ 1 then d
  else
    let full := d.flag REC.FULL
    let d := if action = 2 then d.emptyTide else d.emptyAll
    let d := (({ d with recd := { d.recd with clearedAt := d.now } }.wr REC.CLR_BUSY 1).clearRecord action key).cause REC.EVT 3
    if full then d.recover Flt.REC_FULL else d

/-- CLEAR_ERASE_DONE: the cleared slots are erased (R405). -/
def clearEraseDone (d : Dev) : Dev := d.wr REC.CLR_BUSY 0

/-- The cleared slots are erased within 100 ms (R405). -/
def Dev.eraseDue (d : Dev) : Dev := if d.flag REC.CLR_BUSY ∧ d.recd.clearedAt + 100 * ms ≤ d.now then clearEraseDone d else d

/-- USER_RECORD: GO with a code; at most ten in any second, then room in the backlog (R402). -/
def userRecord (code : Nat) (d : Dev) : Dev :=
  let recent := d.recd.userAt.filter (fun t => decide (d.now < t + second))
  if 10 ≤ recent.length then d.wr REC.USER_RES 2
  else if 64 ≤ d.recd.backlog.length then d.wr REC.USER_RES 3
  else
    let data := leBytes 4 (d.rd REC.REC_USER0) ++ leBytes 4 (d.rd REC.REC_USER1) ++ leBytes 2 (d.rd REC.REC_USER2)
    ({ d with recd := { d.recd with userAt := d.now :: recent } }.record 10 code 0xFF 0 noRef data).wr REC.USER_RES 1

end Sys2Proof.Machine
end

