-- ==== Sys2Proof/Machine/Flt.lean ====
section
/-! DEFINITION. Machine/Flt.lean: the fault manager: gates, detection, reaction, SAFE entry, recovery and routing, and how a
command begins and ends (chapter 18, R40, R433 to R447). -/

namespace Sys2Proof.Machine

/-! Gates (R40). -/

/-- The region that builds a channel's outputs: CR1 FC, CR2 LS, CR4 VD, IO and BL (Table 3.3). -/
def chanRegion (c : Chan) : Nat := match c with | .fc _ => 1 | .ls _ => 2 | .vd _ | .io _ | .bl _ => 4

/-- Static regions that a load is building, or has left unbuilt (R79, R80). -/
def Dev.regionsShut (d : Dev) : List Nat :=
  d.cfg.unbuilt ++ (match d.cfg.building with | some b => b.contents.map fun c => c.no | none => [])

/-- The mode whose gates hold: that of a granted transition from its grant (R45). -/
def Dev.gateMode (d : Dev) : Nat := d.sys.target.getD d.mode

/-- The image lets channel `c` open in the mode whose gates hold (R40). -/
def Dev.gatePermitted (d : Dev) (c : Chan) : Bool :=
  let m := d.gateMode
  let bitNo := if m = 4 then 0 else if m = 5 then 1 else 2
  decide (4 ≤ m ∧ m ≤ 6)
  && (d.itemsOf 0).any (fun it => match it with | .gatePerm c' modes => decide (c' = c) && modes.testBit bitNo | _ => false)
  && !(decide (m = 5) && (d.itemsOf 0).any (fun it => match it with | .implChan c' => decide (c' = c) | _ => false))

/-- The channels CR14 names in the reaction list of a fault (R437). -/
def Dev.reactionOf (d : Dev) (code : Nat) : List Chan :=
  (d.itemsOf 14).flatMap fun it => match it with | .reaction k cs => if k = code then cs else [] | _ => []

/-- The severity a fault has: never below its floor (R434). -/
def Dev.severity (d : Dev) (code : Nat) : Nat := Nat.max (d.rd FLT.F_SEV (faultIdx code)) (d.rd FLT.F_FLOOR (faultIdx code))

/-- The codes of the active faults, each once (R438). -/
def Dev.activeCodes (d : Dev) : List Nat := (d.flt.active.map fun p => p.1).eraseDups

/-- A THM-CRITICAL reaction closes channel `c`: the sensors of Table 16.3, or the whole board (R413). -/
def thmCovers (c : Chan) (sensor : Nat) : Bool :=
  decide (20 ≤ sensor) || (match c with
    | .ls n => decide (sensor = 12 + n / 16)
    | .vd n => decide (sensor = 16 + n / 8)
    | .bl _ => decide (sensor = 19)
    | _ => false)

/-- Channels closed whatever the mode: by reactions of active faults, by the open window, by heat (R40, R413, R437, R439). -/
def Dev.gateHeld (d : Dev) (c : Chan) : Bool :=
  d.flt.held.contains c
  || d.activeCodes.any (fun k => decide (2 ≤ d.severity k) && (d.reactionOf k).contains c)
  || d.thm.shut.any (thmCovers c)

/-- The island opens the gate of `c`: permitted, not held, no build under way, no crank or shutdown, not EXCLUDED (R40, R52, R61, R79, R370). -/
def Dev.gateWanted (d : Dev) (c : Chan) : Bool :=
  !d.sys.gatesShut && decide (d.rd ETH.JOIN_STATE ≠ 3) && !d.regionsShut.contains (chanRegion c) && d.gatePermitted c && !d.gateHeld c

/-- Every gate is brought to what R40 gives. -/
def Dev.refreshGates (d : Dev) : Dev :=
  forAll allChans (fun c d => let w := d.gateWanted c; if d.gateOpen c = w then d else d.setGate c w) d

/-! Event causes (R433, R436). -/

/-- The block that stands behind EVn (Table 18.1): EV0 is FLT, EV1 to EV18 the blocks 0 to 17 in order of Table 1.10, and so on. -/
def evBlock (n : Nat) : Option Nat :=
  match n with
  | 0 => some 19 | 1 => some 0 | 4 => some 3 | 5 => some 4 | 6 => some 5 | 7 => some 6 | 8 => some 7 | 9 => some 8 | 10 => some 9
  | 11 => some 10 | 12 => some 11 | 13 => some 12 | 14 => some 13 | 15 => some 14 | 16 => some 15 | 17 => some 16 | 18 => some 17
  | 19 => some 18 | 20 => some 20 | _ => none

/-- The cause register behind EVn, as it reads (R433). -/
def Dev.evtOf (d : Dev) (n : Nat) : Nat :=
  if 32 ≤ n then (if (d.rd FLT.SW_PEND).testBit (n - 32) then 1 else 0)
  else match evBlock n with
    | none => 0
    | some b =>
      let a := 0x40000000 + 0x10000 * b + (if b = 0 then 0x10 else 8)
      let fs := (blockFields b).filter fun f => decide (f.base = a)
      fs.foldl (fun s f => s + d.rd f * 2 ^ f.lo) 0

/-- The summaries pending now, one bit per EVn (R433). -/
def Dev.pendingNow (d : Dev) : Nat :=
  (((List.range 21) ++ (List.range 32).map (fun k => k + 32)).filter
    fun n => decide (d.evtOf n ≠ 0) && !d.flag FLT.RT_MASK n).foldl (fun s n => s + 2 ^ n) 0

/-- The interrupt of field core `c` (R436). -/
def Dev.irq (d : Dev) (c : Nat) : Bool := (maskBits 64 d.flt.pending).any fun n => (d.rd FLT.RT_CORES n).testBit c

/-- The routing item of EVn, written only into a queue CR5 builds with FLT as its producer, and none while EVn is masked (R436). -/
def Dev.routeItem (d : Dev) (n sev code : Nat) : Dev :=
  if d.flag FLT.RT_QUEUE_EN n ∧ !d.flag FLT.RT_MASK n then
    d.queueItem 19 (d.rd FLT.RT_QUEUE n) ([n, sev] ++ leBytes 2 code ++ [0, 0, 0, 0] ++ leBytes 8 d.mt)
  else d

/-- A summary has risen from not pending to pending: its item, and its SAFE request (R436). -/
def Dev.evRise (d : Dev) (n : Nat) : Dev :=
  let d := d.routeItem n 0xFF 0xFFFF
  if d.flag FLT.RT_SAFE_REQ n then d.note (.safe 0x82) else d

/-- The summaries are looked at again (R436). -/
def Dev.route (d : Dev) : Dev :=
  let now := d.pendingNow
  let rises := (maskBits 64 now).filter fun n => !d.flt.pending.testBit n
  let d := ({ d with flt := { d.flt with pending := now } }.wr FLT.EV_PEND_LO now).wr FLT.EV_PEND_HI (now / 2 ^ 32)
  forAll rises (fun n d => d.evRise n) d

/-! SAFE entry (R442, R443). -/

/-- SAFE can be entered now: from SERVICE, ROAD or FIELD, not while a crank is ridden through (Table 2.2, R442). -/
def Dev.safeNow (d : Dev) : Bool := decide (4 ≤ d.mode ∧ d.mode ≤ 6) && !d.flag SYS.RIDE_THROUGH

/-- SAFE_CAUSE for byte 2 of the MODE record (R447, Table 16.5). -/
def safeCause (why : Nat) : Nat := if why = 0x81 then 0 else if why = 0x83 then 2 else 1

/-- A transition in progress is pre-empted (R44); the delay of a WAKE that fell during it runs from the fall (R62). -/
def Dev.preempt (d : Dev) : Dev :=
  if d.flag SYS.TRANS_BUSY then
    ({ d with sys := { d.sys with target := none, fellBusy := false } }.wr SYS.REQ_RESULT 7).wr SYS.TRANS_BUSY 0
  else d

/-- SAFE entry, Table 18.3: gates, MODE and its record, the SAFE message, MASTER, the floods and the open groups. -/
def Dev.safeEntry (d : Dev) (why code : Nat) : Dev :=
  let d := d.preempt
  let was := d.mode
  let d := ((d.wr SYS.MODE 7).wr SYS.PREV_MODE was).refreshGates
  let d := (d.wr FLT.SAFE_CAUSE (safeCause why)).wr FLT.SAFE_CODE (if why = 0x81 then code else 0)
  let d := ({ d with flt := { d.flt with safeAt := d.now } }.count FLT.SAFE_COUNT).cause FLT.EVT 3
  let d := (d.modeRecord was 7 why).safeMessage (safeCause why)
  let d := if d.powered 4 then (d.wr LAH.MASTER 0).floodTrigger 9 allImpls [] else d
  d.sluSafe

/-- SAFE on a request or on a peer's message; in BOOT, or while a crank is ridden through, it waits (R43, R442). -/
def Dev.safeRequest (d : Dev) (why : Nat) : Dev :=
  if d.safeNow then d.safeEntry why 0
  else if d.mode = 2 ∨ d.flag SYS.RIDE_THROUGH then
    { d with flt := { d.flt with safeWaits := some (d.flt.safeWaits.getD why) } }
  else d

/-! Detection and recovery (R437 to R442). -/

/-- Faults active only in the cycle of their detection (R438): those whose recovery reads "—". -/
def instantFault (code : Nat) : Bool :=
  [Flt.FLT_ACCESS, Flt.PREG_WORN, Flt.FUS_FRAME_LOST, Flt.VDR_TTP_HIGH, Flt.VDR_CLOSE_MISSING, Flt.FI_QUAD_ERROR].contains code

/-- The summary registers of the fault manager (R447). -/
def Dev.fltSummary (d : Dev) : Dev :=
  let cs := d.activeCodes
  ((d.wr FLT.MAX_SEV ((cs.map d.severity).foldl Nat.max 0)).wr FLT.ACTIVE_N (satN 8 cs.length)).wr FLT.IN_WINDOW (bit d.flt.window.isSome)

/-- The reaction window ends: waiting writes apply, and the gates it held are free (R439, R441, R447). -/
def Dev.windowEnd (d : Dev) : Dev :=
  let d := { d with flt := { d.flt with window := none, held := [], reacted := [] } }
  ((d.boundary 19 0).fltSummary).note .gates

/-- A window whose 50 µs have passed is over. -/
def Dev.windowDue (d : Dev) : Dev :=
  match d.flt.window with
  | some (e, _) => if e ≤ d.now then d.windowEnd else d
  | none => d

/-- A record of this detection is to be stored (R437, R440). -/
def Dev.storesFault (d : Dev) (code sev : Nat) : Bool :=
  decide (1 ≤ sev) && (match instantFault code, tget? code d.flt.lastRec with
    | true, some t => decide (t + second ≤ d.now)
    | _, _ => true)

/-- The FAULT record of a detection (Table 16.2, R441). -/
def Dev.faultRecord (d : Dev) (code sev : Nat) : Dev :=
  let (nested, ref) : Nat × Nat := match d.flt.window with | some (_, r) => (1, r) | none => (0, noRef)
  let n := code / 256
  { d with flt := { d.flt with lastRec := tset code d.now d.flt.lastRec } }.record 1 code sev nested ref (n :: leBytes 8 (d.evtOf n))

/-- The reactions of severity 2 and 3 (Table 18.2). -/
def Dev.reactTo (d : Dev) (code sev : Nat) : Dev :=
  let d := if instantFault code ∧ 2 ≤ sev then
      { d with flt := { d.flt with held := d.flt.held ++ d.reactionOf code } }
    else d
  let d := if 2 ≤ sev then d.refreshGates else d
  if sev = 3 ∧ d.safeNow then d.safeEntry 0x81 code else d

/-- A detection of a fault that is not active: record, window, reaction (R437, R440, R441). -/
def Dev.detectNew (d : Dev) (code inst sev : Nat) : Dev :=
  let stores := d.storesFault code sev
  let ref := if stores then d.nextRef else noRef
  let d := if stores then d.faultRecord code sev else d
  let d := match d.flt.window with
    | some _ => (d.count FLT.NESTED_COUNT).cause FLT.EVT 2
    | none => { d with flt := { d.flt with window := some (d.now + 50000, ref) } }
  let d := { d with flt := { d.flt with reacted := code :: d.flt.reacted } }
  let d := if instantFault code then d
           else { d with flt := { d.flt with active := d.flt.active ++ [(code, inst)] } }.wr FLT.F_ACTIVE 1 (faultIdx code)
  d.fltSummary.reactTo code sev

/-- FAULT_DETECTION: counting, the last-fault registers, the routing item, and the reaction where the fault was not active
(R436, R437, R440). -/
def Dev.detect (d : Dev) (code inst : Nat) : Dev :=
  if !d.pdOn 2 then d
  else
    let d := d.windowDue
    let sev := d.severity code
    let was := d.activeCodes.contains code
    let nested := d.flt.window.isSome && !was
    let d := (d.count FLT.F_COUNT (faultIdx code)).cause FLT.EVT 0
    let d := if code = Flt.FLT_ACCESS then d.cause FLT.EVT 1 else d
    let d := ((d.wr FLT.LAST_CODE code).wr FLT.LAST_SEV sev).wr FLT.LAST_NESTED (bit nested)
    let d := d.routeItem (code / 256) sev code
    if was then
      if d.flt.active.contains (code, inst) then d
      else { d with flt := { d.flt with active := d.flt.active ++ [(code, inst)] } }
    else d.detectNew code inst sev

/-- FAULT_RECOVERY: an instance of a fault ends; the fault stops being active with its last one. Gates its reaction closed in
the open window stay closed until the window ends (R438, R439). -/
def Dev.recovered (d : Dev) (code inst : Nat) : Dev :=
  if !d.flt.active.contains (code, inst) then d
  else
    let d := { d with flt := { d.flt with active := d.flt.active.filter fun p => decide (p ≠ (code, inst)) } }
    if d.activeCodes.contains code then d
    else
      let hold := d.flt.window.isSome && d.flt.reacted.contains code && decide (2 ≤ d.severity code)
      let d := if hold then { d with flt := { d.flt with held := d.flt.held ++ d.reactionOf code } } else d
      ((d.wr FLT.F_ACTIVE 0 (faultIdx code)).fltSummary).note .gates

/-- Every instance of a fault ends. -/
def Dev.recoverAll (d : Dev) (code : Nat) : Dev :=
  forAll (d.flt.active.filter fun p => decide (p.1 = code)) (fun p d => d.recovered p.1 p.2) d

/-! How a command begins and ends. -/

/-- The order in which happenings of one 4 ns cycle are taken: faults by ascending code, then SAFE requests, gates and
routing (R441). -/
def Raised.rank (r : Raised) : Nat :=
  match r with
  | .fault c _ => c
  | .recover c _ => c
  | .safe _ => 0x10000
  | .gates => 0x10001
  | .route => 0x10002

/-- Puts a happening behind those of its rank. -/
def rankInsert (r : Raised) : List Raised → List Raised
  | [] => [r]
  | x :: t => if r.rank < x.rank then r :: x :: t else x :: rankInsert r t

/-- The happenings in the order of `Raised.rank`; gates and routing are looked at once. -/
def rankSort (l : List Raised) : List Raised :=
  let s := l.foldl (fun s r => rankInsert r s) []
  (s.filter fun r => decide (r.rank < 0x10000)) ++ (s.filter fun r => decide (0x10000 ≤ r.rank)).eraseDups

/-- One happening is taken up. -/
def Dev.takeUp (d : Dev) (r : Raised) : Dev :=
  match r with
  | .fault c i => d.detect c i
  | .recover c i => d.recovered c i
  | .route => d.route
  | .gates => d.refreshGates
  | .safe why => d.safeRequest why

/-- The fault manager takes up what a command has left, and what that leads to, round after round. -/
def Dev.settleRounds : Nat → Dev → Dev
  | 0, d => { d with raised := [] }
  | n + 1, d =>
    if d.raised = [] then d
    else Dev.settleRounds n (forAll (rankSort d.raised) (fun r d => d.takeUp r) { d with raised := [] })

/-- The end of every command. -/
def Dev.settle (d : Dev) : Dev := Dev.settleRounds 32 d

/-- Recoveries that time has brought (Table 18.6). -/
def Dev.dueRecoveries (d : Dev) : Dev :=
  let due := d.flt.due.filter fun p => decide (p.1 ≤ d.now)
  forAll due (fun p d => d.recover p.2.1 p.2.2) { d with flt := { d.flt with due := d.flt.due.filter fun p => decide (d.now < p.1) } }

/-! The commands of chapter 18. -/

/-- REACTION_WINDOW_END (R441). -/
def reactionWindowEnd (d : Dev) : Dev :=
  match d.flt.window with
  | some (e, _) => (d.waitUntil e).windowEnd
  | none => d

/-- SW_SET: integrator event bits (R435). -/
def swSet (mask : Nat) (d : Dev) : Dev := (d.wr FLT.SW_PEND (Nat.lor (d.rd FLT.SW_PEND) mask)).note .route

/-- The faults whose recovery is the SAFE acknowledgement (R438). -/
def ackFaults : List Nat := [Flt.MOVE_IN_SERVICE, Flt.CTL_OVERRUN, Flt.CTL_FE_SAFE, Flt.NET_SAFE_PROPAGATED]

/-- SAFE_ACK (R445). -/
def safeAck (v : Nat) (d : Dev) : Dev :=
  if v ≠ 0xC3A5 ∨ d.mode < 4 ∨ 7 < d.mode then d
  else
    let ends := ackFaults.filter fun c => decide (d.mode = 7 ∨ d.severity c < 3)
    forAll ends (fun c d => d.recoverAll c) d

/-- Table 18.5: the severity preset `v` gives to a fault. -/
def sevPresetRow (v i : Nat) : Option Nat :=
  let s := (faultRow i).sev
  match v with | 0 => some s | 1 => some (if s = 1 ∨ s = 2 then s + 1 else s) | _ => none

/-- The island expands SEV_PRESET: every fault that is not fixed takes the severity of its row (R446). -/
def sevExpand (v : Nat) (d : Dev) : Dev :=
  let v := v % 4
  if 2 ≤ v ∧ !d.definesPreset FLT.SEV_PRESET 0 v then d
  else
    let cells := (List.range 336).filter fun i => decide ((faultRow i).built = 1 ∧ (faultRow i).fixed = 0)
    forAll cells (fun i d => d.expand FLT.SEV_PRESET 0 v FLT.F_SEV i 0 (sevPresetRow v i)) (d.wr FLT.SEV_PRESET v)

/-- SEV_PRESET_WRITE: accepted only in SERVICE (R446). -/
def sevPreset (v : Nat) (d : Dev) : Dev := if d.mode ≠ 4 then d else sevExpand v d

/-- The DRAM word that turned out uncorrectable: the command does not name it, so it is a free value (assumption 3). -/
def Dev.badWord (d : Dev) : Nat := 0x80000000 + d.free % 2 ^ 33

/-- DRAM_UNCORRECTABLE_WORD (R29, R434). -/
def dramUncorrectable (d : Dev) : Dev := (d.freeTaken.fusPoison d.badWord).raise Flt.DRAM_UNCORRECTABLE

end Sys2Proof.Machine
end

