-- ==== Sys2Proof/Machine/Presets.lean ====
section
/-! DEFINITION. Machine/Presets.lean: the shutdown, CAN and thermal presets, and the expansion a load gives to the selectors its
image names (R64, R90, R91, R350, R414). -/

namespace Sys2Proof.Machine

/-- Table 2.10: WAKE_OFF_DELAY, AFTERRUN_MAX, DORMANT_EN, DORMANT_DAYS. -/
def shutdownRow (v : Nat) : Option (List Nat) :=
  match v with | 0 => some [10, 5, 0, 30] | 1 => some [50, 10, 1, 30] | 2 => some [255, 120, 1, 7] | _ => none

/-- The fields SHUTDOWN_PRESET covers. -/
def shutdownFields : List Fld := [SYS.WAKE_OFF_DELAY, SYS.AFTERRUN_MAX, SYS.DORMANT_EN, SYS.DORMANT_DAYS]

/-- SHUTDOWN_PRESET_WRITE: 3 is ignored unless the image defines it (R64, R90). -/
def shutdownPreset (v : Nat) (d : Dev) : Dev :=
  let v := v % 4
  let row : Option (List (Option Nat)) := (shutdownRow v).map fun r => r.map some
  if row.isNone ∧ !d.definesPreset SYS.SHUTDOWN_PRESET 0 v then d
  else forAll (shutdownFields.zip (row.getD (shutdownFields.map fun _ => none)))
    (fun p d => d.expand SYS.SHUTDOWN_PRESET 0 v p.1 0 0 p.2) (d.wr SYS.SHUTDOWN_PRESET v)

/-- Table 14.2, as the fields hold it: each of NBT and DBT minus one, then TDC_EN and TDCO. -/
def canRow (v : Nat) : List Nat :=
  match v with
  | 0 => [3, 62, 15, 7, 0, 28, 9, 9, 0, 0]
  | 1 => [1, 62, 15, 15, 0, 28, 9, 9, 1, 30]
  | 2 => [0, 62, 15, 15, 0, 13, 4, 4, 1, 15]
  | _ => [0, 62, 15, 15, 0, 6, 1, 1, 1, 8]

/-- The fields CAN_PRESET covers. -/
def canFields : List Fld :=
  [CAN.P_NBRP, CAN.P_NTSEG1, CAN.P_NTSEG2, CAN.P_NSJW, CAN.P_DBRP, CAN.P_DTSEG1, CAN.P_DTSEG2, CAN.P_DSJW, CAN.P_TDC_EN, CAN.P_TDCO]

/-- CAN_PRESET expands into the bit timing of port `p` (R350). -/
def canExpand (p v : Nat) (d : Dev) : Dev :=
  let v := v % 4
  forAll (canFields.zip (canRow v)) (fun c d => d.expand CAN.P_CAN_PRESET p v c.1 p 0 (some c.2)) (d.wr CAN.P_CAN_PRESET v p)

/-- CAN_PRESET_WRITE: Locked while the port's EN bit is 1 (R350, R375, R87). -/
def canPreset (p v : Nat) (d : Dev) : Dev :=
  if (d.rd CAN.EN).testBit p then d.wr CAN.LOCKED_WRITE 1 else canExpand p v d

/-- Table 16.4: FC_DIV2_C, FC_DIV4_C, SKIP_START_C, SKIP_STEP, ISP_SKIP_MAX and the four CRIT limits. -/
def thmRow (v : Nat) : Option (List Nat) :=
  match v with
  | 0 => some [95, 100, 90, 20, 1, 110, 110, 115, 95]
  | 1 => some [95, 100, 90, 20, 0, 110, 110, 115, 95]
  | 2 => some [90, 95, 85, 15, 1, 105, 105, 110, 90]
  | _ => none

/-- The limits THM_PRESET covers. -/
def thmFields : List Fld :=
  [THM.FC_DIV2_C, THM.FC_DIV4_C, THM.SKIP_START_C, THM.SKIP_STEP, THM.ISP_SKIP_MAX, THM.CRIT_FC, THM.CRIT_NPU, THM.CRIT_PS, THM.CRIT_BOARD]

/-- THM_PRESET_WRITE: the island expands it; 3 is ignored unless the image defines it (R414, R90). -/
def thmPreset (v : Nat) (d : Dev) : Dev :=
  let v := v % 4
  let row : Option (List (Option Nat)) := (thmRow v).map fun r => r.map some
  if row.isNone ∧ !d.definesPreset THM.THM_PRESET 0 v then d
  else forAll (thmFields.zip (row.getD (thmFields.map fun _ => none)))
    (fun p d => d.expand THM.THM_PRESET 0 v p.1 0 0 p.2) (d.wr THM.THM_PRESET v)

/-- A key is an element of a field. -/
def Fld.hasKey (f : Fld) (k : Nat) : Option Nat :=
  if f.lo = k % 32 then (f.find (k / 32)).map fun p => p.1 else none

/-- A block-wide selector's expansion where the key is its own. -/
def presetAt (f : Fld) (k v : Nat) (g : Nat → Nat → Dev → Dev) : Option (Dev → Dev) := (f.hasKey k).map fun i => g i v

/-- Every preset selector of the spec with its expansion (R90). -/
def presetTable (k v : Nat) : List (Option (Dev → Dev)) :=
  [presetAt SYS.SHUTDOWN_PRESET k v fun _ v => shutdownPreset v, presetAt TMB.MD_PRESET k v fun _ v => mdPreset v,
   presetAt LAH.OVERLAP_PRESET k v fun _ v => overlapPreset v, presetAt SLU.CARSIL_PRESET k v fun _ v => carsilPreset v,
   presetAt CTL.S_SUP_PRESET k v supPreset, presetAt FUS.FUSE_PRESET k v fun _ v => fusePreset v,
   presetAt ISP.C_DPC_PRESET k v dpcPreset, presetAt ISP.C_TONE_PRESET k v tonePreset,
   presetAt GNS.GNSS_PRESET k v fun _ v => gnssPreset v, presetAt LSW.CH_LOAD_PRESET k v loadPreset,
   presetAt VDR.CH_VALVE_PRESET k v valvePreset, presetAt BLW.CH_BLW_PRESET k v blwPreset, presetAt CAN.P_CAN_PRESET k v canExpand,
   presetAt QUE.Q_WM_PRESET k v wmPreset, presetAt THM.THM_PRESET k v fun _ v => thmPreset v,
   presetAt FLT.SEV_PRESET k v fun _ v => sevExpand v]

/-- The expansion of the selector a key names, where it names one. -/
def presetOfKey (k v : Nat) : Option (Dev → Dev) := (presetTable k v).findSome? id

end Sys2Proof.Machine
end

