-- ==== Sys2Proof/Machine/Limits.lean ====
section
/-! DEFINITION. Machine/Limits.lean: what a register's fields are held to once they are written, by the bus, by a preset or by a load: a value
past what the image built sets CLAMPED (R89 and the chapters' register maps). -/

namespace Sys2Proof.Machine

/-- LOCKED_WRITE of block `b`: bit 31 at offset 0x0004 (R87). -/
def lockedFld (b : Nat) : Fld := ⟨0x40000004 + b * 0x10000, 1, 0, 1, 0, 31, 1, .w1c, .both, fun _ => 0⟩

/-- CLAMPED of block `b`: bit 30 of the same register (R89). -/
def clampedFld (b : Nat) : Fld := ⟨0x40000004 + b * 0x10000, 1, 0, 1, 0, 30, 1, .w1c, .both, fun _ => 0⟩

/-- A write is ignored and shown (R87, R471). -/
def Dev.lockedWrite (d : Dev) (b : Nat) : Dev := d.wr (lockedFld b) 1

/-- A value was clamped (R89). -/
def Dev.clamped (d : Dev) (b : Nat) : Dev := d.wr (clampedFld b) 1

/-- The camera or its port's tap point above TAP_MAX: it is clamped (R256). -/
def Dev.tapClamp (d : Dev) (c : Nat) : Dev :=
  let t := d.lastWritten ISP.C_TAP_POINT c
  if 1 ≤ t ∧ t ≤ 4 ∧ d.rd ISP.C_TAP_MAX c < t then d.clamped 8 else d

/-- A condition on the values last written that sets CLAMPED. -/
def Dev.clampIf (d : Dev) (b : Nat) (c : Bool) : Dev := if c then d.clamped b else d

/-- Limits of the loop engine, the fusion engine and the image pipeline. -/
def Dev.limitsA (d : Dev) (f : Fld) (i j : Nat) : Dev :=
  if f.is CTL.S_OUT_MAX then d.clampIf 6 (decide (sgn 16 (d.lastWritten CTL.S_OUT_MAX i) < sgn 16 (d.lastWritten CTL.S_OUT_MIN i)))
  else if f.is CTL.G_BOUND then
    d.clampIf 6 (decide (2 ≤ j) && (List.range j).any fun r => decide (1 ≤ r ∧ sgn 16 (d.lastWritten CTL.G_BOUND i j) < sgn 16 (d.lastWritten CTL.G_BOUND i r)))
  else if f.is FUS.EGO_ROW0 then d.egoRow0Clamp (d.lastWritten FUS.EGO_ROW0)
  else if f.is ISP.C_TAP_POINT then d.tapClamp i
  else if f.is ISP.C_T_EVEN then d.clampIf 8 (decide (65280 < d.lastWritten ISP.C_T_EVEN i j))
  else if f.is ISP.C_T_ODD then d.clampIf 8 (decide (65280 < d.lastWritten ISP.C_T_ODD i j))
  else d

/-- Limits of the baseband, the valve drivers, the blowers and the queues. -/
def Dev.limitsB (d : Dev) (f : Fld) (i : Nat) : Dev :=
  if f.is GNS.CONST_EN then d.clampIf 9 (decide (d.lastWritten GNS.CONST_EN = 0))
  else if f.is GNS.BAND_EN then d.clampIf 9 (decide (d.lastWritten GNS.BAND_EN = 0))
  else if f.is VDR.CH_CLOSE_WIN_HI_US then
    d.clampIf 11 (decide (d.lastWritten VDR.CH_CLOSE_WIN_HI_US i < Nat.max 8 (d.lastWritten VDR.CH_CLOSE_WIN_LO_US i)))
  else if f.is BLW.CH_TEMP_HI then
    d.clampIf 13 (decide (sgn 16 (d.lastWritten BLW.CH_TEMP_HI i) ≤ sgn 16 (d.lastWritten BLW.CH_TEMP_LO i)))
  else if f.is QUE.Q_HIGH_WM then (d.clampIf 16 (decide (d.capacity i < d.lastWritten QUE.Q_HIGH_WM i))).queueLevel i
  else if f.is QUE.Q_LOW_WM then
    (d.clampIf 16 (decide (d.lastWritten QUE.Q_LOW_WM i ≠ 0 ∧ d.highWm i ≤ d.lastWritten QUE.Q_LOW_WM i))).queueLevel i
  else if f.is FLT.F_SEV then d.clampIf 19 (decide (d.lastWritten FLT.F_SEV i < d.rd FLT.F_FLOOR i))
  else if f.is LAH.ON_UNCOV_PCT ∨ f.is LAH.OFF_COV_PCT then d.coverSum
  else if f.is VDR.BOOST_SET then
    let d := d.clampIf 11 (decide (96 < d.lastWritten VDR.BOOST_SET))
    d.boostV (d.rd VDR.BOOST_V)
  else d

/-- A field of a profile slot (chapter 12). -/
def Fld.ofSlot (f : Fld) : Bool := decide (0x400B2000 ≤ f.base ∧ f.base < 0x400B3000)

/-- The limits of the field a key names. -/
def Dev.limitsOf (d : Dev) (k : Nat) : Dev :=
  match fieldOfKey k with
  | some (f, i, j) =>
    let d := (d.limitsA f i j).limitsB f i
    if f.ofSlot then d.clampIf 11 (d.slotItgtHigh i) else d
  | none => d

/-- The cells that CR15 gives selector value `v`: the fields they set. -/
def Dev.cellKeys (d : Dev) (sel : Fld) (si v : Nat) : List Nat :=
  (d.itemsOf 15).filterMap fun it => match it with
    | .presetCell s v' k _ => if s = sel.key si 0 ∧ v' = v then some k else none
    | _ => none

/-- What a load gives to fields whose write may be ignored: STALE_US of a queue that is not privileged, a fixed severity, a route to a queue not built with FLT as
its producer, which keeps the value it had in `was` (R393, R434, R436). -/
def Dev.loadIgnored (d was : Dev) (k : Nat) : Dev :=
  match fieldOfKey k with
  | some (f, i, _) =>
    if f.is QUE.Q_STALE_US ∧ !d.flag QUE.Q_PRIV i then (d.wr QUE.Q_STALE_US 0 i).clamped 16
    else if f.is FLT.F_SEV ∧ (faultRow i).fixed = 1 then d.wr FLT.F_SEV (faultRow i).sev i
    else if f.is FLT.RT_QUEUE ∧ !d.builtWith (d.rd FLT.RT_QUEUE i) 19 then (d.wr FLT.RT_QUEUE (was.rd FLT.RT_QUEUE i) i).clamped 19
    else d
  | none => d

/-- The fields of cells that CR15 gives any selector, of those `own` picks. -/
def Dev.allCells (d : Dev) (own : Nat → Bool) : List Nat :=
  (d.itemsOf 15).filterMap fun it => match it with | .presetCell _ _ k _ => if own k then some k else none | _ => none

/-- What a load gave is held to the limits of its fields. -/
def Dev.loadHeld (d was : Dev) (keys : List Nat) : Dev := forAll keys (fun k d => (d.loadIgnored was k).limitsOf k) d

/-- A preset's expansion, held to the limits of the fields whose cells the image replaced (R89, R90). -/
def Dev.presetHeld (d : Dev) (sel : Fld) (si v : Nat) (f : Dev → Dev) : Dev := forAll (d.cellKeys sel si v) (fun k d => d.limitsOf k) (f d)

end Sys2Proof.Machine
end

