-- ==== Sys2Proof/Machine/Image.lean ====
section
/-! DEFINITION. Machine/Image.lean: what an image is checked for before its structure is looked at: header, key, signature, table,
sections and PARAM-BLOCK entries (R65 to R76, R470). -/

namespace Sys2Proof.Machine

/-- LOAD_RESULT codes (R96). -/
def lrOk : Nat := 1
def lrBusy : Nat := 2
def lrFormat : Nat := 3
def lrCrc : Nat := 4
def lrSignature : Nat := 5
def lrKey : Nat := 6
def lrBase : Nat := 7
def lrMode : Nat := 8
def lrResource : Nat := 9
def lrAbandoned : Nat := 10
def lrPersist : Nat := 11
def lrStaticOnly : Nat := 12

/-- The live regions (Table 3.3). -/
def liveRegions : List Nat := [3, 7, 8, 10, 12]

/-- A region is live (Table 3.3). -/
def regionLive (r : Nat) : Bool := liveRegions.contains r

/-! Reading an image (R65 to R70). -/

/-- The sections of a region body that stands at offset `o` of the image; `reads` says what their payloads say (R69). -/
def sectsOf : Nat → Nat → List Nat → List SectRead → List Sect
  | 0, _, _, _ => []
  | n + 1, o, bs, reads =>
    if bs = [] then []
    else
      let len := bytesAt bs 4 4
      ⟨bytesAt bs 0 2, bytesAt bs 2 2, len, bytesAt bs 8 4, bytesAt bs 12 4, (bs.drop 16).take len, o, reads.headD default⟩
        :: sectsOf n (o + 16 + up16 len) (bs.drop (16 + up16 len)) reads.tail

/-- Region `no` of an image by its entry in the region table (R68). -/
def regionOf (bs : List Nat) (no : Nat) (reads : List SectRead) : Region :=
  let e := 0x100 + 16 * no
  let raw := (bs.drop (bytesAt bs e 4)).take (bytesAt bs (e + 4) 4)
  ⟨no, bytesAt bs e 4, bytesAt bs (e + 4) 4, bytesAt bs (e + 8) 4, bytesAt bs (e + 12) 2, bytesAt bs (e + 14) 2, raw,
   sectsOf raw.length (bytesAt bs e 4) raw reads⟩

/-- The image a byte string spells (Table 3.1, R68, R70). -/
def Image.ofBytes (bs : List Nat) (x : Reading) : Image :=
  let mask := bytesAt bs 0x18 2
  let block := bs.drop (bs.length - 208)
  { bytes := bs, magic := bytesAt bs 0 4, format := bytesAt bs 4 2, hdrLen := bytesAt bs 6 2, kind := bytesAt bs 8 1, cls := bytesAt bs 9 1,
    startMode := bytesAt bs 0xA 1, keyIndex := bytesAt bs 0xB 1, totalLen := bytesAt bs 0xC 4, imageId := bytesAt bs 0x10 4,
    imageVer := bytesAt bs 0x14 4, regionMask := mask, baseHash := bytesAt bs 0x20 48, pleviaVer := bytesAt bs 0x50 4,
    hdrCrc := bytesAt bs 0xFC 4,
    regions := (maskBits 16 mask).zipWith (fun no reads => regionOf bs no reads) (x.sects ++ List.replicate 16 []),
    pubKey := block.take 96, sig := (block.drop 96).take 96, k := x.k }

/-- The image that stands at CFG_LOAD_ADDR, of the length CFG_LOAD_LEN gives. -/
def Dev.imageAt (d : Dev) (m : Memory) (x : Reading) : Image := Image.ofBytes (memReadBytes m (16 * d.rd CFG.ADDR16) (d.rd CFG.LEN)) x

/-- The regions an image carries. -/
def Image.numbers (i : Image) : List Nat := i.regions.map fun r => r.no

/-- The header and the length are as R65, R67 and step 2 of Table 3.4 ask, `len` being CFG_LOAD_LEN. -/
def Image.headerOk (i : Image) (len : Nat) : Bool :=
  decide (i.magic = 0x49564C50 ∧ i.format = 3 ∧ i.hdrLen = 256 ∧ i.kind ≤ 1 ∧ i.hdrCrc = crc32c (i.bytes.take 0xFC) ∧ i.totalLen = len)
  && decide (i.totalLen % 16 = 0 ∧ 720 ≤ i.totalLen ∧ i.totalLen ≤ 48 * 1048576)
  && (i.kind = 1 || (decide (i.cls ≤ 1) && decide (i.startMode = 4 ∨ i.startMode = 5)))

/-- The digest an image-key slot holds, 48 bytes lowest first; 0 means no key (R93, Table 17.2). -/
def Dev.keySlot (d : Dev) (s : Nat) : Nat :=
  leVal ((List.range 12).flatMap fun k => leBytes 4 (d.rd PREG.P (4032 + 12 * s + k)))

/-- No image-key slot holds a key (R76). -/
def Dev.noKeys (d : Dev) : Bool := (List.range 4).all fun s => decide (d.keySlot s = 0)

/-- The signing key is admitted (R70). The limit of R76 on the factory key applies to loads, not to the image store. -/
def Dev.keyAdmitted (d : Dev) (i : Image) (stored : Bool) : Bool :=
  if i.keyIndex < 4 then decide (d.keySlot i.keyIndex = Config.sha384 i.pubKey ∧ d.keySlot i.keyIndex ≠ 0)
  else if i.keyIndex = 0xFF then decide (i.pubKey = Config.factoryKey) && (stored || d.noKeys)
  else false

/-- The signature block signs the bytes before it (R70). -/
def Image.sigOk (i : Image) : Bool := signedBy i.pubKey i.sig (i.bytes.take (i.totalLen - 208)) i.k

/-! The region table and the CRCs (step 4 of Table 3.4). FAIL_OFFSET names the entry or section that fails. -/

/-- The end of the last body before region `n`, or of the table (R65). -/
def Image.bodyStart (i : Image) (n : Nat) : Nat :=
  (i.regions.filter fun r => decide (r.no < n)).foldl (fun e r => Nat.max e (r.offset + r.length)) 512

/-- Entry `n` of the region table agrees with the mask, with the region's kind and with its body; bodies follow one another in the order
of the table (R65, R68). -/
def Image.entryOk (i : Image) (n : Nat) : Bool :=
  match i.regions.find? fun r => decide (r.no = n) with
  | none => ((i.bytes.drop (0x100 + 16 * n)).take 16).all fun b => decide (b = 0)
  | some r => decide (r.flags = 1 + 2 * bit (regionLive r.no) ∧ r.offset % 16 = 0 ∧ i.bodyStart n ≤ r.offset
      ∧ r.length = r.raw.length ∧ r.length % 16 = 0 ∧ r.sections = r.body.length ∧ r.offset + r.length + 208 ≤ i.totalLen)

/-- The first entry of the table that is wrong. -/
def Image.tableFail (i : Image) : Option Nat := ((List.range 16).find? fun n => !i.entryOk n).map (16 + ·)

/-- The first region or section whose CRC, or whose length, is wrong (R68, R69). -/
def Image.crcFail (i : Image) : Option Nat :=
  i.regions.findSome? fun r =>
    if r.crc ≠ crc32c r.raw then some (16 + r.no)
    else (r.body.find? fun s => decide (s.crc ≠ crc32c s.payload ∨ s.length ≠ s.payload.length)).map fun s => s.at_ / 16

/-! What the sections say (R69, R72). -/

/-- The section types of Table 3.2. -/
def knownSection (t : Nat) : Bool := decide (1 ≤ t ∧ t ≤ 14 ∨ t = 0xFFFF)

/-- The pairs of a PARAM-BLOCK payload (Table 3.2). -/
def paramPairs : List Nat → List (Nat × Nat)
  | b0 :: b1 :: b2 :: b3 :: b4 :: b5 :: b6 :: b7 :: t => (leVal [b0, b1, b2, b3], leVal [b4, b5, b6, b7]) :: paramPairs t
  | _ => []

/-- The blocks a region builds (Table 3.3), by their numbers in Table 1.10. -/
def regionBlocks (r : Nat) : List Nat :=
  match r with
  | 0 => [0] | 1 => [12, 16] | 2 => [10] | 3 => [11] | 4 => [11, 12, 13] | 5 => [16] | 6 => [3, 9] | 7 => [4] | 8 => [5] | 9 => [6]
  | 10 => [6] | 11 => [7, 8] | 12 => [7, 8] | 13 => [14, 15] | 14 => [17, 18, 19] | _ => []

/-- The bits a field takes in its register. -/
def Fld.mask (f : Fld) : Nat := (2 ^ f.w - 1) * 2 ^ f.lo

/-- What an entry gives a field. -/
def Fld.ofWord (f : Fld) (v : Nat) : Nat := v / 2 ^ f.lo % 2 ^ f.w

/-- A field an entry can take: access code RW, RWS or RWL (R470). -/
def Fld.isParam (f : Fld) : Bool := match f.acc with | .rw | .rws | .rwl => true | _ => false

/-- A Shoit-only field that an entry may address: a fault severity in FLT or a limit in THM (R470). -/
def Fld.islandParam (f : Fld) : Bool := decide (keyBlock (f.key 0 0) = 18 ∨ keyBlock (f.key 0 0) = 19)

/-- The registers of the elements region `r` builds start afresh with it (Table 3.3, R471): a field key belongs to them. -/
def regionOwns (r k : Nat) : Bool :=
  let b := keyBlock k
  let o := k / 32 % 0x10000
  let s := o % 0x40
  let fe : Bool := decide (b = 6 ∧ 0x1000 ≤ o ∧ o < 0x5000 ∧ (s = 0x14 ∨ (s = 0 ∧ k % 32 = CTL.S_FE_ACTION.lo)))
  let cam := o % 0x1000
  let isp12 : Bool := decide (b = 8 ∧ 0x1000 ≤ o ∧ ((0xC ≤ cam ∧ cam < 0x3C) ∨ 0x200 ≤ cam ∨ (cam = 0 ∧ k % 32 ≠ ISP.C_EN.lo)))
  match r with
  | 1 => decide (b = 12 ∧ 0x1000 ≤ o) || decide (b = 16 ∧ 0x40 ≤ o ∧ o < 0x80)
  | 2 => decide (b = 10)
  | 3 => decide (b = 11 ∧ 0x2000 ≤ o)
  | 4 => decide (b = 11 ∧ o < 0x2000) || decide (b = 12 ∧ o < 0x1000) || decide (b = 13)
  | 5 => decide (b = 16 ∧ ¬(0x40 ≤ o ∧ o ≤ 0x80))
  | 6 => decide (b = 9) || decide (b = 3 ∧ (o = 0x38 ∨ (0x40 ≤ o ∧ o < 0xA8) ∨ o = 0xE0 ∨ (0x200 ≤ o ∧ o < 0x280)))
  | 7 => decide (b = 4)
  | 8 => decide (b = 5)
  | 9 => decide (b = 6 ∧ (o < 0x5000 ∨ (0x7000 ≤ o ∧ o < 0x8000))) && !fe
  | 10 => decide (b = 6 ∧ ((0x5000 ≤ o ∧ o < 0x7000) ∨ 0x8000 ≤ o)) || fe
  | 11 => (decide (b = 7 ∨ b = 8)) && !isp12 && (FUS.CAM_CAL_ID.hasKey k).isNone
  | 12 => isp12
  | 13 => decide (b = 14 ∨ b = 15)
  | 14 => decide (b = 19 ∧ ((0x1000 ≤ o ∧ k % 32 = 0) ∨ (0x100 ≤ o ∧ o < 0x200 ∧ k % 32 = FLT.RT_SAFE_REQ.lo) ∨ o = 0x24))
          || (decide (b = 18) && match fieldOfKey k with | some (f, _, _) => decide (f.acc ≠ .ro ∨ f.wset = .loader) | none => false)
  | _ => false

/-- The section types that spell an item, and the region that builds it (Tables 3.2 and 3.3): PRESET-OVERRIDE cells stand in CR15,
KEY-ENROL in any region. -/
def BuildItem.home : BuildItem → List Nat × Option Nat
  | .gatePerm _ _ | .implChan _ | .fieldRequired _ | .admitsField => ([0xA], some 0)
  | .ioPoint _ _ _ => ([1], some 1)
  | .blwTable _ _ => ([3], some 4)
  | .tmbClass _ _ _ _ _ | .raSource _ _ _ | .mdSource _ _ | .fiUse _ _ => ([1], some 6)
  | .implement _ _ _ _ | .section_ _ _ _ _ _ _ _ | .asApplied _ | .curvature _ => ([1, 0xE], some 7)
  | .template _ _ | .tplEntry _ _ _ => ([9], some 8)
  | .loopConsumer _ _ => ([1], some 9)
  | .npuNeed _ _ | .camNet _ _ | .headProgram _ => ([5, 6], some 11)
  | .fusGain _ _ | .fusBias _ | .fusQm _ | .fusPoint _ _ _ _ _ _ => ([6], some 11)
  | .fusTap _ _ | .camPlace _ _ _ _ | .buffer _ _ => ([1], some 11)
  | .transform _ _ _ _ _ => ([7], some 12)
  | .gridPlace _ _ => ([1, 6], some 11)
  | .npuLayer _ _ => ([5, 6], some 11)
  | .defects _ _ => ([3, 7], some 12)
  | .canWindow _ _ _ _ _ _ _ | .carsilFrames _ _ | .canSlot _ _ _ _ _ => ([1, 8], some 13)
  | .netNode _ _ _ _ _ | .canFilter _ _ _ _ _ | .rxMap _ _ _ _ _ _ | .txMap _ _ _ _ _ _ _ | .canTxQueue _ _ | .condGroup _ _ _ _ _ _
  | .condQueue _ _ | .isoPort _ _ _ => ([1], some 13)
  | .reaction _ _ | .recMode _ | .pregOwner _ _ => ([1], some 14)
  | .mirrored _ | .point _ _ _ _ => ([0xC], some 15)
  | .presetCell _ _ _ _ => ([0xB], some 15)
  | .elements _ _ => ([1], none)
  | .keyEnrol _ _ => ([0xD], none)

/-- The element an item builds, where its kind of element is numbered. -/
def BuildItem.element : BuildItem → Option Nat
  | .tmbClass c _ _ _ _ => some c
  | .implement i _ _ _ => some i
  | .section_ s _ _ _ _ _ _ => some s
  | .template t _ | .tplEntry t _ _ => some t
  | .loopConsumer s _ => some s
  | .transform c _ _ _ _ | .defects c _ | .camNet c _ | .camPlace c _ _ _ | .fusTap c _ | .fusGain c _ => some c
  | .netNode n _ _ _ _ | .condGroup n _ _ _ _ _ => some n
  | .point n _ _ _ | .mirrored n => some n
  | .blwTable c _ => some c
  | _ => none

/-- The section types whose payload gives structural register fields. -/
def structTypes : List Nat := [1, 3, 4, 5, 6, 7, 8, 9, 0xA, 0xE]

/-- A structural field belongs to region `r`: its block is one the region builds, and no other region owns it (R72). -/
def regionGives (r k : Nat) : Bool :=
  (regionBlocks r).contains (keyBlock k) && (regionOwns r k || !(List.range 16).any fun n => regionOwns n k)

/-- What section `s` of region `r` builds: the items and the structural fields that its type spells, that its region builds, and that lie
from TARGET on (R69, R72). -/
def Sect.builds (r : Nat) (s : Sect) : SectRead :=
  { fields := if !structTypes.contains s.type then [] else s.said.fields.filter fun e => regionGives r e.1
      && (match fieldOfKey e.1 with | some (f, i, _) => f.n1 ≤ 1 || s.target ≤ i | none => false),
    items := s.said.items.filter fun it => it.home.1.contains s.type && it.home.2.all (fun n => decide (n = r))
      && it.element.all fun n => decide (s.target ≤ n) }

/-- The content of a region as the loader decodes it; unlisted optional sections are skipped, NOTE is ignored (R69). -/
def Region.content (r : Region) : Content :=
  let said := r.body.map fun s => s.builds r.no
  ⟨r.no, r.length, r.raw, said.flatMap fun s => s.fields, (r.body.filter fun s => decide (s.type = 2)).flatMap fun s => paramPairs s.payload,
   said.flatMap fun s => s.items⟩

/-- The number of elements of a block that the hardware has (R75). -/
def elementMax (b : Nat) : Option Nat :=
  match b with
  | 3 => some 32 | 4 => some 4096 | 5 => some 256 | 6 => some 256 | 7 => some 8 | 8 => some 8 | 10 => some 64 | 11 => some 32
  | 12 => some 64 | 13 => some 4 | 14 => some 8 | 15 => some 16 | 16 => some 64 | _ => none

/-- A section names no element beyond the hardware: every field it gives exists, and its elements end within the block's (R75). -/
def Sect.fits (s : Sect) : Bool :=
  (!structTypes.contains s.type || s.said.fields.all fun e => (fieldOfKey e.1).isSome)
  && s.said.items.all fun it => match it with
    | .elements b n => (elementMax b).all fun k => decide (s.target + n ≤ k)
    | _ => true

/-- The first section that names an element beyond the hardware. -/
def Image.elementFail (i : Image) : Option Nat :=
  i.regions.findSome? fun r => (r.body.find? fun s => !s.fits).map fun s => s.at_ / 16

/-- A PARAM-BLOCK entry of region `r` keeps the limits of R75 and R470; `locked` says that it is checked against running values:
a live region of a partial image. -/
def Dev.paramOk (d : Dev) (r : Nat) (locked : Bool) (e : Nat × Nat) : Bool :=
  let b := (e.1 - 0x40000000) / 0x10000
  let fs := fieldsAt e.1
  decide (0x40000000 ≤ e.1 ∧ e.1 % 4 = 0 ∧ b ≠ 2 ∧ e.2 < 2 ^ 32) && (regionBlocks r).contains b && !fs.isEmpty
  && decide (e.2 &&& (fs.filter fun p => p.1.isParam).foldl (fun m p => m ||| p.1.mask) 0 = e.2)
  && fs.all fun p => !p.1.isParam || (
      (decide (p.1.wset ≠ .shoit) || p.1.islandParam)
      && !(locked && decide (p.1.acc = .rwl) && d.enabled b (elemOf b e.1) && decide (p.1.ofWord e.2 ≠ d.rd p.1 p.2.1 p.2.2)))

/-- A structural field of a live region gives a Locked field of an enabled block the value it has (R75, R156). -/
def Dev.structLockOk (d : Dev) (e : Nat × Nat) : Bool :=
  match fieldOfKey e.1 with
  | some (f, i, j) => !(decide (f.acc = .rwl) && d.enabled (keyBlock e.1) (elemOf (keyBlock e.1) (e.1 / 32)) && decide (e.2 % 2 ^ f.w ≠ d.rd f i j))
  | none => true

/-- The first section or entry of a region that is not admitted: a type not listed and not OPTIONAL, an entry against R75 or R470, a
Locked field of an enabled block with another value (R69, R75). -/
def Dev.sectFail (d : Dev) (r : Nat) (locked : Bool) (s : Sect) : Option Nat :=
  if !knownSection s.type then (if s.flags % 2 = 1 then none else some (s.at_ / 16))
  else if s.type = 2 then
    let l := paramPairs s.payload
    ((List.range l.length).find? fun k => !d.paramOk r locked (l.getD k (0, 0))).map fun k => (s.at_ + 16 + 8 * k) / 16
  else if locked && !(s.builds r).fields.all d.structLockOk then some (s.at_ / 16)
  else none

/-- The first section or entry of an image that is not admitted. -/
def Dev.formFail (d : Dev) (i : Image) : Option Nat :=
  i.regions.findSome? fun r => r.body.findSome? (d.sectFail r.no (decide (i.kind ≠ 0) && regionLive r.no))

/-- The KEY-ENROL sections of an image (R76). -/
def Image.enrols (i : Image) : List (Nat × Nat) :=
  i.regions.flatMap fun r => r.content.items.filterMap fun it => match it with | .keyEnrol s g => some (s, g) | _ => none

/-- The image carries a KEY-ENROL section. -/
def Image.hasEnrol (i : Image) : Bool := i.regions.any fun r => r.body.any fun s => decide (s.type = 13)

/-- R76: KEY-ENROL only in a full image in SERVICE, into any slot but the one whose key signed it. -/
def Dev.enrolOk (d : Dev) (i : Image) : Bool :=
  !i.hasEnrol || (decide (i.kind = 0 ∧ d.mode = 4) && i.enrols.all fun e => decide (e.1 < 4 ∧ e.1 ≠ i.keyIndex))

/-- The image carries a static region. -/
def Image.anyStatic (i : Image) : Bool := i.regions.any fun r => !regionLive r.no

/-- R74: static regions load in SERVICE only, live ones in SERVICE, ROAD, FIELD and SAFE. -/
def Dev.loadModeOk (d : Dev) (i : Image) : Bool := decide (d.mode = 4) || (decide (5 ≤ d.mode ∧ d.mode ≤ 7) && !i.anyStatic)

/-- The running image hash as one number, lowest byte first (R71, R73). -/
def Dev.hashVal (d : Dev) : Nat := leVal d.imageHash

end Sys2Proof.Machine
end

