-- ==== Sys2Proof/Machine/Build.lean ====
section
/-! DEFINITION. Machine/Build.lean: what building a region does: register fields, structure, elements starting afresh, the image hash
(R71, R72, R79, R91, R470, R471, R475). -/

namespace Sys2Proof.Machine

/-- The field values a region's content sets, by field key: structural ones, then PARAM-BLOCK entries (R470). -/
def Content.sets (c : Content) : List (Nat × Nat) :=
  c.fields ++ c.params.flatMap fun e => ((fieldsAt e.1).filter fun p => p.1.isParam).map fun p => (p.1.key p.2.1 p.2.2, p.1.ofWord e.2)

/-- Sets field values by key. -/
def Dev.wrKeys (d : Dev) (sets : List (Nat × Nat)) : Dev :=
  forAll sets (fun e d => match fieldOfKey e.1 with | some (f, i, j) => d.wr f e.2 i j | none => d) d

/-- Severities CR14 sets: one below its floor sets CLAMPED, a fixed one stays (R434). -/
def Dev.sevFloors (d : Dev) (sets : List (Nat × Nat)) : Dev :=
  forAll sets (fun e d => match FLT.F_SEV.hasKey e.1 with
    | some i =>
      if (faultRow i).fixed = 1 then d.wr FLT.F_SEV (faultRow i).sev i
      else if e.2 % 4 < d.rd FLT.F_FLOOR i then d.wr FLT.CLAMPED 1
      else d
    | none => d) d

/-- The fields a key condition picks, as another device has them. -/
def Dev.takeKeys (d e : Dev) (own : Nat → Bool) : Dev :=
  { d with regs := (e.regs.filter fun p => own p.1).foldl (fun r p => tset p.1 p.2 r) (d.regs.filter fun p => !own p.1) }

/-- The values of a load take effect at once: the presets that the image names are expanded, for the fields `own` picks, then the entries
themselves; writes that waited for the same fields are dropped (R91, R470). `again` are the selectors that other regions of the running
image name. -/
def Dev.loadSets (d : Dev) (sets again : List (Nat × Nat)) (own : Nat → Bool) : Dev :=
  let w0 := d.wait
  let d := { d with wait := [] }.wrKeys sets
  let e := forAll ((again ++ sets).filterMap fun e => presetOfKey e.1 e.2) (fun g d => g d) d
  let gone := ((e.wait.map fun p => p.1).filter own) ++ sets.map fun p => p.1
  let e := e.applyWaiting (fun _ => true) fieldOfKey
  let n := ((d.takeKeys e own).wrKeys sets).sevFloors sets
  let d := n.loadHeld d ((sets.map fun p => p.1) ++ n.allCells own)
  { d with wait := w0.filter fun e => !gone.contains e.1 }

/-- The selectors, with their values, that running regions other than `rs` name (R91). -/
def Dev.imageSets (d : Dev) (rs : List Nat) : List (Nat × Nat) := (d.cfg.sets.filter fun p => !rs.contains p.1).flatMap fun p => p.2

/-! What a live region owns (R78, R475). -/

/-- The writable fields of the live regions' blocks whose reset value reads "Image" (chapters 5, 6, 7, 9 and 12). -/
def imageFields : List Fld :=
  [LAH.LAT0, LAH.LON0, LAH.MAP_ORG_E, LAH.MAP_ORG_N, LAH.MAP_W, LAH.MAP_H, LAH.MAP_BASE, LAH.IMP_CURVE_COMP, LAH.IMP_DELAY_RATE_MS,
   LAH.IMP_RC_T1, LAH.IMP_RC_T2, LAH.IMP_RC_T3, LAH.SEC_DELAY_ON_MS, LAH.SEC_DELAY_OFF_MS, SLU.T_PREP_LEAD, CTL.S_EN, CTL.S_NOTCH_POS,
   CTL.S_SP, CTL.S_SP_RATE, CTL.S_OUT_MIN, CTL.S_OUT_MAX, CTL.S_OUT_RATE, CTL.S_SAFE_VAL, CTL.S_HYST, CTL.S_DA, CTL.S_SP_GAIN_M,
   CTL.S_SP_GAIN_E, CTL.S_FF_MAX, CTL.N1_B0, CTL.N1_B1, CTL.N1_B2, CTL.N1_A1, CTL.N1_A2, CTL.N1_EN, CTL.G_KP_M, CTL.G_KI_M,
   CTL.G_KD_M, CTL.G_KFF_M, CTL.G_KP_E, CTL.G_KI_E, CTL.G_KD_E, CTL.G_KFF_E, CTL.G_BOUND, CTL.N2_B0, CTL.N2_B1, CTL.N2_B2, CTL.N2_A1,
   CTL.N2_A2, CTL.N2_EN, ISP.P_FSYNC_EN, ISP.P_FSYNC_OFS_US, ISP.C_DM_MODE, ISP.C_SHADING_EN, ISP.C_CAPT_OFS_US, ISP.C_BL0, ISP.C_BL1,
   ISP.C_BL2, ISP.C_BL3, ISP.C_WB0, ISP.C_WB1, ISP.C_WB2, ISP.C_WB3, ISP.C_DM_THR, ISP.C_C00, ISP.C_C01, ISP.C_C02, ISP.C_C10,
   ISP.C_C11, ISP.C_C12, ISP.C_C20, ISP.C_C21, ISP.C_C22, ISP.C_G0_EVEN, ISP.C_G0_ODD, ISP.C_G1_EVEN, ISP.C_G1_ODD, ISP.C_G2_EVEN,
   ISP.C_G2_ODD, ISP.C_G3_EVEN, ISP.C_G3_ODD, VDR.NM600_MODE, VDR.BOOST_SET, VDR.CH_TTP_MIN_US, VDR.CH_TTP_MAX_US,
   VDR.CH_CLOSE_WIN_LO_US, VDR.CH_CLOSE_WIN_HI_US, VDR.CH_CLOSE_THR_MV, VDR.CH_DEMAND_FS_MA, VDR.PS_N_PH, VDR.PS_STOP_DECAY,
   VDR.PS_SRC, VDR.PS_KIND, VDR.PS_DECAY, VDR.PS_DEMAND, VDR.PS_TTP, VDR.PS_ITGT_MA, VDR.PS_HYST_MA, VDR.PS_T_PH_US]

/-- A field that takes its value from the image alone: Loader only, or with the reset value "Image" (R475). The identity of the transform
table in use changes at its take-up (R224). -/
def imageKey (k : Nat) : Bool :=
  match fieldOfKey k with
  | some (f, _, _) => (decide (f.wset = .loader) || imageFields.any fun g => g.is f) && !f.is FUS.CAM_CAL_ID
  | none => false

/-- The image fields of live region `r` go back to their defaults before its new content sets them; Locked fields of an enabled block keep
their values (R75, R78, R475). -/
def Dev.clearLive (d : Dev) (r : Nat) : Dev :=
  let keeps (k : Nat) : Bool := match fieldOfKey k with
    | some (f, _, _) => decide (f.acc = .rwl) && d.enabled (keyBlock k) (elemOf (keyBlock k) (k / 32))
    | none => false
  { d with regs := d.regs.filter fun p => !(regionOwns r p.1 && imageKey p.1 && !keeps p.1) }

/-- The blocks' enable fields (R79, R87). -/
def enableFields : List Fld := [LAH.EN, SLU.EN, CTL.EN, FUS.EN, ISP.EN, GNS.EN, VDR.EN, BLW.EN, CAN.EN, ETH.EN]

/-- MD fusion restarts in LOST, and every pending event is removed without an issue record (R471). -/
def Dev.tmbRebuilt (d : Dev) : Dev :=
  let d := d.grpAbortAll (fun t _ => d.flag SLU.T_COORD t) 13
  let d := { d with tmb := { d.tmb with
    slots := []
    gens := (List.range 4096).map fun n => (n, (tget n d.tmb.gens + 1) % 16)
    srcs := []
    rate := 0
    fused := 0
    slowFrom := none
    fastFrom := none
    turn := none
    sawFwd := false } }.wr TMB.PENDING 0
  (d.mdStateTo 3).wr SYS.STATIONARY 0

/-- The elements of a region start afresh (R471): hidden state, and registers formed from it. -/
def Dev.freshRegion (r : Nat) (d : Dev) : Dev :=
  match r with
  | 1 => forAll (List.range 16) (fun k d => d.driveFc k) { d with fio := { d.fio with ais := [], fis := [], ssAt := [] } }.fioPowerUp
  | 2 => ({ d with lsw := default }).lswPowerUp
  | 4 => (({ d with vdr := [], fio := { d.fio with grps := [], pins := [] }, blw := default }).vdrPowerUp.fioPowerUp).blwPowerUp
  | 5 =>
    let d := { d with que := [] }
    let d := forAll ((List.range 64).filter fun q => d.flag QUE.Q_PRIV q && decide (d.rd QUE.Q_STALE_US q = 0))
      (fun q d => d.wr QUE.Q_STALE_US 1000000 q) d
    forAll (List.range 16) (fun k d => d.driveFc k) d
  | 6 => ({ d with gns := { (default : GnsH) with store := d.gns.store, storedAt := d.gns.storedAt, fixPos := d.gns.fixPos } }.antRefresh).tmbRebuilt
  | 7 => { d with lah := default }
  | 8 => { d with slu := default }
  | 9 => { d with ctl := { d.ctl with slots := [], before := [], reload := [] } }
  | 11 => { d with fus := { (default : FusH) with tables := d.fus.tables, last := d.fus.last }, isp := { d.isp with cams := [] } }
  | 12 =>
    let tabs := (d.itemsOf 12).filterMap fun it => match it with | .transform c _ _ _ l => some (c, l) | _ => none
    let d := { d with fus := { d.fus with tables := tabs } }
    forAll (d.itemsOf 12) (fun it d => match it with
      | .transform c cal _ _ _ => d.wr FUS.CAM_CAL_ID cal c
      | _ => d) d
  | 13 => { d with net := { (default : NetH) with sentSeq := d.net.sentSeq, joinAt := d.now } }.wr ETH.JOIN_STATE (bit (d.flag ETH.JOIN_EN)) |>.wr
      SLU.CARSIL_READY 0
  | 15 => { d with points := (d.itemsOf 15).filterMap fun it => match it with
      | .point n _ _ _ => some (n, ⟨0, 0, 0, 0, d.now⟩)
      | _ => none }
  | _ => d

/-- A block whose EN is 1 after the build is enabled afresh (stage 4 of R79). -/
def Dev.enableAfresh (rs : List Nat) (d : Dev) : Dev :=
  let d := if rs.contains 9 ∧ d.flag CTL.EN then loopEngineEnable true (d.wr CTL.EN 0) else d
  let d := if rs.contains 11 ∧ d.flag FUS.EN then fusEnable true (d.wr FUS.EN 0) else d
  let d := if rs.contains 4 ∧ d.flag BLW.EN then blwEnable true (d.wr BLW.EN 0) else d
  if rs.contains 6 ∧ d.flag GNS.EN then gnsEnable true (d.wr GNS.EN 0) else d

/-- The image hash and the region hashes follow the running bodies (R71, R96). -/
def Dev.rehash (d : Dev) : Dev :=
  let stat := d.cfg.bodies.filter fun p => !regionLive p.1
  let h := leBytes 48 (Config.sha384 (stat.flatMap fun p => leBytes 4 p.2.length ++ p.2))
  let d := forAll (List.range 12) (fun k d => d.wr CFG.HASH (leWord k h) k) d
  forAll d.cfg.bodies (fun p d => d.wr CFG.RHASH (Config.sha384 p.2) p.1) d

/-- The body of a region becomes the running one. -/
def Dev.runBody (d : Dev) (c : Content) : Dev :=
  { d with
    built := tset c.no c.items d.built
    cfg := { d.cfg with bodies := tset c.no c.bytes d.cfg.bodies, sets := tset c.no c.sets d.cfg.sets } }

/-- A live region's content in place of the running one: structure, then its fields (R78, R91, R475). -/
def Dev.liveContent (d : Dev) (c : Content) : Dev :=
  let again := d.imageSets [c.no]
  ((d.clearLive c.no).runBody c).loadSets c.sets again (regionGives c.no)

/-- CFG_STAT.PRESET_OVERRIDDEN (R90). -/
def Dev.presetMark (d : Dev) : Dev :=
  d.wr CFG.PRESET_OVERRIDDEN (bit ((d.itemsOf 15).any fun it => match it with | .presetCell _ _ _ _ => true | _ => false))

/-- The recorder mode CR14 names is latched at the first full image after the recorder was cleared, unless Crust has filled by
then; MODE_DIFF tells of a difference (R400). The single area goes on from the first slots. -/
def Dev.recLatch (d : Dev) : Dev :=
  let m := d.recNamed
  let d :=
    if d.recd.latched then d
    else
      let d := { d with recd := { d.recd with latched := true } }
      if m = 1 ∧ d.recd.crustOpen then
        ((d.wr REC.REC_MODE 1).wr REC.REC_TIDE_OLDEST (d.rd REC.REC_NEXT + 2 ^ 32 - d.rd REC.REC_CRUST_N)).wr REC.REC_CRUST_N 0 |>.wr REC.REC_CRUST_FIRST
          (d.rd REC.REC_NEXT)
      else d
  d.modeDiff

/-- The origin and the placement of the coverage map (R134). -/
def Dev.mapKey (d : Dev) : List Nat :=
  [d.rd LAH.LAT0, d.rd LAH.LON0, d.rd LAH.MAP_ORG_E, d.rd LAH.MAP_ORG_N, d.rd LAH.MAP_W, d.rd LAH.MAP_H, d.rd LAH.MAP_BASE]

/-- The structure of a load replaces the running one whole (stages 2 to 4 of R79, R471). -/
def Dev.rebuild (d : Dev) (cs : List Content) : Dev :=
  let rs := cs.map fun c => c.no
  let ens := enableFields.map fun f => (f, d.rd f)
  let d := forAll cs (fun c d => d.runBody c) d
  let d := d.resetKeys fun k => rs.any fun r => regionOwns r k
  let sets := cs.flatMap Content.sets
  let d := forAll ens (fun p d => if sets.any (fun e => decide (e.1 = p.1.key 0 0)) then d else d.wr p.1 p.2) d
  let again := d.imageSets rs
  let d := d.loadSets sets again fun k => rs.any fun r => regionGives r k
  let d := forAll rs (fun r d => d.freshRegion r) d
  ((d.enableAfresh rs).presetMark).rehash

/-- `rebuild`, with the coverage map cleared where a load moves it (R134, R156). -/
def Dev.rebuildAll (d : Dev) (cs : List Content) (m : Memory) : Dev × Memory :=
  let was := d.mapKey
  let d := (d.rebuild cs).mapLimits
  if d.mapKey = was then (d, m) else d.mapClear m

/-- What a full image's header gives: supply class, start mode, IMAGE_VALID, IMAGE_ID and IMAGE_VER (R49, R63, R96). -/
def Dev.headerIn (d : Dev) (i : Image) : Dev :=
  let d := { d with cfg := { d.cfg with startMode := i.startMode } }.wr SYS.CLASS i.cls
  let d := if i.cls ≠ d.sys.detected then d.cause SYS.SUPEVT_CLASS_MISMATCH else d
  (d.wr SYS.IMAGE_VALID 1).wr CFG.IMAGE_VALID 1

end Sys2Proof.Machine
end

