-- ==== Sys2Proof/Machine/Structure.lean ====
section
/-! DEFINITION. Machine/Structure.lean: the limits a structure must keep, looked at on the structure a load would give (R75 and the
rules of later chapters that name FORMAT or RESOURCE). -/

namespace Sys2Proof.Machine

/-! FORMAT. -/

/-- Freshness limits: 50 µs to 60 s, at least 5 ms for a mirrored point (R29, R369). -/
def Dev.freshOk (d : Dev) : Bool :=
  (d.itemsOf 15).all fun it => match it with
    | .point n _ _ f => decide (50 ≤ f ∧ f ≤ 60000000)
        && !(decide (f < 5000) && (d.itemsOf 15).any fun x => match x with | .mirrored k => decide (k = n) | _ => false)
    | _ => true

/-- The templates CR8 builds. -/
def Dev.templates (d : Dev) : List Nat := (d.itemsOf 8).filterMap fun it => match it with | .template t _ => some t | _ => none

/-- A local action's element is built (R160). -/
def Dev.actBuilt (d : Dev) (a : SlAct) : Bool :=
  match a.kind with
  | 1 => decide (a.target < 64) && d.flag LSW.CH_BUILT a.target
  | 2 => decide (a.target < 64) && d.pinIsOut a.target
  | 3 => decide (a.target < 32) && d.flag VDR.CH_BUILT a.target && d.flag VDR.PS_BUILT (a.value % 32)
  | 4 => decide (a.target < 32) && d.flag VDR.CH_BUILT a.target
  | 5 => decide (a.target < 256) && d.flag CTL.S_BUILT a.target && !d.flag CTL.SP_PT a.target
  | 6 => true
  | _ => false

/-- The local target of an action: both valve kinds name the VD channel (R160). -/
def SlAct.localTarget (a : SlAct) : Nat × Nat := (if a.kind = 4 then 3 else a.kind, if a.kind = 6 then 0 else a.target)

/-- A destination of section control is the channel an action names (R160). -/
def SlAct.hits (a : SlAct) (t : Dest) : Bool :=
  match a.kind, t with
  | 1, .chan (.ls n) => decide (n = a.target)
  | 2, .chan (.io n) => decide (n = a.target)
  | 3, .chan (.vd n) => decide (n = a.target)
  | 4, .chan (.vd n) => decide (n = a.target)
  | 3, .valve n _ => decide (n = a.target)
  | 4, .valve n _ => decide (n = a.target)
  | _, _ => false

/-- A template keeps R160, and its header counts what follows (Table 6.1). -/
def Dev.templateOk (d : Dev) (t : Nat) : Bool :=
  let acts := d.tplEntries t false
  let loc := acts.filter fun a => decide (a.node = nodeLocal)
  let targets := loc.map SlAct.localTarget
  let dests := (d.itemsOf 7).filterMap fun it => match it with | .section_ _ _ _ _ _ sw _ => some sw | _ => none
  decide (d.rd SLU.T_N_ACT t = acts.length ∧ d.rd SLU.T_N_COMP t = (d.tplEntries t true).length
      ∧ d.rd SLU.T_N_NODES t = (remoteNodes (acts ++ d.tplEntries t true)).length)
  && loc.all d.actBuilt && decide (targets.eraseDups.length = targets.length) && loc.all (fun a => !dests.any a.hits)

/-- Points of loop slots are Q15 or unsigned 16-bit (R189 to R191). -/
def Dev.loopPointOk (d : Dev) (n : Nat) : Bool :=
  match d.pointRow n with
  | some (.s32, _, _) => false
  | some (.bool, _, _) => false
  | _ => true

/-- The points of every built slot. -/
def Dev.loopPointsOk (d : Dev) : Bool :=
  (List.range 256).all fun s => !d.flag CTL.S_BUILT s
    || (d.loopPointOk (d.rd CTL.PV_SRC s) && (!d.flag CTL.SP_PT s || d.loopPointOk (d.rd CTL.SP_SRC s))
        && (!d.flag CTL.FF_USED s || d.loopPointOk (d.rd CTL.FF_SRC s)) && (!d.flag CTL.SCHED_USED s || d.loopPointOk (d.rd CTL.SCHED_SRC s))
        && d.loopPointOk (d.rd CTL.S_OUT_DST s))

/-- A transform table has one entry for each cell, its header names the camera's tensor, and its entries stay inside it (R220). -/
def Dev.transformOk (d : Dev) (c tw th : Nat) (l : List Nat) : Bool :=
  decide (l.length = 131072 ∧ tw = d.rd FUS.CAM_TENSOR_W c ∧ th = d.rd FUS.CAM_TENSOR_H c) && l.all fun e => decide (bitsOf 31 24 e = 0
    ∨ (bitsOf 11 0 e < 16 * (d.rd FUS.CAM_TENSOR_W c - 1) ∧ bitsOf 23 12 e < 16 * (d.rd FUS.CAM_TENSOR_H c - 1)))

/-- Entries rise strictly in (Y, X) (R246). -/
def defectsRise : List Nat → Bool
  | a :: b :: t => decide (bitsOf 27 16 a * 4096 + bitsOf 11 0 a < bitsOf 27 16 b * 4096 + bitsOf 11 0 b) && defectsRise (b :: t)
  | _ => true

/-- A static defect table rises and lies inside the frame (R246). -/
def Dev.defectsOk (d : Dev) (c : Nat) (l : List Nat) : Bool :=
  defectsRise l && l.all fun e => decide (bitsOf 11 0 e < d.rd ISP.C_WIDTH c ∧ bitsOf 27 16 e < d.rd ISP.C_HEIGHT c)

/-- The tables of CR12. -/
def Dev.camTablesOk (d : Dev) : Bool :=
  (d.itemsOf 12).all fun it => match it with
    | .transform c _ tw th l => d.transformOk c tw th l
    | .defects c l => d.defectsOk c l
    | _ => true

/-- A layer the NPU has (R213). -/
def NpuLayer.ok : NpuLayer → Bool
  | .conv kw kh s => decide (1 ≤ kw ∧ kw ≤ 7 ∧ 1 ≤ kh ∧ kh ≤ 7 ∧ (s = 1 ∨ s = 2))
  | .leakyRelu l => l.isSome
  | .other => false
  | _ => true

/-- CR11 keeps Tables 8.1 and 8.3: tensors in range, a network for each built camera, one head program where any camera is built or a
network given, the loader's count of what the programs need, layers the NPU has, and the grid's place in range. -/
def Dev.fusionOk (d : Dev) : Bool :=
  let its := d.itemsOf 11
  let heads := (its.filter fun it => match it with | .headProgram _ => true | _ => false).length
  let cams := (List.range 8).filter fun c => d.flag FUS.CAM_BUILT c
  cams.all (fun c => decide (2 ≤ d.rd FUS.CAM_TENSOR_W c ∧ d.rd FUS.CAM_TENSOR_W c ≤ 256 ∧ 2 ≤ d.rd FUS.CAM_TENSOR_H c
      ∧ d.rd FUS.CAM_TENSOR_H c ≤ 128) && its.any fun it => match it with | .camNet k _ => decide (k = c) | _ => false)
  && decide (heads ≤ 1 ∧ (cams = [] ∨ heads = 1))
  && (decide (heads = 0) || its.any fun it => match it with | .npuNeed _ _ => true | _ => false)
  && its.all fun it => match it with
    | .npuLayer _ l => l.ok
    | .gridPlace x y => decide (0 ≤ x ∧ x ≤ 20000 ∧ -12800 ≤ y ∧ y ≤ 0)
    | _ => true

/-- Wire-break detection only on Type 3 inputs (R326). -/
def Dev.pinsOk (d : Dev) : Bool := (List.range 64).all fun n => !(decide (d.rd FIO.PIN_KIND n = 2) && d.flag FIO.PIN_WB_EN n)

/-- Half nanoseconds of one nominal bit and one data-phase bit of a port (R350). -/
def Dev.canBit (d : Dev) (p : Nat) : Nat × Nat :=
  (25 * (d.rd CAN.P_NBRP p + 1) * (3 + d.rd CAN.P_NTSEG1 p + d.rd CAN.P_NTSEG2 p),
   25 * (d.rd CAN.P_DBRP p + 1) * (3 + d.rd CAN.P_DTSEG1 p + d.rd CAN.P_DTSEG2 p))

/-- Worst-case length in half nanoseconds of an FD frame with bit-rate switch, 11-bit identifier and `n` data bytes, and of three
nominal bit times behind it (R352; the frame format is that of ISO 11898-1: PRESUMED, assumption 7). -/
def Dev.canFrameTime (d : Dev) (p n : Nat) : Nat :=
  let body := 5 + 8 * n
  let crc := if n ≤ 16 then 17 else 21
  let (nb, db) := d.canBit p
  nb * (17 + 4 + 10 + 3) + db * (body + body / 4 + 5 + crc + (crc + 7) / 4)

/-- The windows CR13 builds on a port: start, length, kind, base, rep, slot (Table 14.3). -/
def Dev.windowsOf (d : Dev) (p : Nat) : List (Nat × Nat × Nat × Nat × Nat × Nat) :=
  (d.itemsOf 13).filterMap fun it => match it with
    | .canWindow q s l k b r t => if q = p then some (s, l, k, b, r, t) else none
    | _ => none

/-- The data bytes of a message slot of the module. -/
def Dev.canSlotLen (d : Dev) (p t : Nat) : Option Nat :=
  (d.itemsOf 13).findSome? fun it => match it with | .canSlot q s _ n _ => if q = p ∧ s = t then some n else none | _ => none

/-- A window is as long as its longest frame needs (R352). -/
def Dev.windowLong (d : Dev) (p : Nat) (w : Nat × Nat × Nat × Nat × Nat × Nat) : Bool :=
  let need : Nat := match w.2.2.1 with
    | 1 => (d.canSlotLen p w.2.2.2.2.2).elim 0 (d.canFrameTime p)
    | 4 => d.canFrameTime p 64
    | _ => 0
  decide (need ≤ 2000 * w.2.1)

/-- Two entries (base, rep, slot) apply in one basic cycle (Table 14.3). -/
def shareCycle (a b : Nat × Nat × Nat) : Bool := decide (a.1 % 2 ^ Nat.min a.2.1 b.2.1 = b.1 % 2 ^ Nat.min a.2.1 b.2.1)

/-- The schedule matrix of a port keeps R352. -/
def Dev.matrixOk (d : Dev) (p : Nat) : Bool :=
  let ws := d.windowsOf p
  let kind := d.rd CAN.P_KIND p
  let cycle := d.rd CAN.P_CYCLE_US (if p = 1 ∧ d.rd CAN.P_KIND 0 = 2 then 0 else p)
  if ws = [] then decide (kind ≠ 2)
  else decide (p < 2 ∧ kind = 2)
    && ws.all (fun w => decide (w.1 + w.2.1 ≤ cycle) && d.windowLong p w && decide (w.2.2.1 ≤ 4 ∧ w.2.2.2.1 < 2 ^ w.2.2.2.2.1))
    && ws.any (fun w => decide (w.1 = 0 ∧ w.2.2.1 = 0)) && ws.all (fun w => decide (w.1 = 0 → w.2.2.1 = 0))
    && ws.all fun a => ws.all fun b => decide (a.1 = b.1 ∨ a.1 + a.2.1 ≤ b.1 ∨ b.1 + b.2.1 ≤ a.1) || !shareCycle a.2.2.2 b.2.2.2

/-- The matrix of a port stays inside the hardware: CYCLE_US from 1,000 to 10,000 µs, 2ᵏ basic cycles with k from 0 to 6, REP at most k, up to
32 windows in a basic cycle (R352). -/
def Dev.matrixFits (d : Dev) (p : Nat) : Bool :=
  let ws := d.windowsOf p
  let q := if p = 1 ∧ d.rd CAN.P_KIND 0 = 2 then 0 else p
  let n := d.rd CAN.P_MATRIX_CYCLES q
  decide (d.rd CAN.P_KIND p ≠ 2)
    || decide (1000 ≤ d.rd CAN.P_CYCLE_US q ∧ d.rd CAN.P_CYCLE_US q ≤ 10000 ∧ [1, 2, 4, 8, 16, 32, 64].contains n)
      && ws.all (fun w => decide (2 ^ w.2.2.2.2.1 ≤ n))
      && (List.range n).all fun c =>
        decide (((ws.filter fun w => decide (c % 2 ^ w.2.2.2.2.1 = w.2.2.2.1)).map fun w => w.1).eraseDups.length ≤ 32)

/-- Carsil on CAN1 or Ethernet asks for a time-triggered CAN0 (R357). -/
def Dev.carsilOk (d : Dev) : Bool :=
  decide (d.rd CAN.P_KIND 0 = 2) || (d.itemsOf 13).all fun it => match it with
    | .canWindow 1 _ _ 4 _ _ _ => false
    | .netNode _ _ (some _) (some _) _ => false
    | .netNode _ cans _ (some _) _ => !cans.contains 1
    | _ => true

/-- The peer table rises by Carsil address (R366). -/
def Dev.peersOk (d : Dev) : Bool :=
  let l := ((List.range 16).filter fun e => d.flag ETH.PE_BUILT e).map fun e => d.rd ETH.PE_ADDR e
  l.zip (l.drop 1) |>.all fun p => decide (p.1 < p.2)

/-- A point that section control writes: the look-ahead unit is its producer (R128). -/
def Dev.lahPoint (d : Dev) (n : Nat) : Option PtType :=
  match d.pointRow n with
  | some (ty, .block 4, _) => some ty
  | _ => none

/-- The points of CR7: switch points and rate points have the look-ahead unit as their producer, and a rate point is unsigned 16-bit
(R128). -/
def Dev.sectionPointsOk (d : Dev) : Bool :=
  (d.itemsOf 7).all fun it => match it with
    | .section_ _ _ _ _ _ sw rate =>
      (match sw with | .point p => (d.lahPoint p).isSome | .chan (.ls _) | .chan (.vd _) | .chan (.io _) | .valve _ _ => true | _ => false)
      && (match rate with | some p => decide (d.lahPoint p = some .u16) | none => true)
    | _ => true

/-- Each class of CR6 keeps R114 and R116: a coordinate there is, REPEAT for RA alone, MT forward alone, RA forward or REPEAT, and a
destination that takes commands. -/
def Dev.classesOk (d : Dev) : Bool :=
  (List.range 32).all fun c => !d.flag TMB.CLASS_BUILT c
    || (match d.rd TMB.CLASS_COORD c with
        | 0 => decide (d.rd TMB.CLASS_DIR c ≠ 3)
        | 1 => decide (d.rd TMB.CLASS_DIR c = 0 ∨ d.rd TMB.CLASS_DIR c = 3)
        | 2 => decide (d.rd TMB.CLASS_DIR c = 0)
        | _ => false)
      && (match d.classRow c with
        | some (.chan (.fc _), _, _, _) => false
        | some _ => true
        | none => false)

/-- Everything that makes a structure FORMAT where it fails. -/
def Dev.structFormat (d : Dev) : Bool :=
  d.freshOk && d.templates.all d.templateOk && d.loopPointsOk && d.camTablesOk && d.fusionOk && d.pinsOk
  && (List.range 32).all (fun s => !d.flag VDR.PS_BUILT s || !d.slotBad s)
  && (List.range 8).all d.matrixOk && d.carsilOk && d.peersOk && d.classesOk && d.sectionPointsOk

/-! RESOURCE. -/

/-- An item's numbers lie inside the hardware (R75, R127, R158, R365). -/
def BuildItem.fits : BuildItem → Bool
  | .tmbClass c _ _ _ r => decide (c < 32 ∧ r ≤ 4096)
  | .implement i x y _ => decide (i < 8 ∧ x.natAbs ≤ 32767 ∧ y.natAbs ≤ 32767)
  | .section_ s i x y w _ _ => decide (s < 4096 ∧ i < 8 ∧ x.natAbs ≤ 32767 ∧ y.natAbs ≤ 32767 ∧ 50 ≤ w ∧ w ≤ 20000)
  | .template t _ => decide (t < 256)
  | .tplEntry t _ _ => decide (t < 256)
  | .netNode n _ _ _ _ => decide (n < 2048)
  | .condGroup g _ _ _ _ l => decide (g < 128 ∧ l.length ≤ 16)
  | .canSlot p s _ _ _ => decide (p < 8 ∧ s < 64)
  | .point n _ _ _ => decide (n < 131072)
  | .camPlace c _ _ _ => decide (c < 8)
  | .transform c _ _ _ _ => decide (c < 8)
  | .fusPoint p _ r0 r1 c0 c1 => decide (p < 16 ∧ r0 < 512 ∧ r1 < 512 ∧ c0 < 256 ∧ c1 < 256)
  | .defects c l => decide (c < 8 ∧ l.length ≤ 4096)
  | .npuNeed bytes us => decide (bytes ≤ 3200 * 1024 ∧ us ≤ 28000)
  | _ => true

/-- A template stays inside the limits of R158: 1 to 64 actions, 64 entries, 16 nodes, 16 actions for each. -/
def Dev.templateFits (d : Dev) (t : Nat) : Bool :=
  let acts := d.tplEntries t false
  let nodes := remoteNodes (acts ++ d.tplEntries t true)
  decide (1 ≤ acts.length ∧ acts.length ≤ 64 ∧ (d.tplEntries t true).length ≤ 64 ∧ nodes.length ≤ 16)
  && nodes.all fun n => decide ((acts.filter fun a => decide (a.node = n)).length ≤ 16)

/-- Camera formats and ports stay inside R238. -/
def Dev.camerasFit (d : Dev) : Bool :=
  let w (c : Nat) := d.rd ISP.C_WIDTH c
  let h (c : Nat) := d.rd ISP.C_HEIGHT c
  let f (c : Nat) := d.rd ISP.C_FPS_MAX c
  let built := (List.range 8).filter fun c => d.flag ISP.C_BUILT c
  built.all (fun c => decide (w c % 2 = 0 ∧ 64 ≤ w c ∧ w c ≤ 3840 ∧ h c % 2 = 0 ∧ 64 ≤ h c ∧ h c ≤ 2160 ∧ w c * h c ≤ 2900000 ∧ f c ≤ 30
    ∧ d.rd ISP.C_DT c < 3 ∧ 1 ≤ d.rd ISP.P_GEAR (c / 4)))
  && [0, 1].all fun p =>
    let cs := built.filter fun c => decide (c / 4 = p)
    decide ((cs.map fun c => w c * h c * f c).foldl (· + ·) 0 ≤ 348000000
      ∧ 110 * (cs.map fun c => w c * h c * (10 + 2 * d.rd ISP.C_DT c) * f c).foldl (· + ·) 0 ≤ 80 * gearRate (d.rd ISP.P_GEAR p) * 1000000)

/-- Two DRAM areas are apart. -/
def areasApart (a b : Nat × Nat) : Bool := decide (a.1 + a.2 ≤ b.1 ∨ b.1 + b.2 ≤ a.1)

/-- Every area is apart from every later one. -/
def allApart : List (Nat × Nat) → Bool
  | [] => true
  | a :: t => t.all (areasApart a) && allApart t

/-- The fusion output buffers (R228). -/
def Dev.outArea (d : Dev) : Nat × Nat := (d.rd FUS.OUT_BASE * 4096, if d.rd FUS.OUT_BASE = 0 then 0 else 4 * 0x81000)

/-- The camera buffers lie in DRAM, apart from one another, from the Brine region, the coverage map and the fusion output buffers,
and take at most 1 GiB (R254). -/
def Dev.buffersFit (d : Dev) : Bool :=
  let bs := d.bufferAreas
  let other := [d.brineArea, d.mapArea, d.outArea].filter fun a => decide (0 < a.2)
  allApart bs && bs.all (fun b => decide (dramBase ≤ b.1 ∧ b.1 + b.2 ≤ dramEnd) && other.all (areasApart b))
  && decide ((bs.map fun b => b.2).foldl (· + ·) 0 ≤ 2 ^ 30)

/-- The Brine region holds at most 16 Mi entries (R381). -/
def Dev.brineFits (d : Dev) : Bool := decide (((List.range 64).map d.brine).foldl (· + ·) 0 ≤ 2 ^ 24)

/-- Each built load switch is of the kind R279 makes it, heavy LS0–LS15, and stands on the power input that feeds it: PWR-B for LS8–LS15
and LS40–LS63, else PWR-A (Table 1.9). -/
def Dev.inputsFit (d : Dev) : Bool :=
  (List.range 64).all fun n => !d.flag LSW.CH_BUILT n || decide (d.flag LSW.CH_INPUT n = decide ((8 ≤ n ∧ n < 16) ∨ 40 ≤ n) ∧ d.flag LSW.CH_HEAVY n = decide (n < 16))

/-- The implements' sections are numbered consecutively below 4,096, none belongs to two, every numbered one has its record and every
record its number; a drawbar is 500 to 20,000 mm long (R127, Tables 5.1 and 5.2). -/
def Dev.implementsFit (d : Dev) : Bool :=
  let secs := d.sections
  let recs := (d.itemsOf 7).filterMap fun it => match it with | .section_ s i _ _ _ _ _ => some (s, i) | _ => none
  d.impls.all (fun i => decide (d.rd LAH.IMP_FIRST_SEC i + d.rd LAH.IMP_SEC_COUNT i ≤ 4096)
      && (!d.trailed i || decide (500 ≤ (d.implRec i).2.2 ∧ (d.implRec i).2.2 ≤ 20000)))
  && decide (secs.Nodup) && decide (secs.length = recs.length) && recs.all fun p => (d.sectionsOf p.2).contains p.1

/-- The classes' reservations sum to at most the 4,096 slots (R114). -/
def Dev.slotsReserved (d : Dev) : Bool := decide ((d.reservations.map fun p => p.2).foldl (· + ·) 0 ≤ 4096)

/-- Everything that makes a structure RESOURCE where it fails. -/
def Dev.structFits (d : Dev) : Bool :=
  d.inputsFit && d.slotsReserved && d.implementsFit && d.items.all BuildItem.fits && d.templates.all d.templateFits && !d.loopTooMuch && (List.range 8).all d.matrixFits && d.camerasFit && d.buffersFit && d.brineFits

end Sys2Proof.Machine
end

