-- ==== Sys2Proof/Machine/Cfg.lean ====
section
/-! DEFINITION. Machine/Cfg.lean: the loader: loads, static builds, live swaps, the image store and P-register writes of a load
(chapter 3, R77 to R86, R470, R471, R474). -/

namespace Sys2Proof.Machine

/-! Results and records. -/

/-- One IMAGE record (Table 16.2). -/
def Dev.imageRecord (d : Dev) (id ver result region : Nat) : Dev :=
  d.record 5 0 0xFF 0 noRef (leBytes 4 id ++ leBytes 4 ver ++ [result, region])

/-- The records of a load command once LOAD_RESULT holds its final value (R474). -/
def Dev.loadRecords (d : Dev) (i : Image) (accepted : Bool) (result : Nat) : Dev :=
  if i.kind ≠ 1 then d.imageRecord i.imageId i.imageVer result 0xFF
  else if accepted then forAll i.numbers (fun r d => d.imageRecord i.imageId i.imageVer result r) d
  else d.imageRecord i.imageId i.imageVer result 0xFE

/-- A refused load changes nothing but LOAD_RESULT, FAIL_OFFSET and the recorder (R77). -/
def Dev.loadRefused (d : Dev) (i : Image) (result offset : Nat) : Dev :=
  ((d.wr CFG.LOAD_RESULT result).wr CFG.FAIL_OFFSET offset).loadRecords i false result

/-! Checks (R77, Table 3.4). -/

/-- The structure as it would stand with every region of the image in force: live ones too. -/
def Dev.prospect (d : Dev) (i : Image) : Dev :=
  let cs := i.regions.map Region.content
  let stat := cs.filter fun c => i.kind = 0 || !regionLive c.no
  let live := cs.filter fun c => i.kind ≠ 0 && regionLive c.no
  let d := if stat = [] then d else d.rebuild stat
  forAll live (fun c d => d.liveContent c) d

/-- A check that fails where `b` holds: LOAD_RESULT and FAIL_OFFSET. -/
def refuseIf (b : Bool) (result offset : Nat) : Option (Nat × Nat) := if b then some (result, offset) else none

/-- The entry of the first static region an image carries. -/
def Image.staticEntry (i : Image) : Nat := ((i.regions.find? fun r => !regionLive r.no).map fun r => 16 + r.no).getD 0

/-- Steps 3 and 4 of Table 3.4: the first failure, with FAIL_OFFSET. `stored` marks the build of the image store, which is no
load under R74 and R76. -/
def Dev.imageFault (d : Dev) (i : Image) (stored : Bool) : Option (Nat × Nat) :=
  refuseIf (!d.keyAdmitted i stored) lrKey 0
  <|> refuseIf (!i.sigOk) lrSignature 0
  <|> i.tableFail.map (fun o => (lrCrc, o))
  <|> i.crcFail.map (fun o => (lrCrc, o))
  <|> refuseIf (decide (i.kind = 0 ∧ i.regionMask ≠ 0xFFFF ∨ i.regions = [])) lrFormat 0
  <|> refuseIf (decide (i.kind = 1 ∧ i.baseHash ≠ d.hashVal)) lrBase 0
  <|> refuseIf (!stored && !d.loadModeOk i) lrMode i.staticEntry
  <|> (d.formFail i).map (fun o => (lrFormat, o))
  <|> i.elementFail.map (fun o => (lrResource, o))
  <|> refuseIf (!(d.prospect i).structFormat) lrFormat 16
  <|> refuseIf (!(d.prospect i).structFits) lrResource 16
  <|> refuseIf (!stored && !d.enrolOk i) lrKey 0

/-- Steps 2 to 5 of Table 3.4: the refusal, if there is one. -/
def Dev.loadFault (d : Dev) (i : Image) : Option (Nat × Nat) :=
  refuseIf (!i.headerOk (d.rd CFG.LEN)) lrFormat 0
  <|> d.imageFault i false
  <|> refuseIf (i.numbers.any fun r => (d.rd CFG.PEND).testBit r) lrBusy 0

/-! Records that wait for the final LOAD_RESULT (R474). -/

/-- A part of an accepted load is done: its records are stored once nothing of it is left. -/
def Dev.loadPart (d : Dev) (part : Nat) (result : Option Nat) : Dev :=
  let step (u : Unrecorded) : Unrecorded :=
    if u.left.contains part then { u with left := u.left.filter (· ≠ part), result := result.getD u.result } else u
  let us := d.cfg.unrecorded.map step
  let d := { d with cfg := { d.cfg with unrecorded := us.filter fun u => decide (u.left ≠ []) } }
  forAll (us.filter fun u => decide (u.left = [])) (fun u d => d.loadRecords u.image true u.result) d

/-- The part of a load that its static build is. -/
def buildPart : Nat := 16

/-! Acceptance (step 6). -/

/-- A live region waits in its shadow copy (R78). -/
def Dev.shadowRegion (d : Dev) (i : Image) (persist : Bool) (r : Region) : Dev :=
  { d with cfg := { d.cfg with swaps := tset r.no ⟨r.content, d.now, persist, i⟩ d.cfg.swaps } }.wrBit
    CFG.PEND r.no true

/-- Stage 1 of R79: the gates close, the blocks are disabled; open groups that a CR13 or a full load ends are aborted, and arms with
remote actions are refused (R471). -/
def Dev.buildBegin (d : Dev) (i : Image) (persist : Bool) (cs : List Content) : Dev :=
  let d := { d with cfg := { d.cfg with building := some ⟨i, persist, cs⟩ } }.wr CFG.LOAD_STATE 2
  let net := cs.any fun c => decide (c.no = 13)
  let d := if i.kind = 0 then d.grpAbortAll (fun _ _ => true) 13 else if net then d.sluNetReload else d
  (if net then d.wr SLU.CARSIL_READY 0 else d).refreshGates

/-- An accepted image: live regions into their shadow copies, static ones (every one of a full image) into a build (R78, R79). A load
with nothing left to come has its records at once (R474). -/
def Dev.loadAccept (d : Dev) (i : Image) (persist : Bool) : Dev :=
  let d := (((d.wr CFG.ID i.imageId).wr CFG.VER i.imageVer).wr CFG.FAIL_OFFSET 0).wr CFG.LOAD_RESULT 0
  let live := if i.kind = 0 then [] else i.regions.filter fun r => regionLive r.no
  let stat := if i.kind = 0 then i.regions else i.regions.filter fun r => !regionLive r.no
  let d := forAll live (fun r d => d.shadowRegion i persist r) d
  let left := (if persist then live.map fun r => r.no else []) ++ (if stat = [] then [] else [buildPart])
  let d := if left = [] then d.loadRecords i true lrOk
    else { d with cfg := { d.cfg with unrecorded := d.cfg.unrecorded ++ [⟨i, left, lrOk⟩] } }
  if stat = [] then d.wr CFG.LOAD_RESULT lrOk else d.buildBegin i persist (stat.map Region.content)

/-- What the checks of Table 3.4 lead to: refusal or acceptance (R77, R85). -/
def Dev.load (d : Dev) (i : Image) (persist : Bool) : Dev :=
  match d.loadFault i with
  | some (r, o) => d.loadRefused i r o
  | none => d.loadAccept i persist

/-- The longest time Table 3.4 gives the checks, ns: 10 µs for a bad header; else 5 ms, twice 5 ns a byte, and the shadow copies of the
live regions (assumption 18). -/
def Dev.checkTime (d : Dev) (i : Image) : Nat :=
  if !i.headerOk (d.rd CFG.LEN) then 10000
  else 5 * ms + 10 * i.totalLen + ceilDiv (ms * ((i.regions.filter fun r => regionLive r.no && i.kind ≠ 0).map fun r => r.length).sum) 1048576

/-- The checks of the load in progress are over: LOAD_STATE leaves CHECKING (R77). -/
def Dev.loadChecked (d : Dev) : Dev :=
  match d.cfg.checking with
  | none => d
  | some c => ({ d with cfg := { d.cfg with checking := none } }.wr CFG.LOAD_STATE 0).load c.image c.persist

/-- The checks are over once their time has passed. -/
def Dev.loadDue (d : Dev) : Dev :=
  match d.cfg.checking with
  | some c => if c.doneAt ≤ d.now then d.loadChecked else d
  | none => d

/-- Time passes to the end of the checks in progress. -/
def Dev.loadWait (d : Dev) : Dev :=
  match d.cfg.checking with
  | some c => (d.waitUntil c.doneAt).loadChecked
  | none => d

/-- A CFG_LOAD_CMD on an image: BUSY while another is checked or built, else LOAD_STATE goes to CHECKING (step 1 of Table 3.4, R82). -/
def Dev.loadStart (d : Dev) (i : Image) (persist : Bool) : Dev :=
  if d.rd CFG.LOAD_STATE ≠ 0 then d.loadRefused i lrBusy 0
  else { d with cfg := { d.cfg with checking := some ⟨i, persist, d.now + d.checkTime i⟩ } }.wr CFG.LOAD_STATE 1

/-- LOAD: CFG_LOAD_CMD value 1, on the image that stands at CFG_LOAD_ADDR. -/
def loadImage (x : Reading) (m : Memory) (d : Dev) : Dev := d.loadStart (d.imageAt m x) false

/-- LOAD_AND_PERSIST: CFG_LOAD_CMD value 2. -/
def loadAndPersist (x : Reading) (m : Memory) (d : Dev) : Dev := d.loadStart (d.imageAt m x) true

/-- The beginning of every command: what the last one sent is gone, SYS_RTC and REC_OPS are shown, the recorder's stores have completed, time-driven recoveries are taken, the checks of a
load end. -/
def Dev.begin (d : Dev) : Dev := { d with raised := [], out := [] }.rtcShow.opsShow.storesNow.eraseDue.windowDue.dueRecoveries.settle.loadDue

/-! The end of a static build (R79). -/

/-- The image-key slots KEY-ENROL names take their digests: the island writes their P-registers (R76, R93). -/
def Dev.enrolKeys (d : Dev) (i : Image) : Dev :=
  forAll i.enrols (fun e d => forAll (List.range 12) (fun k d =>
    d.pregStore (4032 + 12 * e.1 + k) (leWord k (leBytes 48 e.2))) d) d

/-- What LOAD_RESULT reads at the end of an accepted build (R85). -/
def buildResult (i : Image) (persist flashOk : Bool) : Nat :=
  if !persist then lrOk else if i.kind = 1 then lrStaticOnly else if flashOk then lrOk else lrPersist

/-- A full image replaces the older copy of the stored one, and every patch is deleted (R84, R85). -/
def Dev.storeFull (d : Dev) (i : Image) : Dev := { d with cfg := { d.cfg with full := i :: d.cfg.full.take 1, patches := [] } }

/-- A build is done: no region of it stays unbuilt, and IMAGE_VALID reads 1 once none does (R80). -/
def Dev.builtNow (d : Dev) (cs : List Content) : Dev :=
  let left := d.cfg.unbuilt.filter fun r => !cs.any fun c => decide (c.no = r)
  let d := { d with cfg := { d.cfg with building := none, unbuilt := left } }
  if left = [] then (d.wr SYS.IMAGE_VALID 1).wr CFG.IMAGE_VALID 1 else d

/-- STATIC_BUILD_COMPLETE: stage 4 of R79: the new structure takes effect whole. -/
def staticBuildComplete (flashOk : Bool) (m : Memory) (d : Dev) : Dev × Memory :=
  let d := d.loadWait
  match d.cfg.building with
  | none => (d, m)
  | some b =>
    let i := b.image
    let full := decide (i.kind = 0)
    let r := d.rebuildAll b.contents m
    let d := r.1.builtNow b.contents
    let d := if full then ((d.headerIn i).enrolKeys i).recLatch else d
    let d := if full ∧ b.persist ∧ flashOk then d.storeFull i else d
    let res := buildResult i b.persist flashOk
    (((d.wr CFG.LOAD_STATE 0).wr CFG.LOAD_RESULT res).loadPart buildPart (some res) |>.note .gates, r.2)

/-- STATIC_LOAD_ABANDON: a static load in progress is abandoned: its regions stay unbuilt (R46, R80). -/
def Dev.loadAbandon (d : Dev) : Dev :=
  match d.cfg.building with
  | none => d
  | some b =>
    let rs := b.contents.map fun c => c.no
    let d := { d with
      built := d.built.filter fun p => !rs.contains p.1
      cfg := { d.cfg with building := none, unbuilt := (d.cfg.unbuilt ++ rs).eraseDups } }
    let d := ((d.wr CFG.LOAD_STATE 0).wr CFG.LOAD_RESULT lrAbandoned).wr SYS.IMAGE_VALID 0 |>.wr CFG.IMAGE_VALID 0
    (d.loadPart buildPart (some lrAbandoned)).refreshGates

/-- Checks in progress and live regions that wait for their swap are lost with the DRAM they stand in (R52, R84). -/
def Dev.loaderStops (d : Dev) : Dev :=
  ({ d with cfg := { d.cfg with checking := none, unrecorded := [], swaps := [] } }.wr CFG.LOAD_STATE 0).wr CFG.PEND 0

/-! Live regions (R78, R81, R83). -/

/-- The field values of template `t` among those an image gives. -/
def tplSets (l : List (Nat × Nat)) (t : Nat) : List (Nat × Nat) :=
  l.filter fun e => match fieldOfKey e.1 with | some (f, i, _) => decide (f.n1 = 256 ∧ i = t) | none => false

/-- The templates whose content, actions or fields, a CR8 load changes (Table 3.5). -/
def Dev.changedTemplates (d : Dev) (c : Content) : List Nat :=
  let of (l : List BuildItem) (t : Nat) : List BuildItem := l.filter fun it => match it with
    | .template k _ => decide (k = t) | .tplEntry k _ _ => decide (k = t) | _ => false
  (List.range 256).filter fun t => decide (of (d.itemsOf 8) t ≠ of c.items t ∨ tplSets (tget 8 d.cfg.sets) t ≠ tplSets c.sets t)

/-- A CR8 swap waits while a template it changes has a group between prepare and outcome (Table 3.5). -/
def Dev.swapHeld (d : Dev) (c : Content) : Bool :=
  decide (c.no = 8) && (d.changedTemplates c).any fun t => d.slOpen.contains t && decide (slPreparing ≤ d.rd SLU.T_STATE t)

/-- What CR7 says of an implement: its items and its delays (R127, Table 5.5). -/
def Dev.implKey (d : Dev) (i : Nat) : List BuildItem × List Nat :=
  let its := (d.itemsOf 7).filter fun it => match it with
    | .implement k _ _ _ => decide (k = i) | .section_ _ k _ _ _ _ _ => decide (k = i) | _ => false
  let secs := (d.itemsOf 7).filterMap fun it => match it with | .section_ s k _ _ _ _ _ => if k = i then some s else none | _ => none
  (its, d.rd LAH.IMP_TYPE i :: d.rd LAH.IMP_DELAY_RATE_MS i
    :: secs.flatMap fun s => [d.rd LAH.SEC_DELAY_ON_MS s, d.rd LAH.SEC_DELAY_OFF_MS s])

/-- The content of a live region replaces the running one (R78, R470, R475), and its elements take it up (Table 3.5). -/
def Dev.swapIn (d : Dev) (c : Content) : Dev :=
  match c.no with
  | 7 =>
    let was := (List.range 8).map d.implKey
    let on := d.rd LAH.MASTER
    let d := d.liveContent c
    let changed := (List.range 8).filter fun i => decide (was.getD i ([], []) ≠ d.implKey i)
    let fall := (maskBits 8 on).filter fun i => !(d.rd LAH.MASTER).testBit i
    let d := if changed = [] then d else d.floodTrigger 6 changed []
    if fall = [] then d else d.floodTrigger 9 fall []
  | 8 =>
    let e := d.liveContent c
    let d := (d.sluReloaded fun t => d.flag SLU.T_BUILT t && !e.flag SLU.T_BUILT t).liveContent c
    forAll d.slOpen (fun t d => d.rearm t) d
  | 10 => Dev.ctlSwap d (d.liveContent c)
  | 12 => (d.liveContent c).ispSwap
  | _ => d.liveContent c

/-- What a swap that changes a block's enable field leads to, as a write of it would (R156, R178, R206, R287); `was` is the device before. -/
def Dev.enableSwap (d was : Dev) (m : Memory) : Dev :=
  let turn (f : Fld) (g : Bool → Dev → Dev) (d : Dev) : Dev :=
    if was.flag f = d.flag f then d else g (d.flag f) (d.wr f (bit (was.flag f)))
  let d := turn LAH.EN (fun on d => if on then d.wr LAH.EN 1 else lahDisable m d) d
  let d := turn SLU.EN (fun on d => if on then d.wr SLU.EN 1 else sluiceDisable d) d
  let d := turn FUS.EN fusEnable d
  turn VDR.EN (fun on d => if on then d.wr VDR.EN 1 else vdrDisable d) d

/-- The same of the image pipeline: EN and each camera's EN close the frames in progress, or restart FRAME_NO (R241, R244). -/
def Dev.cameraSwap (d was : Dev) (m : Memory) : Dev × Memory :=
  let a := if was.flag ISP.EN = d.flag ISP.EN then (d, m) else ispEnable (d.flag ISP.EN) m d
  (List.range 8).foldl (fun a c =>
    if was.flag ISP.C_EN c = d.flag ISP.C_EN c then a else cameraEnable c (d.flag ISP.C_EN c) a.2 (a.1.wr ISP.C_EN (bit (was.flag ISP.C_EN c)) c)) a

/-- `swapIn`, with the limits of the map kept and the map cleared where a load moves it (R134, R156). -/
def Dev.swapAll (d : Dev) (c : Content) (m : Memory) : Dev × Memory :=
  let was := d.mapKey
  let a := ((d.swapIn c).enableSwap d m).mapLimits.cameraSwap d m
  if a.1.mapKey = was then a else a.1.mapClear a.2

/-- A swapped region is persisted as that region's patch, over the older copy, with the BASE_HASH of the image that carried it (R84, R85);
a failure shows in LOAD_RESULT. -/
def Dev.storePatch (d : Dev) (r : Nat) (s : Swap) (flashOk : Bool) : Dev :=
  if !s.persist then d
  else if flashOk then
    { d with cfg := { d.cfg with patches := tset r (s :: (tget r d.cfg.patches).take 1) d.cfg.patches } }.loadPart r none
  else (d.wr CFG.LOAD_RESULT lrPersist).loadPart r (some lrPersist)

/-- The region no longer waits. -/
def Dev.swapGone (d : Dev) (r : Nat) : Dev := { d with cfg := { d.cfg with swaps := tdel r d.cfg.swaps } }.wrBit CFG.PEND r false

/-- LIVE_REGION_SWAP: at the swap instant of Table 3.5; a held CR8 waits on. -/
def liveRegionSwap (r : Nat) (flashOk : Bool) (m : Memory) (d : Dev) : Dev × Memory :=
  let d := d.loadWait
  match tget? r d.cfg.swaps with
  | none => (d, m)
  | some s =>
    if d.swapHeld s.content then (d, m)
    else
      let d := if r = 8 ∨ !d.running then d else d.waitMt d.tmb.nextTick
      let p := (d.swapGone r).swapAll s.content m
      ((p.1.rehash.storePatch r s flashOk).note .gates, p.2)

/-- CFG_LIVE_TMO as it acts, ns. -/
def Dev.liveTmo (d : Dev) : Nat := clampN 1 60 (d.rd CFG.TMO_S) * second

/-- LIVE_SWAP_TIMEOUT (R81, R474). -/
def liveSwapTimeout (r : Nat) (d : Dev) : Dev :=
  let d := d.loadWait
  match tget? r d.cfg.swaps with
  | none => d
  | some s =>
    if !d.swapHeld s.content then d
    else
      let d := ((d.waitUntil (s.since + d.liveTmo)).swapGone r).wrBit CFG.TMO r true
      (d.imageRecord s.image.imageId s.image.imageVer 0xF0 r).loadPart r none

/-! The image store at start-up (R86, step 5 of Table 2.7). -/

/-- A stored patch fails its checks (R86): key, signature, the region's CRCs, BASE_HASH, its entries and its structure. -/
def Dev.patchFails (d : Dev) (s : Swap) : Bool :=
  let i := s.image
  let e := d.liveContent s.content
  !d.keyAdmitted i true || !i.sigOk || i.tableFail.isSome || i.crcFail.isSome || decide (i.baseHash ≠ d.hashVal)
  || (d.formFail { i with regions := i.regions.filter fun r => decide (r.no = s.content.no) }).isSome
  || i.elementFail.isSome || !e.structFormat || !e.structFits

/-- The newer copy of a patch that passes its checks is applied; a patch without one is dropped (R84, R86, R474). -/
def Dev.applyPatch (p : Nat × List Swap) (s : Dev × Memory) : Dev × Memory :=
  let d := s.1
  let m := s.2
  match p.2.find? fun c => !d.patchFails c with
  | some c =>
    let was := d.mapKey
    let d := ((d.liveContent c.content).freshRegion (if p.1 = 12 then 12 else 99)).mapLimits
    let d := d.imageRecord c.image.imageId c.image.imageVer lrOk p.1
    if d.mapKey = was then (d, m) else d.mapClear m
  | none =>
    let i := (p.2.headD default).image
    (({ d with cfg := { d.cfg with patches := tdel p.1 d.cfg.patches } }.wr CFG.PATCH_DROPPED 1).imageRecord i.imageId i.imageVer 0xF1 p.1, m)

/-- Why a stored full image cannot be built: LOAD_RESULT. -/
def Dev.storedFault (d : Dev) (i : Image) : Option Nat :=
  if !i.headerOk i.totalLen then some lrFormat else (d.imageFault i true).map fun p => p.1

/-- IMAGE_STORE_BUILD: the stored full image, its newer copy that passes its checks, then the patches; without one no valid image
exists (R84, R86). -/
def Dev.buildStore (d : Dev) (m : Memory) : Dev × Memory :=
  match d.cfg.full.find? fun i => (d.storedFault i).isNone with
  | none =>
    match d.cfg.full.head? with
    | none => (d, m)
    | some i => (d.imageRecord i.imageId i.imageVer ((d.storedFault i).getD lrFormat) 0xFF, m)
  | some i =>
    let r := d.rebuildAll (i.regions.map Region.content) m
    let d := (((r.1.headerIn i).recLatch).wr CFG.ID i.imageId).wr CFG.VER i.imageVer
    let d := d.imageRecord i.imageId i.imageVer lrOk 0xFF
    let p := forAll d.cfg.patches Dev.applyPatch (d, r.2)
    (p.1.rehash, p.2)

end Sys2Proof.Machine
end

