-- ==== Sys2Proof/Machine/Slots.lean ====
section
/-! DEFINITION. Machine/Slots.lean: tokens, firmware images, the slot control word and slot selection at boot (R404, R405, R417 to R419,
R423, R425, R427). -/

namespace Sys2Proof.Machine

/-! Tokens (R404, R426). -/

/-- PUBKEY of the 192-byte token at an address (R404). -/
def tokenPub (m : Memory) (a : Nat) : List Nat := memReadBytes m a 96

/-- The token's key is the one KEY names: the key of an image-key slot, or the factory key for 15 (R404). -/
def Dev.tokenKey (d : Dev) (m : Memory) (a key : Nat) : Bool :=
  if key < 4 then decide (d.keySlot key ≠ 0 ∧ Config.sha384 (tokenPub m a) = d.keySlot key)
  else if key = 15 then decide (tokenPub m a = Config.factoryKey)
  else false

/-- The signature of the token at an address signs the challenge, ACTION, KEY and 14 zero bytes; `k` is the number its signer used (R404,
R426). -/
def tokenSigned (m : Memory) (a : Nat) (challenge : Option (List Nat × Nat)) (action key k : Nat) : Bool :=
  match challenge with
  | some (c, _) => signedBy (tokenPub m a) (memReadBytes m (a + 96) 96) (c ++ [action, key] ++ List.replicate 14 0) k
  | none => false

/-- A clear request with the token at REC_TOKEN_ADDR; `k` is the number its signer used (R404, R405). -/
def Dev.clearToken (d : Dev) (action key k : Nat) (keyFits : Bool) (m : Memory) : Dev :=
  let a := 16 * d.rd REC.TOKEN_ADDR16
  clearRequest action key (d.coreMayWrite a 192) (keyFits && d.tokenKey m a key) (tokenSigned m a d.recd.challenge action key k) d

/-- CLEAR_TIDE: a token of an image-key slot admits it (R404, R405). -/
def clearTide (key k : Nat) (m : Memory) (d : Dev) : Dev := d.clearToken 2 key k (decide (key < 4)) m

/-- CLEAR_ALL: a token of the factory key admits it (R404, R405). -/
def clearAll (key k : Nat) (m : Memory) (d : Dev) : Dev := d.clearToken 3 key k (decide (key = 15)) m

/-! Firmware images (R417). -/

/-- Fields of a firmware image's header (Table 17.1). -/
def fwVer (bs : List Nat) : Nat := bytesAt bs 8 4
def fwTotal (bs : List Nat) : Nat := bytesAt bs 0xC 4
def fwIslandLen (bs : List Nat) : Nat := bytesAt bs 0x10 4
def fwHostLen (bs : List Nat) : Nat := bytesAt bs 0x14 4
def fwHostKey (bs : List Nat) : Nat := bytesAt bs 0x18 1

/-- The ISLAND signature block follows the header and the ISLAND body; the HOST body follows it, and the HOST block that. -/
def fwIslandBlock (bs : List Nat) : List Nat := bs.drop (0x80 + fwIslandLen bs)
def fwHostBody (bs : List Nat) : List Nat := (bs.drop (0x80 + fwIslandLen bs + 208)).take (fwHostLen bs)
def fwHostBlock (bs : List Nat) : List Nat := bs.drop (0x80 + fwIslandLen bs + 208 + fwHostLen bs)

/-- PUBKEY and the signature of a signature block (R70). -/
def blockPub (block : List Nat) : List Nat := block.take 96
def blockSig (block : List Nat) : List Nat := (block.drop 96).take 96

/-- What STAGE checks of the header: MAGIC, FORMAT, HDR_LEN, HDR_CRC, and TOTAL_LEN against the length given (R417, R421). -/
def fwHeaderOk (bs : List Nat) (len : Nat) : Bool :=
  decide (bytesAt bs 0 4 = 0x4957464E ∧ bytesAt bs 4 2 = 1 ∧ bytesAt bs 6 2 = 128 ∧ bytesAt bs 0x7C 4 = crc32c (bs.take 0x7C)
    ∧ fwTotal bs = len ∧ len ≤ 0x1000000)

/-- The lengths of the parts agree with TOTAL_LEN (Table 17.1). -/
def fwPartsOk (bs : List Nat) : Bool :=
  decide (fwIslandLen bs % 16 = 0 ∧ fwHostLen bs % 16 = 0 ∧ fwTotal bs = 0x80 + fwIslandLen bs + 208 + fwHostLen bs + 208
    ∧ bs.length = fwTotal bs)

/-- The HOST key is admitted as R70 gives for HOST_KEY (Table 17.1). -/
def Dev.hostKeyOk (d : Dev) (bs : List Nat) : Bool :=
  let pub := blockPub (fwHostBlock bs)
  if fwHostKey bs < 4 then decide (d.keySlot (fwHostKey bs) ≠ 0 ∧ Config.sha384 pub = d.keySlot (fwHostKey bs))
  else decide (fwHostKey bs = 0xFF ∧ pub = Config.factoryKey)

/-- The ISLAND part is signed by the factory key, over the header and its body, and the HOST part over the header and its own; `k1` and
`k2` are the numbers the signers used (Table 17.1). -/
def fwSigned (s : FwSlot) : Bool :=
  let head := s.data.take 0x80
  let a := fwIslandBlock s.data
  let b := fwHostBlock s.data
  decide (blockPub a = Config.factoryKey) && signedBy (blockPub a) (blockSig a) (s.data.take (0x80 + fwIslandLen s.data)) s.k1
  && signedBy (blockPub b) (blockSig b) (head ++ fwHostBody s.data) s.k2

/-- Verification of an image: the header, both signatures and both digests (R423). -/
def Dev.fwPasses (d : Dev) (s : FwSlot) : Bool :=
  fwHeaderOk s.data (fwTotal s.data) && fwPartsOk s.data && fwSigned s && d.hostKeyOk s.data

/-! Slots (R418, R419). -/

/-- The STATE and FW_VER fields of slot `n`. -/
def slotField (n : Nat) : Fld := if n = 0 then UPD.STATE_A else UPD.STATE_B
def verField (n : Nat) : Fld := if n = 0 then UPD.FW_VER_A else UPD.FW_VER_B

/-- The state of slot `n` (Table 17.3). -/
def Dev.slotState (d : Dev) (n : Nat) : Nat := d.rd (slotField n)

/-- The content of slot `n`. -/
def Dev.fwSlot (d : Dev) (n : Nat) : FwSlot := tget n d.upd.slots

/-- FW_VER of slot `n`; 0 when it is EMPTY (R432). -/
def Dev.slotVer (d : Dev) (n : Nat) : Nat := if d.slotState n = 0 then 0 else fwVer (d.fwSlot n).data

/-- A P-register of the island is brought to a value; an equal value is not written. -/
def Dev.islandPreg (d : Dev) (n v : Nat) : Dev := if d.rd PREG.P n = v then d else d.pregStore n v

/-- The slot control word and the owner lock in their P-registers, and what UPD shows of them (Table 17.2, R432). -/
def Dev.slotKeep (d : Dev) : Dev :=
  let trial := decide (d.slotState 0 = 4 ∨ d.slotState 1 = 4)
  let d := ((d.wr UPD.TRIAL (bit trial)).wr UPD.FW_VER_A (d.slotVer 0)).wr UPD.FW_VER_B (d.slotVer 1)
  let ctl := d.rd UPD.ACTIVE + 2 * d.rd UPD.PENDING + 4 * bit trial + 8 * d.rd UPD.LATCH + 16 * d.slotState 0 + 256 * d.slotState 1
  (d.islandPreg 4093 ctl).islandPreg 4092 (d.rd UPD.OWNER_LOCKED + 2 * d.rd UPD.LOCK_SLOT)

/-- A slot takes a state. -/
def Dev.slotTo (d : Dev) (n st : Nat) : Dev := d.wr (slotField n) st

/-- A slot's content. -/
def Dev.setSlot (d : Dev) (n : Nat) (s : FwSlot) : Dev := { d with upd := { d.upd with slots := tset n s d.upd.slots } }

/-- The slot that is not ACTIVE (R421). -/
def Dev.otherSlot (d : Dev) : Nat := 1 - d.rd UPD.ACTIVE

/-- DATA of an UPDATE record (R427). -/
def Dev.updateData (d : Dev) (code slot result : Nat) : List Nat := [code, slot, result] ++ leBytes 4 (d.slotVer slot)

/-- An UPDATE record (R427). -/
def Dev.updateRecord (d : Dev) (code slot result : Nat) : Dev := d.record 6 0 0xFF 0 noRef (d.updateData code slot result)

/-- A record that is formed when the Shoit firmware next runs (R58, R427, R472). -/
def Dev.owe (d : Dev) (kind code : Nat) (data : List Nat) : Dev :=
  { d with sys := { d.sys with owed := d.sys.owed ++ [(kind, code, data)] } }

/-- The records owed are formed: all of them, or those of one kind. -/
def Dev.formOwed (d : Dev) (p : Nat → Bool) : Dev :=
  let l := d.sys.owed.filter fun o => p o.1
  forAll l (fun o d => d.record o.1 o.2.1 0xFF 0 noRef o.2.2)
    { d with sys := { d.sys with owed := d.sys.owed.filter fun o => !p o.1 } }

/-- A MODE record for a change made while the Shoit firmware does not run (R472). -/
def Dev.oweMode (d : Dev) (was now why : Nat) : Dev := d.owe 2 now [was, now, why]

/-! Boot selection (R423). -/

/-- A slot is verified; what its last verification gave is kept for HELLO (Table 17.7). -/
def Dev.verifySlot (d : Dev) (n : Nat) : Dev × Bool :=
  let ok := d.fwPasses (d.fwSlot n)
  ({ d with upd := { d.upd with passed := putBit n ok d.upd.passed } }, ok)

/-- Slot `n` runs (Table 17.5). -/
def Dev.runSlot (d : Dev) (n fallback : Nat) : Dev :=
  let d := ((d.wr SYS.SLOT n).wr SYS.FALLBACK fallback).wr UPD.FW_VER_RUN (fwVer (d.fwSlot n).data)
  let d := { d with upd := { d.upd with fallback := false } }
  let d := if fallback = 1 then (d.cause UPD.EVT 3).owe 6 0 (d.updateData 6 n 1) else d
  d.slotKeep

/-- Neither slot runs: RECOVERY, with CAUSE of HELLO (Table 17.5, Table 17.7). -/
def Dev.noSlot (d : Dev) (why : Nat) : Dev :=
  ({ d with upd := { d.upd with why := why } }.slotKeep).owe 6 0 (d.updateData 8 (d.rd UPD.ACTIVE) why)

/-- Steps 3 to 5 of Table 17.5; the answer says whether a slot runs. -/
def Dev.selectActive (d : Dev) (fallback : Nat) : Dev × Bool :=
  let a := d.rd UPD.ACTIVE
  let (d, ok) := d.verifySlot a
  if ok then (d.runSlot a fallback, true)
  else
    let d := d.slotTo a 5
    let o := 1 - a
    if d.slotState o = 2 ∨ d.slotState o = 3 ∨ d.slotState o = 4 then
      let (d, ok) := d.verifySlot o
      if ok then (((d.slotTo o 3).wr UPD.ACTIVE o).runSlot o 1, true) else (d.noSlot 1, false)
    else (d.noSlot 1, false)

/-- SLOT_SELECTION (Table 17.5). -/
def Dev.slotSelect (d : Dev) : Dev × Bool :=
  if d.flag UPD.LATCH then (d.noSlot 2, false)
  else if d.flag UPD.PENDING then
    let d := d.wr UPD.PENDING 0
    let o := d.otherSlot
    let (d, ok) := d.verifySlot o
    if ok then (((d.slotTo o 4).wr UPD.ACTIVE o).runSlot o 0 |> fun d => d.owe 6 0 (d.updateData 4 o 1), true)
    else (d.slotTo o 5).selectActive 1
  else d.selectActive (bit d.upd.fallback)

/-- A slot is running in TRIAL (R425). -/
def Dev.onTrial (d : Dev) : Bool := decide (d.slotState (d.rd UPD.ACTIVE) = 4)

/-- TRIAL_FAIL: the slot is FAILED and ACTIVE points back; the cause in the record is a free value (R425, R427). -/
def Dev.trialFail (d : Dev) : Dev :=
  let a := d.rd UPD.ACTIVE
  let why := d.free % 256
  let d := ((d.freeTaken.slotTo a 5).wr UPD.ACTIVE (1 - a)).cause UPD.EVT 4
  ({ d with upd := { d.upd with fallback := true } }.slotKeep).owe 6 0 (d.updateData 7 a why)

end Sys2Proof.Machine
end

