-- ==== Sys2Proof/Machine/Thm.lean ====
section
/-! DEFINITION. Machine/Thm.lean: thermal supervision: sensor checks, throttling, critical reactions (R407 to R415). -/

namespace Sys2Proof.Machine

/-- The sensors of a group: first, count (Table 16.3). -/
def thmGroup (g : Nat) : Nat × Nat := match g with | 0 => (0, 8) | 1 => (8, 4) | 2 => (12, 8) | _ => (20, 4)

/-- The previous and the next sensor of a group, taken in a ring (R407). -/
def thmPrev (g i : Nat) : Nat := let (a, n) := thmGroup g; a + (i - a + n - 1) % n
def thmNext (g i : Nat) : Nat := let (a, n) := thmGroup g; a + (i - a + 1) % n

/-- One 0.1 °C in the unit the checks reckon in: 2^-16 of 0.1 °C, so the load fraction of 16 bits multiplies exactly. -/
def thmUnit : Int := 65536

/-- The estimate E(i, prev), or E(i, next), with the load fraction in 2^-16 (R407). -/
def Dev.thmEst (d : Dev) (ts : List (Nat × Int)) (load : Nat) (g i : Nat) (next : Bool) : Int :=
  let j := if next then thmNext g i else thmPrev g i
  let a := if next then d.rdS THM.A_NEXT i else d.rdS THM.A_PREV i
  let b := if next then d.rdS THM.B_NEXT i else d.rdS THM.B_PREV i
  (((tget? j ts).getD 0) + a) * thmUnit + b * load

/-- Twice dev(i) (R409). -/
def Dev.thmDev (d : Dev) (ts : List (Nat × Int)) (load g i : Nat) : Int :=
  2 * ((tget? i ts).getD 0) * thmUnit - d.thmEst ts load g i false - d.thmEst ts load g i true

/-- Twice the deviation against one neighbour only. -/
def Dev.thmDev1 (d : Dev) (ts : List (Nat × Int)) (load g i : Nat) (next : Bool) : Int :=
  2 * (((tget? i ts).getD 0) * thmUnit - d.thmEst ts load g i next)

/-- A reading outside -50.0 to 200.0 °C (R409). -/
def thmInvalid (t : Int) : Bool := decide (t < -500 ∨ 2000 < t)

/-- A deviation above 12.0 °C, as twice the deviation (R409). -/
def thmFar (dev2 : Int) : Bool := decide (2 * 120 * 65536 < dev2.natAbs)

/-- Puts a candidate behind those that are taken before it: invalid ones first, then by falling deviation. -/
def candInsert (c : Nat × Bool × Nat) : List (Nat × Bool × Nat) → List (Nat × Bool × Nat)
  | [] => [c]
  | x :: t => if (c.2.1 && !x.2.1) || (c.2.1 == x.2.1 && decide (x.2.2 < c.2.2)) then c :: x :: t else x :: candInsert c t

/-- The candidates of a sample in their order (R409): sensor, invalid, size of twice its deviation. -/
def Dev.thmCands (d : Dev) (ts : List (Nat × Int)) (load g : Nat) : List (Nat × Bool × Nat) :=
  let (a, n) := thmGroup g
  let all := (List.range n).map fun k =>
    let i := a + k
    (i, thmInvalid ((tget? i ts).getD 0), (d.thmDev ts load g i).natAbs)
  (all.filter fun c => c.2.1 || thmFar c.2.2).foldl (fun l c => candInsert c l) []

/-- Whether a candidate is still one against the neighbours not marked in this sample (R409). With both marked, or both SUSPECT, it
cannot be checked. -/
def Dev.thmStill (d : Dev) (ts : List (Nat × Int)) (load g : Nat) (marked : List Nat) (c : Nat × Bool × Nat) : Bool :=
  let i := c.1
  let p := marked.contains (thmPrev g i)
  let n := marked.contains (thmNext g i)
  let both := d.flag THM.SUSPECT (thmPrev g i) && d.flag THM.SUSPECT (thmNext g i)
  c.2.1 || (!both && (if p && n then false else if p then thmFar (d.thmDev1 ts load g i true)
    else if n then thmFar (d.thmDev1 ts load g i false) else true))

/-- The sensors marked SUSPECT in this sample (R409). -/
def Dev.thmMarked (d : Dev) (ts : List (Nat × Int)) (load g : Nat) : List Nat :=
  (d.thmCands ts load g).foldl (fun (m : List Nat) c => if d.thmStill ts load g m c then m ++ [c.1] else m) []

/-- THM_STAT [9:0] (Table 16.2). -/
def Dev.thmState (d : Dev) : Nat :=
  d.rd THM.FC_DIV + 4 * d.rd THM.NPU_SKIP + 32 * d.rd THM.ISP_SKIP + 256 * d.rd THM.ANY_SUSPECT + 512 * d.rd THM.ANY_FAST

/-- A THERMAL record (Table 16.2). -/
def Dev.thmRecord (d : Dev) (sensor flags ref : Nat) : Dev :=
  d.record 7 0 0xFF flags ref ([sensor] ++ leBytes 2 (d.rd THM.USED sensor) ++ leBytes 2 d.thmState)

/-- A sensor becomes SUSPECT, or stops being it (R409, Table 18.6). -/
def Dev.thmSuspect (d : Dev) (i : Nat) (on : Bool) : Dev :=
  let d := d.wr THM.SUSPECT (bit on) i
  let d := d.wr THM.ANY_SUSPECT (bit ((List.range 24).any fun k => d.flag THM.SUSPECT k))
  if on then ((d.count THM.SUSPECTS i).cause THM.EVT 0).raise Flt.THM_SUSPECT i else d.recover Flt.THM_SUSPECT i

/-- The marks of one sensor in a sample (R409). -/
def Dev.thmMark (d : Dev) (marked : List Nat) (ts : List (Nat × Int)) (i : Nat) : Dev :=
  let m := marked.contains i
  let (hit, miss) : Nat × Nat := tget i d.thm.marks
  let (hit, miss) : Nat × Nat := if m then (hit + 1, 0) else (0, miss + 1)
  let inv := thmInvalid ((tget? i ts).getD 0)
  let was := d.flag THM.SUSPECT i
  let d := { d with thm := { d.thm with marks := tset i (hit, miss) d.thm.marks } }.wr THM.INVALID (bit inv) i
  if !was ∧ (inv ∨ 3 ≤ hit) then d.thmSuspect i true else if was ∧ 100 ≤ miss then d.thmSuspect i false else d

/-- CRIT of a group, °C (R413). -/
def Dev.thmCritC (d : Dev) (g : Nat) : Nat :=
  match g with | 0 => d.rd THM.CRIT_FC | 1 => d.rd THM.CRIT_NPU | 2 => d.rd THM.CRIT_PS | _ => d.rd THM.CRIT_BOARD

/-- The value used for a sensor, 0.1 °C (R410). -/
def Dev.thmUse (d : Dev) (ts : List (Nat × Int)) (load g i : Nat) : Int :=
  let own := (tget? i ts).getD 0
  if !d.flag THM.SUSPECT i then own
  else
    let ep := roundShift 16 (d.thmEst ts load g i false)
    let en := roundShift 16 (d.thmEst ts load g i true)
    match d.flag THM.SUSPECT (thmPrev g i), d.flag THM.SUSPECT (thmNext g i) with
    | false, false => if ep < en then en else ep
    | false, true => ep
    | true, false => en
    | true, true => if thmInvalid own then 10 * (d.thmCritC g : Int) else own

/-- The registers of one sensor after a sample (R415). -/
def Dev.thmShow (d : Dev) (ts : List (Nat × Int)) (load g i : Nat) : Dev :=
  let un := d.flag THM.SUSPECT (thmPrev g i) && d.flag THM.SUSPECT (thmNext g i)
  (((d.wrS THM.RAW ((tget? i ts).getD 0) i).wrS THM.USED (d.thmUse ts load g i) i).wrSat THM.DEV (roundShift 17 (d.thmDev ts load g i)) i).wr
    THM.UNCHECKED (bit un) i

/-- The group's hidden state. -/
def Dev.thmG (d : Dev) (g : Nat) : ThmGrp := tget g d.thm.grps

/-- Replaces it. -/
def Dev.setThmG (d : Dev) (g : Nat) (x : ThmGrp) : Dev := { d with thm := { d.thm with grps := tset g x d.thm.grps } }

/-- The sensors of a group as a list. -/
def thmSensors (g : Nat) : List Nat := let (a, n) := thmGroup g; (List.range n).map fun k => a + k

/-- The hottest sensor of a group, by the value used. -/
def Dev.thmHottest (d : Dev) (g : Nat) : Nat :=
  (thmSensors g).foldl (fun b i => if d.rdS THM.USED b < d.rdS THM.USED i then i else b) (thmGroup g).1

/-- The sum of the values used for T20 to T23: four times T_b (R410). -/
def Dev.thmBase4 (d : Dev) : Int := ((thmSensors 3).map fun i => d.rdS THM.USED i).foldl (· + ·) 0

/-- The lowest limit of a group, °C (R408). -/
def Dev.thmLowest (d : Dev) (g : Nat) : Nat :=
  match g with
  | 0 => Nat.min (Nat.min (d.rd THM.FC_DIV2_C) (d.rd THM.FC_DIV4_C)) (d.rd THM.CRIT_FC)
  | 1 => Nat.min (d.rd THM.SKIP_START_C) (d.rd THM.CRIT_NPU)
  | _ => d.thmCritC g

/-- Sampling rate (R408). -/
def Dev.thmRate (d : Dev) (g : Nat) : Dev :=
  let x := d.thmG g
  let hot := decide (10 * (d.thmLowest g : Int) - 100 ≤ x.g)
  let from_ := if hot then none else some (x.slowFrom.getD d.now)
  let fast := hot || (x.fast && match from_ with | some t => decide (d.now < t + second) | none => true)
  let d := d.setThmG g { x with fast := fast, slowFrom := from_ }
  d.wr THM.ANY_FAST (bit ((List.range 4).any fun k => (d.thmG k).fast))

/-- Division rounding up, for signed values. -/
def ceilDivI (a b : Int) : Int := -((-a).fdiv b)

/-- k_T at a temperature (R412). -/
def Dev.thmKt (d : Dev) (g : Int) : Nat :=
  let step : Int := Nat.max 1 (d.rd THM.SKIP_STEP)
  (clampI 0 7 (ceilDivI (g - 10 * (d.rd THM.SKIP_START_C : Int)) step)).toNat

/-- Since when each level of a list has been called for less: those for which `below` holds keep their instant, or take `now`. -/
def sinceBelow (now : Nat) (below : Nat → Bool) (levels : List Nat) (old : List (Nat × Nat)) : List (Nat × Nat) :=
  (levels.filter below).map fun n => (n, (tget? n old).getD now)

/-- A level has been called for less for 1 s. -/
def stayedBelow (now lv : Nat) (l : List (Nat × Nat)) : Bool :=
  match tget? lv l with | some t => decide (t + second ≤ now) | none => false

/-- The temperature level of the field-core divider after a sample of its group (R411). -/
def Dev.thmFcLevel (d : Dev) : Dev :=
  let g := (d.thmG 0).g
  let up := if 10 * (d.rd THM.FC_DIV4_C : Int) ≤ g then 2 else if 10 * (d.rd THM.FC_DIV2_C : Int) ≤ g then 1 else 0
  let lv := d.thm.fcLevel
  let below (n : Nat) : Bool := decide (g ≤ 10 * (if n = 2 then d.rd THM.FC_DIV4_C else d.rd THM.FC_DIV2_C : Nat) - 20)
  let l := sinceBelow d.now below [1, 2] d.thm.fcBelow
  { d with thm := { d.thm with fcBelow := l, fcLevel := if lv ≤ up then up else if stayedBelow d.now lv l then lv - 1 else lv } }

/-- The temperature level of the NPU after a sample of its group (R412). -/
def Dev.thmNpuLevel (d : Dev) : Dev :=
  let g := (d.thmG 1).g
  let lv := d.thm.npuLevel
  let l := sinceBelow d.now (fun n => decide (d.thmKt (g + 20) < n)) [1, 2, 3, 4, 5, 6, 7] d.thm.npuBelow
  { d with thm := { d.thm with npuBelow := l,
                               npuLevel := if lv ≤ d.thmKt g then d.thmKt g else if stayedBelow d.now lv l then lv - 1 else lv } }

/-- A level takes a new value: event and record (R412). -/
def Dev.thmLevel (d : Dev) (f : Fld) (v g : Nat) : Dev :=
  let was := d.rd f
  if v = was then d else ((d.wr f v).cause THM.EVT (if was < v then 1 else 2)).thmRecord (d.thmHottest g) 0 noRef

/-- THROTTLE_CHANGE: the levels in force (R411 to R413). -/
def Dev.thmLevels (d : Dev) : Dev :=
  let b := d.thmBase4
  let fcFloor := if 4 * 825 < b then 2 else if 4 * 775 < b then 1 else 0
  let npuFloor := (clampI 0 7 (ceilDivI (b - 4 * 700) 100)).toNat
  let fc := if (d.thmG 0).crit then 2 else Nat.max d.thm.fcLevel fcFloor
  let npu := if (d.thmG 1).crit then 7 else Nat.max d.thm.npuLevel npuFloor
  let isp := if (d.thmG 1).crit then 7 else Nat.min npu (d.rd THM.ISP_SKIP_MAX)
  (((d.ispDrain.thmLevel THM.FC_DIV fc 0).thmLevel THM.NPU_SKIP npu 1).thmLevel THM.ISP_SKIP isp 1).fusThrottle.ispThrottle

/-- The sensors whose channels the reaction of a group closes now (R413). -/
def Dev.thmShutNow (d : Dev) (g : Nat) : List Nat :=
  if g = 2 then (thmSensors 2).filter fun i => decide (10 * (d.thmCritC 2 : Int) ≤ d.rdS THM.USED i)
  else if g = 3 then [20] else []

/-- The reaction of a group begins or goes on (R413). -/
def Dev.thmCritOn (d : Dev) (g : Nat) : Dev :=
  let x := d.thmG g
  let d := { d with thm := { d.thm with shut := (d.thm.shut ++ d.thmShutNow g).eraseDups } }
  if x.crit then d.setThmG g { x with coolFrom := none } |>.note .gates
  else
    let d := d.setThmG g { x with crit := true, coolFrom := none }
    (((d.wrBit THM.CRIT g true).cause THM.EVT 3).raise Flt.THM_CRITICAL g).note .gates

/-- The reaction of a group ends (R413). -/
def Dev.thmCritOff (d : Dev) (g : Nat) : Dev :=
  let x := d.thmG g
  let d := d.setThmG g { x with crit := false, coolFrom := none }
  let d := { d with thm := { d.thm with shut := d.thm.shut.filter fun i => !(decide (g = 2 ∧ i < 20) || decide (g = 3 ∧ 20 ≤ i)) } }
  (((d.wrBit THM.CRIT g false).cause THM.EVT 4).recover Flt.THM_CRITICAL g).note .gates

/-- THM_CRITICAL after a sample of a group (R413). -/
def Dev.thmCrit (d : Dev) (g : Nat) : Dev :=
  let x := d.thmG g
  let lim : Int := 10 * (d.thmCritC g : Int)
  if lim ≤ x.g then d.thmCritOn g
  else if !x.crit then d
  else if lim - 100 < x.g then d.setThmG g { x with coolFrom := none }
  else
    let t := x.coolFrom.getD d.now
    if t + 10 * second ≤ d.now then d.thmCritOff g else d.setThmG g { x with coolFrom := some t }

/-- The record of a reaction that began in this sample, or its END record, with the throttle state after it (R413, Table 16.2). -/
def Dev.thmCritRecord (d : Dev) (g : Nat) (was : Bool) : Dev :=
  let x := d.thmG g
  if !was && x.crit then (d.setThmG g { x with critRef := d.nextRef }).thmRecord (d.thmHottest g) 0 noRef
  else if was && !x.crit then d.thmRecord (d.thmHottest g) 2 x.critRef
  else d

/-- The records of the sensors that became SUSPECT in this sample: each names the value it uses from now on (R409, Table 16.2). -/
def Dev.thmSuspectRecords (d : Dev) (g : Nat) (old : Dev) : Dev :=
  forAll (thmSensors g) (fun i d => if d.flag THM.SUSPECT i && !old.flag THM.SUSPECT i then d.thmRecord i 0 noRef else d) d

/-- The continuous rating of every load switch, valve channel and blower together, mA (Tables 11.1, 12.1, 13.1; assumption 41). -/
def Dev.plantRating (d : Dev) : Nat :=
  ((List.range 64).foldl (fun s n => s + if d.flag LSW.CH_HEAVY n then 20000 else 6000) 0) + 32 * 4000 + 4 * 5000

/-- The current of every load switch, valve channel and blower together, mA. -/
def Dev.plantCurrent (d : Dev) : Nat :=
  ((List.range 64).foldl (fun s n => s + 10 * d.rd LSW.CH_I_MEAS n) 0) + ((List.range 32).foldl (fun s n => s + d.rd VDR.CH_I_MEAS n) 0)
    + ((List.range 4).foldl (fun s n => s + d.rd BLW.CH_I_OUT n) 0)

/-- The load fraction of a group in 2^-16: the power stages' from the channels' currents, the others' as measured, 1 at most (R407). -/
def Dev.thmLoad (d : Dev) (g load : Nat) : Nat :=
  Nat.min 65536 (if g = 2 then d.plantCurrent * 65536 / d.plantRating else load)

/-- THERMAL_SAMPLE: one sample of a group at its rate: readings of its sensors in 0.1 °C, in order, and the load fraction in 2^-16 where
the block does not measure it itself (R407 to R413). -/
def thermalSample (g : Nat) (readings : List Int) (load : Nat) (d : Dev) : Dev :=
  let g := g % 4
  let x := d.thmG g
  let d := (d.waitUntil (x.at_ + (if x.fast then ms else 100 * ms))).boundary 18 0
  let load := d.thmLoad g load
  let ts := (thmSensors g).zip readings
  let marked := d.thmMarked ts load g
  let old := d
  let d := forAll (thmSensors g) (fun i d => d.thmMark marked ts i) d
  let d := (forAll (thmSensors g) (fun i d => d.thmShow ts load g i) d).thmSuspectRecords g old
  let top := d.rdS THM.USED (d.thmHottest g)
  let d := d.setThmG g { d.thmG g with at_ := d.now, g := top }
  let d := (d.wrS THM.T_BASE (roundShift 2 d.thmBase4)).wrS THM.G_MAX (((List.range 24).map fun i => d.rdS THM.USED i).foldl (fun a b => if a < b then b else a) top)
  let d := d.thmRate g
  let d := if g = 0 then d.thmFcLevel else if g = 1 then d.thmNpuLevel else d
  (d.thmCrit g).thmLevels.thmCritRecord g x.crit

end Sys2Proof.Machine
end

