-- ==== Sys2Proof/Machine/Sys.lean ====
section
/-! DEFINITION. Machine/Sys.lean: modes, power domains, supply, start-up, resets and shutdown (chapter 2). -/

namespace Sys2Proof.Machine

/-! Blocks out of service. -/

/-- Blocks a static build keeps disabled, or an abandoned one has left so (R79, R80). The timebase is never disabled (R471); SYS has no
LOCKED_WRITE and answers mode requests throughout a build (R42, R79). -/
def Dev.shutBlocks (d : Dev) : List Nat := ((d.regionsShut.flatMap regionBlocks).filter fun b => decide (b ≠ 0 ∧ b ≠ 3)).eraseDups

/-- A block is ready for FIELD: powered, without a regulator fault, not kept disabled, enabled where it has an enable field (R42). -/
def Dev.blockReady (d : Dev) (b : Nat) : Bool :=
  d.powered b && !(d.rd SYS.PD_FAULT).testBit (domainOf b) && !d.shutBlocks.contains b && d.enabled b 0

/-! Mode requests (R42 to R45). -/

/-- Entry to FIELD: the first condition that fails, as REFUSE_CAUSE (R42). -/
def Dev.fieldRefusal (d : Dev) : Option Nat :=
  let cr0 := d.itemsOf 0
  let needs := cr0.filterMap fun it => match it with | .fieldRequired b => some b | _ => none
  if !cr0.any (fun it => match it with | .admitsField => true | _ => false) then some 3
  else if 2 ≤ d.rd FLT.MAX_SEV then some 2
  else if d.rd SYS.VLOG_NOW < 900 then some 6
  else if needs.any fun b => !d.blockReady b then some 4
  else none

/-- Leaving SAFE: the first condition that fails, as REFUSE_CAUSE (R445). -/
def Dev.unsafeRefusal (d : Dev) (v : Nat) : Option Nat :=
  if d.rd FLT.MAX_SEV = 3 then some 2
  else if v = 4 ∧ !d.flag SYS.STATIONARY then some 1
  else if d.now < d.flt.safeAt + clampN 100 60000 (d.rd FLT.SAFE_MIN_MS) * ms then some 7
  else none

/-- The failing condition of a transition that a row of Table 2.2 gives on request; none of the outer option where no row allows it. -/
def Dev.transition (d : Dev) (v : Nat) : Option (Option Nat) :=
  match d.mode, v with
  | 4, 5 => some (if d.cfg.building.isSome then some 5 else none)
  | 4, 6 | 5, 6 => some d.fieldRefusal
  | 5, 4 | 6, 4 => some (if d.flag SYS.STATIONARY then none else some 1)
  | 6, 5 => some none
  | 7, 4 | 7, 5 => some (d.unsafeRefusal v)
  | _, _ => none

/-- The answer to a request (R43). -/
def Dev.answer (d : Dev) (result cause : Nat) : Dev := (d.wr SYS.REQ_RESULT result).wr SYS.REFUSE_CAUSE cause

/-- A granted transition: the gates go to the state of the new mode (R45). -/
def Dev.grant (d : Dev) (v : Nat) : Dev :=
  (({ d with sys := { d.sys with target := some v } }.wr SYS.TRANS_BUSY 1).answer 1 0).refreshGates

/-- A request for SAFE (R43). -/
def Dev.requestSafe (d : Dev) : Dev :=
  if d.mode = 7 then d.answer 1 0
  else if d.safeNow then (d.safeEntry 1 0).answer 1 0
  else if d.mode = 2 then (d.safeRequest 1).answer 2 0
  else d.answer 5 0

/-- A module that follows its leader (R44). -/
def Dev.follows (d : Dev) : Bool := decide (d.rd ETH.JOIN_STATE = 2) && !d.flag ETH.IS_LEADER

/-- MODE_REQUEST: of the field cores, or of the leader (R43, R44, R372). DESIGN CHOICE (assumption 49): in BOOT and in RECOVERY a request
for the current mode is answered GRANTED, by the first bullet of R43, and not REFUSED-ILLEGAL, by the fifth. -/
def Dev.modeRequest (d : Dev) (v : Nat) (leader : Bool) : Dev :=
  if v = 7 then d.requestSafe
  else if d.follows ∧ !leader then d.answer 6 0
  else if d.flag SYS.TRANS_BUSY then d.answer 4 0
  else if v = d.mode then d.answer 1 0
  else match d.transition v with
    | none => d.answer 5 0
    | some (some c) => d.answer 3 c
    | some none => d.grant v

/-- MODE_REQUEST: a write of SYS_MODE_REQ.REQ_MODE (R43). -/
def modeRequestWrite (v : Nat) (d : Dev) : Dev := d.modeRequest (v % 16) false

/-- A severity-3 fault that is active, or a SAFE that waited, acts at once in a mode entered (R43, R442). -/
def Dev.safeIfDue (d : Dev) : Dev :=
  match d.flt.safeWaits with
  | some why =>
    let d := { d with flt := { d.flt with safeWaits := none } }
    if !d.safeNow then d else if why = 1 then (d.safeEntry 1 0).answer 1 0 else d.safeEntry why 0
  | none =>
    if !d.safeNow then d
    else match d.activeCodes.find? fun c => decide (d.severity c = 3) with
      | some c => d.safeEntry 0x81 c
      | none => d

/-- The shutdown delay of a WAKE that fell while a transition ran starts at the transition's end (R44). -/
def Dev.transitionOver (d : Dev) : Dev :=
  if d.sys.fellBusy then { d with sys := { d.sys with fellBusy := false, wakeFell := some d.now } } else d

/-- TRANSITION_COMPLETE: MODE and PREV_MODE change, TRANS_BUSY returns to 0 (R45). -/
def transitionComplete (d : Dev) : Dev :=
  match d.sys.target with
  | none => d
  | some v =>
    let was := d.mode
    let d := { d with sys := { d.sys with target := none } }
    let d := (((d.wr SYS.MODE v).wr SYS.PREV_MODE was).wr SYS.TRANS_BUSY 0).transitionOver
    let d := if was = 7 then d.cause FLT.EVT 4 else d
    ((d.modeRecord was v 1).sluMode).refreshGates.safeIfDue

/-- STATIONARY_CHANGE: MD speed at or below 0.2 km/h for 2 s, or not (R41, R110). -/
def stationaryChange (d : Dev) : Dev :=
  match d.flag TMB.MD_VALID, d.tmb.slowFrom with
  | true, some t => (d.waitMt (t + 2 * second)).wr SYS.STATIONARY 1
  | _, _ => d.wr SYS.STATIONARY 0

/-- MOVE_IN_SERVICE: MD speed above 0.5 km/h for 1 s in SERVICE; a static load is abandoned (R46, R80). -/
def moveInService (d : Dev) : Dev :=
  match d.tmb.fastFrom with
  | none => d
  | some t =>
    if d.mode ≠ 4 ∨ !d.flag TMB.MD_VALID then d
    else
      let d := d.waitMt (t + second)
      (d.raise Flt.MOVE_IN_SERVICE).settle.loadAbandon

/-! Power domains (R47, R48). -/

/-- Fields that MRAM or PD1 holds through a loss of PD2 and PD3. -/
def keptFields : List Fld :=
  [SYS.PREV_MODE, SYS.CAUSE, SYS.RTC_S, SYS.ALARM_S, SYS.RTC_VALID, SYS.PWR_CYCLES, TMB.STARTS, REC.REC_MODE, REC.FULL, REC.REC_NEXT,
   REC.REC_TIDE_OLDEST, REC.REC_CRUST_N, REC.LOST, REC.REC_CRUST_FIRST, REC.REC_OPS, UPD.STATE_A, UPD.STATE_B, UPD.ACTIVE, UPD.PENDING,
   UPD.TRIAL, UPD.LATCH, UPD.OWNER_LOCKED, UPD.LOCK_SLOT, UPD.FW_VER_A, UPD.FW_VER_B]

/-- A field key that a loss of PD2 and PD3 leaves as it is. -/
def keptKey (k : Nat) : Bool := decide (keyBlock k = 2) || keptFields.any fun f => decide (f.key 0 0 = k)

/-- The blocks that some domains feed (Table 2.3). -/
def blocksOf (ps : List Nat) : List Nat := (List.range 21).filter fun b => ps.contains (domainOf b)

/-- Faults that only the SAFE acknowledgement ends stay; every other fault of blocks that lose their power recovers, as do
DRAM-UNCORRECTABLE and FCWD-EXPIRED with PD3 (R438, Table 18.6). -/
def Dev.faultsDropped (d : Dev) (ps : List Nat) : Dev :=
  let bs := blocksOf ps
  let ends (c : Nat) : Bool :=
    !ackFaults.contains c && ((match evBlock (c / 256) with | some b => decide (2 < b) && bs.contains b | none => false)
      || (ps.contains 3 && (decide (c = Flt.DRAM_UNCORRECTABLE ∨ c = Flt.FCWD_EXPIRED))))
  forAll (d.flt.active.filter fun p => ends p.1) (fun p d => d.recovered p.1 p.2) d

/-- Everything PD2 feeds starts afresh, but for what MRAM and flash hold (R58, R84, R399). -/
def Dev.dropIsland (d : Dev) : Dev :=
  let staging (n : Nat) (d : Dev) : Dev := if d.slotState n = 1 then (d.slotTo n 0).setSlot n default else d
  let d := staging 1 (staging 0 d)
  { d with
    cfg := { (default : CfgH) with full := d.cfg.full, patches := d.cfg.patches }
    flt := default
    raised := []
    thm := default
    recd := { d.recd with backlog := [], challenge := none, userAt := [] }
    upd := { (default : UpdH) with slots := d.upd.slots, fallback := d.upd.fallback, passed := d.upd.passed, why := d.upd.why }
    sys := { d.sys with shutdown := false, target := none, gatesShut := false, fcwdFrom := none, fellBusy := false } }

/-- Everything PD3 feeds is lost (R52, R102, R179, R377). -/
def Dev.dropCores (d : Dev) : Dev :=
  { d with
    que := []
    points := []
    tmb := default
    lah := default
    slu := default
    ctl := default
    sys := { d.sys with fcwdFrom := none } }.wr SYS.STATIONARY 0

/-- Everything PD4 to PD9 feed is lost; the hot-start store is in MRAM (R274). -/
def Dev.dropPlant (d : Dev) : Dev :=
  { d with
    fus := default
    isp := default
    gns := { (default : GnsH) with store := d.gns.store, storedAt := d.gns.storedAt }
    net := default
    lsw := default
    vdr := []
    fio := default
    blw := default }

/-- Domains PD3 to PD9 go off, and PD2 with `island`; what they fed is lost (R48, Table 2.8). -/
def Dev.dropDomains (d : Dev) (island : Bool) : Dev :=
  let ps := if island then [2, 3, 4, 5, 6, 7, 8, 9] else [3, 4, 5, 6, 7, 8, 9]
  let d := if island then d else d.faultsDropped ps
  let bs := blocksOf ps
  let d := d.resetKeys fun k => bs.contains (keyBlock k) && !keptKey k
  let d := (if island then d.dropIsland else d).dropCores.dropPlant
  { d with built := if island then [] else d.built.filter fun p => decide (p.1 = 0 ∨ p.1 = 14) }.wr SYS.PD_ON (if island then 3 else 7)

/-- PD1 goes off: the RTC stops and holds no valid time, and WORN_WRITE takes its reset value (R6, R55, R97). -/
def Dev.dropRtc (d : Dev) : Dev :=
  ((({ d with sys := { d.sys with rtcAt := d.now } }.wr SYS.RTC_S 0).wr SYS.ALARM_S 0).wr SYS.RTC_VALID 0).wr PREG.WORN_WRITE 0

/-! Resets (R58). -/

/-- A reset's bit in CAUSE, its WAKE_SRC, and its RESET record, which is formed later (R58). -/
def Dev.resetMark (d : Dev) (cause src : Nat) : Dev :=
  let d := (d.wrBit SYS.CAUSE cause true).wr SYS.WAKE_SRC src
  d.owe 3 0 [d.rd SYS.CAUSE, src]

/-- A reset that counts as a power cycle (Table 2.8, R102). -/
def Dev.powerCycle (d : Dev) : Dev := (d.bump SYS.PWR_CYCLES).wr TMB.STARTS 0

/-! Start-up (Table 2.7). -/

/-- Steps 1 and 2: BOOT, the self-test of both pairs, the supply class from LOG in 10 mV (R49). -/
def Dev.bootEnter (d : Dev) (vlog : Nat) : Dev :=
  let was := d.mode
  let d := (((d.wr SYS.MODE 2).wr SYS.PREV_MODE was).wr SYS.PD_ON 7).oweMode was 2 0x85
  let cls := bit (1800 ≤ vlog)
  let d := { d with sys := { d.sys with pairs := 2, detected := cls, bootAt := d.now } }
  (((d.wr SYS.CLASS cls).wr SYS.VLOG_NOW vlog).wr SYS.VLOG_AVG5 vlog).formOwed (fun k => k = 3)

/-- The firmware slots fail, or the latch is set: RECOVERY, with PD0 to PD2 and PD7 (Table 2.1). -/
def Dev.toRecovery (d : Dev) : Dev :=
  let was := d.mode
  ({ d with upd := { d.upd with helloAt := d.now } }.wr SYS.MODE 3 |>.wr SYS.PREV_MODE was |>.wr SYS.PD_ON 0x87).oweMode was 3 0x86

/-- The watchdog of the field cores starts: at the instant they leave reset, and at a kick (R60). DESIGN CHOICE (assumption 49): a write of
TIMEOUT_MS while it runs restarts its count. -/
def Dev.fcwdStart (d : Dev) : Dev :=
  { d with sys := { d.sys with fcwdFrom := if d.rd SYS.TIMEOUT_MS = 0 then none else some d.now } }

/-- Steps 4 to 7: DRAM, the image store, every domain, the timebase, the field cores (R56, R86, R102, R275). -/
def Dev.warmStart (d : Dev) : Dev × Memory :=
  let d := (d.formOwed fun k => k ≠ 3).formKeyOnly
  let d := ({ d with built := [], cfg := { (default : CfgH) with full := d.cfg.full, patches := d.cfg.patches } }.wr SYS.IMAGE_VALID 0).wr
    CFG.IMAGE_VALID 0
  let d := ((d.wr CFG.LOAD_STATE 0).wr CFG.PEND 0).wr SYS.PD_ON 0x3FF
  let (d, m) := d.buildStore []
  ((timebaseStart d.gnsPowerUp).fcwdStart, m)

/-- Step 8: the start mode (Table 2.2). -/
def Dev.startModeIn (d : Dev) : Dev :=
  let v := if d.flag SYS.IMAGE_VALID ∧ d.rd SYS.WAKE_SRC ≠ 2 ∧ d.cfg.startMode = 5 then 5 else 4
  let d := ((d.wr SYS.MODE v).wr SYS.PREV_MODE 2).modeRecord 2 v 0x80
  d.refreshGates.safeIfDue

/-- START_UP from step 1: BOOT, the slot, the image, the start mode, or RECOVERY (Table 2.7). -/
def Dev.startUp (d : Dev) (vlog : Nat) (m : Memory) : Dev × Memory :=
  let (d, ok) := (d.bootEnter vlog).slotSelect
  if ok then
    let (d, m) := d.warmStart
    (d.startModeIn, m)
  else (d.toRecovery, m)

/-- A reset of PD2 to PD9 that resumes in BOOT; DRAM is lost (Table 2.8). -/
def Dev.islandStart (d : Dev) (cause src : Nat) (counted : Bool) (vlog : Nat) : Dev × Memory :=
  let was := d.mode
  let d := (d.dropDomains true).wr SYS.MODE was
  let d := if counted then d.powerCycle else d
  (d.resetMark cause src).startUp vlog []

/-- A MODULE reset: the backlog is stored first (R399, Table 2.8). -/
def Dev.moduleReset (d : Dev) : Dev × Memory := (storeAll 130 d).islandStart 5 4 false (d.rd SYS.VLOG_NOW)

/-- POWER_ON: LOG applied from below 4.0 V (R58). -/
def powerOn (wake : Bool) (vlog : Nat) (_ : Memory) (d : Dev) : Dev × Memory :=
  let d := ((d.dropDomains true).dropRtc.wr SYS.MODE 0).wr SYS.PREV_MODE 0
  let d := { d with sys := { d.sys with wake := wake, wakeFell := none, brownOut := false } }
  let d := (d.powerCycle.resetMark 0 0).wr SYS.PD_ON 1
  if wake then d.startUp vlog [] else (d, [])

/-- BROWN_OUT: every domain except PD0 is reset (R53). -/
def brownOut (d : Dev) : Dev × Memory :=
  let d := (d.dropDomains true).dropRtc.wr SYS.MODE 0
  let d := { d with sys := { d.sys with brownOut := true } }
  (((d.powerCycle.resetMark 1 0).wr SYS.PD_ON 1).wr SYS.PREV_MODE 0, [])

/-- LOG has risen above 9.0 V after a brown-out: with WAKE high the module starts from power-on (R42, R53). -/
def Dev.brownOutEnds (d : Dev) (vlog : Nat) (m : Memory) : Dev × Memory :=
  let d := { d with sys := { d.sys with brownOut := false } }
  if d.sys.wake ∧ d.mode = 0 then d.startUp vlog m else (d, m)

/-- ISLAND_RESET, wherever PD2 is on: hardware closes all gates; records still waiting are lost; a trial fails with it (R58, R399, R425). -/
def islandReset (m : Memory) (d : Dev) : Dev × Memory :=
  if d.pdOn 2 then
    (if d.onTrial then d.trialFail else d).islandStart 6 5 false (d.rd SYS.VLOG_NOW)
  else (d, m)

/-- A FIELD-CORES reset: the data path, the gates and the mode stay (R59, R60). -/
def Dev.coresReset (d : Dev) : Dev :=
  let d := (d.wrBit SYS.CAUSE 4 true).emit .coreReset
  (d.record 3 0 0xFF 0 noRef [d.rd SYS.CAUSE, d.rd SYS.WAKE_SRC]).fcwdStart

/-- RESET_REQUEST (R59). -/
def resetRequest (kind key : Nat) (m : Memory) (d : Dev) : Dev × Memory :=
  if key % 65536 ≠ 0x5A3C then (d, m)
  else match kind % 16 with
    | 1 => (d.coresReset, m)
    | 2 => if d.mode = 4 ∨ d.mode = 7 then d.moduleReset else (d, m)
    | 3 => if d.mode = 4 ∨ d.mode = 7 then (d.wr UPD.LATCH 1).slotKeep.moduleReset else (d, m)
    | _ => (d, m)

/-- FCWD_KICK: 0xA5 restarts the watchdog; FCWD-EXPIRED recovers (R60, Table 18.6). -/
def fcwdKick (v : Nat) (d : Dev) : Dev := if v % 256 = 0xA5 then d.fcwdStart.recover Flt.FCWD_EXPIRED else d

/-- FCWD_EXPIRY; a firmware trial fails with it, and the module is reset (R60, R425). -/
def fcwdExpiry (m : Memory) (d : Dev) : Dev × Memory :=
  match d.sys.fcwdFrom with
  | none => (d, m)
  | some t =>
    let d := ((d.waitUntil (t + d.rd SYS.TIMEOUT_MS * ms)).raise Flt.FCWD_EXPIRED).settle.coresReset
    if d.onTrial then d.trialFail.moduleReset else (d, m)

/-- TRIAL_BOOT_TIMEOUT: a boot on trial has not reached step 8 within 2 s (R425). -/
def trialBootTimeout (m : Memory) (d : Dev) : Dev × Memory :=
  if d.mode = 2 ∧ d.onTrial then (d.waitUntil (d.sys.bootAt + 2 * second)).trialFail.moduleReset else (d, m)

/-- LOCKSTEP_PAIR_MISMATCH: the other pair goes on; a mismatch in both is an ISLAND reset (R434). -/
def lockstepMismatch (m : Memory) (d : Dev) : Dev × Memory :=
  if !d.pdOn 2 then (d, m)
  else if d.sys.pairs = 2 then
    ({ d with sys := { d.sys with pairs := 1 } }.raise Flt.SHOIT_PAIR_LOST, m)
  else islandReset m d

/-- PD_FAULT_CHANGE: a regulator fault (R48, Table 18.6). -/
def pdFaultChange (p : Nat) (on : Bool) (d : Dev) : Dev :=
  if 10 ≤ p ∨ !d.pdOn 2 then d
  else
    let d := d.wrBit SYS.PD_FAULT p on
    if on then d.raise Flt.PD_FAULT p else d.recover Flt.PD_FAULT p

/-! WAKE, crank and shutdown (R52, R54, R61, R62). -/

/-- WAKE_RISE: WAKE above its rising threshold for 10 ms: a wake, or a shutdown abandoned (R42, R62). -/
def wakeRise (vlog : Nat) (m : Memory) (d : Dev) : Dev × Memory :=
  let d := { d with sys := { d.sys with wake := true, wakeFell := none, shutdown := false, fellBusy := false } }
  if d.mode ≤ 1 ∧ !d.sys.brownOut then d.islandStart 2 1 true vlog else (d, m)

/-- To STANDBY or DORMANT: PD0, with PD1 in DORMANT (Table 2.1). -/
def Dev.sleep (d : Dev) (mode why : Nat) : Dev :=
  let was := d.mode
  let d := ((d.dropDomains true).wr SYS.MODE mode).wr SYS.PREV_MODE was
  let d := if mode = 1 then { d with sys := { d.sys with dormantAt := d.now } } else d.dropRtc
  (d.wr SYS.PD_ON (if mode = 1 then 3 else 1)).oweMode was mode why

/-- WAKE_FALL: WAKE_OFF_DELAY runs; in RECOVERY the module goes to STANDBY after 10 ms (R42, R62). -/
def wakeFall (m : Memory) (d : Dev) : Dev × Memory :=
  let d := { d with sys := { d.sys with
    wake := false
    wakeFell := some (d.sys.wakeFell.getD d.now)
    fellBusy := d.flag SYS.TRANS_BUSY } }
  if d.mode = 3 then ((d.waitUntil (d.now + 10 * ms)).sleep 0 0x88, []) else (d, m)

/-- RTC_ALARM: the RTC reaches SYS_RTC_ALARM in DORMANT (R42). -/
def rtcAlarm (vlog : Nat) (m : Memory) (d : Dev) : Dev × Memory :=
  let a := d.rd SYS.ALARM_S
  if d.mode ≠ 1 ∨ a = 0 then (d, m)
  else ((d.waitUntil (d.sys.rtcAt + (a - d.rd SYS.RTC_S) * second)).rtcShow).islandStart 2 2 true vlog

/-- DORMANT_DAYS_EXPIRY (R55). -/
def dormantDaysExpiry (m : Memory) (d : Dev) : Dev × Memory :=
  if d.mode ≠ 1 then (d, m)
  else ((d.waitUntil (d.sys.dormantAt + d.sys.dormantDays * 86400 * second)).sleep 0 0x88, [])

/-- SHUTDOWN_START: WAKE_OFF_DELAY has passed with WAKE low; the parameters are captured (Table 2.9 step 1, R61). -/
def shutdownStart (d : Dev) : Dev :=
  match d.sys.wakeFell with
  | none => d
  | some t =>
    if d.sys.shutdown ∨ d.flag SYS.RIDE_THROUGH ∨ d.flag SYS.TRANS_BUSY ∨ !(d.mode = 2 ∨ 4 ≤ d.mode) then d
    else
      let d := d.waitUntil (t + Nat.max 1 (d.rd SYS.WAKE_OFF_DELAY) * 100 * ms)
      { d with sys := { d.sys with
        shutdown := true
        afterRun := Nat.max 1 (d.rd SYS.AFTERRUN_MAX)
        dormantEn := d.flag SYS.DORMANT_EN
        dormantDays := clampN 1 30 (d.rd SYS.DORMANT_DAYS)
        afterRunFrom := d.now } }

/-- Steps 2 to 4 of Table 2.9: gates, the hot-start store, the records, the domains (R61, R274, R399). -/
def Dev.shutDown (d : Dev) (eph : List (Nat × Nat)) (almanac : Nat) (osc : Int) : Dev :=
  let d := { d with sys := { d.sys with gatesShut := true } }.refreshGates
  let d := if d.powered 9 then d.storeWrite eph almanac osc else d
  let mode : Nat := bit (d.sys.dormantEn && d.flag SYS.RTC_VALID)
  Dev.sleep (storeAll 130 d.settle) mode 0x87

/-- SHUTDOWN_ACK: ends the after-run (R61). -/
def shutdownAck (v : Nat) (eph : List (Nat × Nat)) (almanac : Nat) (osc : Int) (m : Memory) (d : Dev) : Dev × Memory :=
  if d.sys.shutdown ∧ v % 2 = 1 then (d.shutDown eph almanac osc, []) else (d, m)

/-- AFTERRUN_EXPIRY (R61). -/
def afterrunExpiry (eph : List (Nat × Nat)) (almanac : Nat) (osc : Int) (m : Memory) (d : Dev) : Dev × Memory :=
  if d.sys.shutdown then ((d.waitUntil (d.sys.afterRunFrom + d.sys.afterRun * second)).shutDown eph almanac osc, []) else (d, m)

/-- CRANK_START: steps 1 and 2 of Table 2.5; a transition is pre-empted, a shutdown abandoned, a load lost (R44, R52, R62). DESIGN CHOICE
(assumption 49): Table 2.5 restores no RECOVERY, so a crank in RECOVERY is not ridden through. -/
def crankStart (m : Memory) (d : Dev) : Dev × Memory :=
  if (d.mode = 2 ∨ 4 ≤ d.mode) ∧ !d.flag SYS.RIDE_THROUGH then
    let d := d.preempt
    let d := { d with sys := { d.sys with shutdown := false, gatesShut := true } }.refreshGates
    let d := ((d.wr SYS.RIDE_THROUGH 1).wr SYS.BAND_LOG 1).cause SYS.SUPEVT_CRANK
    (d.settle.loadAbandon.loaderStops.dropDomains false, [])
  else (d, m)

/-- The mode that a crank restores (Table 2.5 step 4). -/
def Dev.crankRestore (d : Dev) : Dev :=
  let was := d.mode
  if was = 2 then d.startModeIn
  else if was = 6 then (((d.wr SYS.MODE 5).wr SYS.PREV_MODE 6).modeRecord 6 5 0x84).refreshGates.safeIfDue
  else d.refreshGates.safeIfDue

/-- CRANK_END: LOG above 9.5 V for 10 ms: a warm restart, and the mode restored (Table 2.5 steps 3 and 4). -/
def crankEnd (vlog : Nat) (m : Memory) (d : Dev) : Dev × Memory :=
  if !d.flag SYS.RIDE_THROUGH then (d, m)
  else
    let d := (d.resetMark 3 3).wr SYS.VLOG_NOW vlog
    let (d, m) := d.warmStart
    let d := { d with sys := { d.sys with gatesShut := false } }.wr SYS.RIDE_THROUGH 0
    ((d.formOwed fun _ => true).crankRestore, m)

/-! Supply bands (R50). -/

/-- The limits between the bands of Table 2.4, in 10 mV. -/
def Dev.bandLimits (d : Dev) : List Nat := if d.flag SYS.CLASS then [600, 900, 1600, 3200, 3600] else [600, 900, 1050, 1600, 3600]

/-- The band a voltage gives after band `b`: a rising voltage enters the higher band at the limit, a falling one leaves a band 0.5 V
below its limit; the brown-out limits have no hysteresis (R50). -/
def Dev.bandAfter (d : Dev) (b v : Nat) : Nat :=
  let up := (d.bandLimits.filter fun l => decide (l ≤ v)).length
  let down := (d.bandLimits.filter fun l => decide (if l ≤ 900 then l ≤ v else l - 50 < v)).length
  if b ≤ up then up else Nat.min b down

/-- The field that shows an input's band: LOG, PWR-A, PWR-B. -/
def bandField (input : Nat) : Fld := if input = 0 then SYS.BAND_LOG else if input = 1 then SYS.BAND_PWRA else SYS.BAND_PWRB

/-- The flags of a band of LOG, and the recorder entry of a load dump (Table 2.4). -/
def Dev.bandFlags (d : Dev) (b v : Nat) : Dev :=
  match b with
  | 2 => d.cause SYS.SUPEVT_LOW
  | 4 => d.cause SYS.SUPEVT_HIGH
  | 5 => (d.cause SYS.SUPEVT_DUMP).record 4 0 0xFF 0 noRef (5 :: leBytes 2 v)
  | _ => d

/-- An input's voltage is measured, with the 5 s mean of LOG (R63). -/
def Dev.voltage (d : Dev) (input v avg : Nat) : Dev :=
  match input with
  | 0 => (d.wr SYS.VLOG_NOW v).wr SYS.VLOG_AVG5 avg
  | 1 => (d.lsInputBack 0 (d.rd SYS.VPWRA) v).wr SYS.VPWRA v
  | _ => (d.lsInputBack 1 (d.rd SYS.VPWRB) v).wr SYS.VPWRB v

/-- SUPPLY_BAND_CHANGE: input 0 LOG, 1 PWR-A, 2 PWR-B has stood at a voltage of `v` × 10 mV past the filter (R50, R53). -/
def supplyBandChange (input v avg : Nat) (m : Memory) (d : Dev) : Dev × Memory :=
  if input = 0 ∧ d.sys.brownOut ∧ 900 < v then d.brownOutEnds v m
  else if !d.pdOn 2 ∨ 3 ≤ input then (d, m)
  else
    let was := d.rd (bandField input)
    let b := d.bandAfter was v
    let d := (d.voltage input v avg).wr (bandField input) b
    if b = was ∨ input ≠ 0 then (d, m)
    else if b = 0 then brownOut d
    else (d.bandFlags b v, m)

/-- A voltage outside the ratings of R50 and R51: below −32 V, above 58 V; `over36` marks LOG above 36 V for more than 400 ms. -/
def outsideRatings (v : Int) (over36 : Bool) : Bool := decide (v < -3200 ∨ 5800 < v) || over36

end Sys2Proof.Machine
end

