-- ==== Sys2Proof/Machine/Upd.lean ====
section
/-! DEFINITION. Machine/Upd.lean: firmware staging, activation, the owner lock, and Opdofy (chapter 17). -/

namespace Sys2Proof.Machine

/-! Results (R432). -/

/-- RESULT codes. -/
def urOk : Nat := 1
def urBusy : Nat := 2
def urMode : Nat := 3
def urMoving : Nat := 4
def urSupply : Nat := 5
def urLocked : Nat := 6
def urNoStaged : Nat := 7
def urFormat : Nat := 8
def urAddr : Nat := 9
def urAborted : Nat := 10
def urNoChallenge : Nat := 11
def urKey : Nat := 12
def urSignature : Nat := 13
def urNotTrial : Nat := 14

/-- A refused request changes nothing but RESULT and its event (R420). -/
def Dev.updRefuse (d : Dev) (result : Nat) : Dev := (d.wr UPD.RESULT result).cause UPD.EVT 1

/-- The low-supply limit of a class, in 10 mV (Table 17.4). -/
def Dev.lowSupply (d : Dev) : Nat := if d.flag SYS.CLASS then 2300 else 1150

/-- Conditions 2 to 4 of Table 17.4: the first that fails. -/
def Dev.gateConditions (d : Dev) : Option Nat :=
  if d.mode ≠ 4 then some urMode
  else if !(d.flag SYS.STATIONARY || !d.flag SYS.IMAGE_VALID) then some urMoving
  else if d.rd SYS.VLOG_AVG5 < d.lowSupply then some urSupply
  else none

/-- The update gate, in table order (Table 17.4); condition 5 does not apply to UNLOCK. -/
def Dev.gateRefusal (d : Dev) (unlock : Bool) : Option Nat :=
  if d.flag UPD.BUSY then some urBusy
  else match d.gateConditions with
    | some r => some r
    | none => if d.flag UPD.OWNER_LOCKED ∧ !unlock then some urLocked else none

/-- GATE_OPEN: conditions 2 to 5 hold now (R432). -/
def Dev.gateShow (d : Dev) : Dev :=
  if d.pdOn 2 then d.wr UPD.GATE_OPEN (bit (d.gateConditions.isNone && !d.flag UPD.OWNER_LOCKED)) else d

/-! Staging (R421). -/

/-- A STAGE refused: an UPDATE record names the result (R427). -/
def Dev.stageRefuse (d : Dev) (result : Nat) : Dev := (d.updRefuse result).updateRecord 2 d.otherSlot result

/-- STAGE: `avg` is the 5 s mean of LOG, `k1` and `k2` the numbers the image's signers used (R416, R420, R421, R422). -/
def stage (avg k1 k2 : Nat) (m : Memory) (d : Dev) : Dev :=
  let d := d.wr SYS.VLOG_AVG5 avg
  let a := 16 * d.rd UPD.SRC_ADDR16
  let n := d.rd UPD.LEN
  match d.gateRefusal false with
  | some r => d.stageRefuse r
  | none =>
    if !d.coreMayWrite a n then d.stageRefuse urAddr
    else
      let bs := memReadBytes m a n
      if !fwHeaderOk bs n then d.stageRefuse urFormat
      else
        let o := d.otherSlot
        let d := ((d.wr UPD.PENDING 0).slotTo o 1).setSlot o default
        let d := { d with upd := { d.upd with staging := some (⟨bs, k1, k2⟩, d.now, d.now + 100 * ms + 25 * n) } }
        (((d.wr UPD.BUSY 1).wr UPD.RESULT 0).wr UPD.PROGRESS 0).slotKeep

/-- The write is abandoned for a condition of the gate: the slot is left EMPTY (R421). -/
def Dev.stageAbandon (d : Dev) (r : Nat) : Dev :=
  let o := d.otherSlot
  let d := { d with upd := { d.upd with staging := none } }
  let d := (((d.wr UPD.BUSY 0).wr UPD.RESULT urAborted).wr UPD.ABORT_CAUSE r).cause UPD.EVT 2
  (((d.slotTo o 0).setSlot o default).slotKeep).updateRecord 2 o r

/-- The slot is written whole, unless a condition of the gate has failed meanwhile (R421). -/
def Dev.stageEnd (d : Dev) : Dev :=
  match d.upd.staging, d.gateConditions with
  | none, _ => d
  | some _, some r => d.stageAbandon r
  | some (s, _), none =>
    let o := d.otherSlot
    let d := ((d.slotTo o 2).setSlot o s).cause UPD.EVT 0
    let d := { d with upd := { d.upd with staging := none } }
    ((((d.wr UPD.BUSY 0).wr UPD.RESULT urOk).wr UPD.PROGRESS s.data.length).slotKeep).updateRecord 1 o urOk

/-- STAGE_COMPLETE: the staging write completes (R421). -/
def stageComplete (d : Dev) : Dev := d.stageEnd

/-- STAGE_GATE_CHECK: conditions 2 to 4 are tested again every 1 ms; `written` bytes have been staged. The write is complete 100 ms and
UPD_LEN at 40 MB/s after the request (R421). -/
def stageGateCheck (avg written : Nat) (d : Dev) : Dev :=
  match d.upd.staging with
  | none => d
  | some (s, t, by_) =>
    let d := (d.waitUntil (t + ms)).wr SYS.VLOG_AVG5 avg
    let d := { d with upd := { d.upd with staging := some (s, t + ms, by_) } }.wr UPD.PROGRESS
      (Nat.max (d.rd UPD.PROGRESS) (Nat.min written s.data.length))
    match d.gateConditions with
    | none => if by_ ≤ d.now then d.stageEnd else d
    | some r => d.stageAbandon r

/-! Activation (R422, R424). -/

/-- PENDING is set when the other slot is STAGED (R422). -/
def Dev.activate (d : Dev) (avg : Nat) : Dev × Bool :=
  let d := d.wr SYS.VLOG_AVG5 avg
  match d.gateRefusal false with
  | some r => (d.updRefuse r, false)
  | none =>
    if d.slotState d.otherSlot ≠ 2 then (d.updRefuse urNoStaged, false)
    else (((d.wr UPD.PENDING 1).wr UPD.RESULT urOk).slotKeep.updateRecord 3 d.otherSlot urOk, true)

/-- ACTIVATE (R422). -/
def activateSlot (avg : Nat) (d : Dev) : Dev := (d.activate avg).1

/-- ACTIVATE_WITH_REBOOT: the module is reset with cause MODULE (R422). -/
def activateReboot (avg : Nat) (m : Memory) (d : Dev) : Dev × Memory :=
  let (d, ok) := d.activate avg
  if ok then d.moduleReset else (d, m)

/-- ABANDON: not gated (R422). -/
def abandonPending (d : Dev) : Dev := ((d.wr UPD.PENDING 0).wr UPD.RESULT urOk).slotKeep

/-- The state of the old slot once its successor is confirmed: STAGED where it still keeps its content; a staging begun during the
trial leaves the state it has (R424; assumption 42). -/
def oldSlotState (st : Nat) : Nat := if st = 3 ∨ st = 4 then 2 else st

/-- CONFIRM: the TRIAL slot becomes ACTIVE, the old one STAGED (R424). -/
def confirmSlot (d : Dev) : Dev :=
  if !d.onTrial then d.updRefuse urNotTrial
  else
    let a := d.rd UPD.ACTIVE
    let d := ((d.slotTo a 3).slotTo (1 - a) (oldSlotState (d.slotState (1 - a)))).wr UPD.RESULT urOk
    ((d.cause UPD.EVT 5).slotKeep).updateRecord 5 a urOk

/-! The owner lock (R426). -/

/-- UPD_CHALLENGE: a fresh random 16-byte challenge (R404, R426). -/
def updChallenge (d : Dev) : Dev :=
  let bs := leBytes 16 (d.free % 2 ^ 128)
  let d := forAll (List.range 4) (fun k d => d.wr UPD.UPD_CHAL (leWord k bs) k) d.freeTaken
  { d with upd := { d.upd with challenge := some (bs, d.now) } }.wr UPD.RESULT urOk

/-- The checks of LOCK and UNLOCK: the gate, then those of R405 that apply; none where the request is admitted. -/
def Dev.lockRefusal (d : Dev) (unlock keyFits : Bool) (key k : Nat) (m : Memory) : Option Nat :=
  let a := 16 * d.rd UPD.TOKEN_ADDR16
  match d.gateRefusal unlock with
  | some r => some r
  | none =>
    if (match d.upd.challenge with | none => true | some (_, t) => decide (t + 60 * second < d.now)) then some urNoChallenge
    else if !d.coreMayWrite a 192 then some urAddr
    else if !keyFits ∨ !d.tokenKey m a key then some urKey
    else if !tokenSigned m a d.upd.challenge (if unlock then 5 else 4) key k then some urSignature
    else none

/-- A LOCK or UNLOCK: every request uses up the challenge (R404, R426). -/
def Dev.lockRequest (d : Dev) (unlock keyFits : Bool) (key avg k : Nat) (m : Memory) : Dev :=
  let d := d.wr SYS.VLOG_AVG5 avg
  let res := d.lockRefusal unlock keyFits key k m
  let d := { d with upd := { d.upd with challenge := none } }
  match res with
  | some r => d.updRefuse r
  | none =>
    let d := (d.wr UPD.OWNER_LOCKED (bit (!unlock))).wr UPD.RESULT urOk
    let d := if unlock then d else d.wr UPD.LOCK_SLOT key
    d.slotKeep.updateRecord (if unlock then 11 else 10) (d.rd UPD.ACTIVE) urOk

/-- LOCK: an image-key slot admits it (R426). -/
def ownerLock (key avg k : Nat) (m : Memory) (d : Dev) : Dev := d.lockRequest false (decide (key < 4)) key avg k m

/-- UNLOCK: the key of LOCK_SLOT or the factory key admits it (R426). -/
def ownerUnlock (key avg k : Nat) (m : Memory) (d : Dev) : Dev :=
  d.lockRequest true (decide (key = d.rd UPD.LOCK_SLOT ∨ key = 15)) key avg k m

/-! Opdofy (R428 to R431). -/

/-- The header of a module message (Table 17.6). -/
def Dev.opHead (d : Dev) (type status session : Nat) : List Nat :=
  [0x4F, 0x50, 16 + type, status] ++ leBytes 2 session ++ leBytes 2 d.upd.sent

/-- Opdofy sends a message; the module counts its messages (Table 17.6). On CAN0 a frame has 64 bytes (R428). -/
def Dev.opSend (d : Dev) (transport host type status session : Nat) (body : List Nat) : Dev :=
  let bs := d.opHead type status session ++ body
  let d := if transport = 1 then d.emit (.can 0 0x7E1 (padTo 64 bs)) else d.emit (.opdofy host bs)
  { d with upd := { d.upd with sent := (d.upd.sent + 1) % 65536 } }

/-- MAX_CHUNK of a transport (R429). -/
def maxChunk (transport : Nat) : Nat := if transport = 1 then 48 else 1024

/-- FW_VER of a slot that passed its last verification, else 0 (Table 17.7). -/
def Dev.passedVer (d : Dev) (n : Nat) : Nat := if d.upd.passed.testBit n then fwVer (d.fwSlot n).data else 0

/-- The host address that stands for the broadcast on SVC (R428). -/
def opBroadcast : Nat := 0xC0A8FAFF

/-- The session ends; slot A is left EMPTY and HELLO resumes (R430). -/
def Dev.opDrop (d : Dev) : Dev :=
  (({ d with upd := { d.upd with session := none, helloAt := d.now } }.slotTo 0 0).setSlot 0 default).slotKeep

/-- A session that has had no message for 10 s is dropped (R430). -/
def Dev.opExpire (d : Dev) : Dev :=
  match d.upd.session with
  | some s => if s.heardAt + 10 * second ≤ d.now then d.opDrop else d
  | none => d

/-- HELLO on both transports, every 1 s in RECOVERY while no session is open (R428, R429). -/
def hello (d : Dev) : Dev :=
  let d := d.opExpire
  if d.mode ≠ 3 ∨ d.upd.session.isSome then d
  else
    let d := d.waitUntil (d.upd.helloAt + second)
    let lock := d.rd UPD.OWNER_LOCKED + 2 * d.rd UPD.LOCK_SLOT
    let body (t : Nat) : List Nat := [d.upd.why, lock] ++ leBytes 2 (maxChunk t) ++ leBytes 4 (d.passedVer 0) ++ leBytes 4 (d.passedVer 1)
    let d' := (d.opSend 0 opBroadcast 1 0 0 (body 0)).opSend 1 0 1 0 0 (body 1)
    { d' with upd := { d'.upd with helloAt := d.now } }

/-- OPEN from a host on a transport; `avg` is the 5 s mean of LOG (R430). -/
def opOpen (transport host total avg : Nat) (d : Dev) : Dev :=
  if d.mode ≠ 3 then d
  else
    let d := d.opExpire.wr SYS.VLOG_AVG5 avg
    let answer (d : Dev) (st id : Nat) : Dev := d.opSend transport host 3 st id (leBytes 4 total)
    if d.upd.session.isSome then answer d 1 0
    else if avg < (if d.sys.detected = 1 then 2300 else 1150) then answer d 2 0
    else if 0x1000000 < total then answer d 4 0
    else
      let id := d.free % 65536
      let d := ((d.freeTaken.slotTo 0 1).setSlot 0 default).slotKeep
      let d := { d with upd := { d.upd with session := some ⟨transport, host, id, total, d.now⟩ } }
      answer d 0 id

/-- What a message of a session meets: the session, when it is the one named; else BAD-SESSION (R430). -/
def Dev.inSession (d : Dev) (transport host session type : Nat) (f : OpSession → Dev → Dev × Memory) (m : Memory) : Dev × Memory :=
  let d := d.opExpire
  match d.upd.session with
  | some s =>
    if s.id = session ∧ s.transport = transport then
      f s { d with upd := { d.upd with session := some { s with heardAt := d.now } } }
    else (d.opSend transport host type 3 session [], m)
  | none => if d.mode = 3 then (d.opSend transport host type 3 session [], m) else (d, m)

/-- DATA: a chunk at the expected offset is written to slot A and acknowledged; `flashOk` says whether the write took (R430). -/
def opData (transport host session offset : Nat) (chunk : List Nat) (flashOk : Bool) (m : Memory) (d : Dev) : Dev × Memory :=
  d.inSession transport host session 5 (fun s d =>
    let next := (d.fwSlot 0).data.length
    let n := chunk.length
    let take : Bool := decide (offset = next ∧ n ≤ maxChunk transport ∧ next + n ≤ s.total)
    if take ∧ !flashOk then ((d.opSend transport host 5 7 session (leBytes 4 next)).opDrop, m)
    else
      let d := if take then d.setSlot 0 ⟨(d.fwSlot 0).data ++ chunk.map (fun b => b % 256), 0, 0⟩ else d
      (d.opSend transport host 5 0 session (leBytes 4 (d.fwSlot 0).data.length), m)) m

/-- What END finds of the image in slot A, as STATUS (R430); `k1` and `k2` as for a slot. -/
def Dev.opVerify (d : Dev) (crc total k1 k2 : Nat) : Nat :=
  let bs := (d.fwSlot 0).data
  if crc32c bs ≠ crc ∨ bs.length ≠ total ∨ !fwHeaderOk bs total ∨ !fwPartsOk bs then 4
  else if !fwSigned ⟨bs, k1, k2⟩ ∨ !d.hostKeyOk bs then 5
  else if d.flag UPD.OWNER_LOCKED ∧ Config.sha384 (blockPub (fwHostBlock bs)) ≠ d.keySlot (d.rd UPD.LOCK_SLOT) then 6
  else 0

/-- END: the image in slot A is checked; one that passes becomes ACTIVE and the module resets to BOOT (R430, Table 2.2). -/
def opEnd (transport host session crc k1 k2 : Nat) (flashOk : Bool) (m : Memory) (d : Dev) : Dev × Memory :=
  d.inSession transport host session 7 (fun s d =>
    let st := d.opVerify crc s.total k1 k2
    let st := if st = 0 ∧ !flashOk then 7 else st
    let ver := fwVer (d.fwSlot 0).data
    let d := d.opSend transport host 7 st session (leBytes 4 ver)
    if st ≠ 0 then (d.opDrop, m)
    else
      let d := (d.setSlot 0 ⟨(d.fwSlot 0).data, k1, k2⟩).setSlot 1 default
      let d := (((d.slotTo 0 3).slotTo 1 0).wr UPD.ACTIVE 0).wr UPD.PENDING 0 |>.wr UPD.TRIAL 0 |>.wr UPD.LATCH 0
      let d := { d with upd := { d.upd with session := none } }.slotKeep
      (d.owe 6 0 (d.updateData 9 0 1)).islandStart 5 4 false (d.rd SYS.VLOG_NOW)) m

/-- OPDOFY_ABORT (R430). -/
def opAbort (transport host session : Nat) (m : Memory) (d : Dev) : Dev × Memory :=
  d.inSession transport host session 8 (fun _ d => (d.opDrop, m)) m

/-- LEAVE: LATCH is cleared and the module resets to BOOT when a slot passes now; else NO-SLOT (R431). -/
def opLeave (transport host session : Nat) (m : Memory) (d : Dev) : Dev × Memory :=
  if d.mode ≠ 3 then (d, m)
  else
    let go (d : Dev) : Dev × Memory :=
      let a := d.verifySlot 0
      let b := a.1.verifySlot 1
      if a.2 ∨ b.2 then ((b.1.wr UPD.LATCH 0).slotKeep).islandStart 5 4 false (d.rd SYS.VLOG_NOW)
      else (b.1.opSend transport host 9 8 session [], m)
    let d := d.opExpire
    match d.upd.session with
    | none => go d
    | some _ => d.inSession transport host session 9 (fun _ d => go d) m

/-- SESSION_TIMEOUT: 10 s with no message (R430). -/
def opSessionTimeout (d : Dev) : Dev :=
  match d.upd.session with
  | none => d
  | some s => (d.waitUntil (s.heardAt + 10 * second)).opDrop

end Sys2Proof.Machine
end

