-- ==== Sys2Proof/Machine/Can.lean ====
section
/-! DEFINITION. Machine/Can.lean: the CAN ports: frames, maps, time-triggered operation (chapter 14, R349 to R357, R365). -/

namespace Sys2Proof.Machine

/-! Ports. -/

/-- Port `p` runs: built, enabled, powered. -/
def Dev.canOn (d : Dev) (p : Nat) : Bool := decide (p < 8) && d.powered 14 && (d.rd CAN.EN).testBit p && decide (d.rd CAN.P_KIND p ≠ 0)

/-- Port `p` runs time-triggered operation (R352). -/
def Dev.canTT (d : Dev) (p : Nat) : Bool := d.canOn p && decide (d.rd CAN.P_KIND p = 2)

/-- Port `p` is in bus-off (R351). -/
def Dev.busOff (d : Dev) (p : Nat) : Bool := decide (d.rd CAN.P_ERR_STATE p = 2)

/-- Sets a bit of NODE_LOST. -/
def Dev.nodeLostBit (d : Dev) (n : Nat) (b : Bool) : Dev := d.wrBit CAN.NODE_LOST (n % 32) b (n / 32)

/-- SYNC of a port, and its bit of SYNCED (R356). -/
def Dev.syncTo (d : Dev) (p st : Nat) : Dev := (d.wr CAN.P_SYNC st p).wrBit CAN.SYNCED p (decide (st = 2))

/-- CARSIL_READY (R356); it reads 0 while a load rebuilds CR13 (R471). -/
def Dev.carsilReady (d : Dev) : Dev :=
  d.wr SLU.CARSIL_READY (bit (decide (d.rd CAN.P_SYNC 0 = 2 ∨ d.rd CAN.P_SYNC 1 = 2) && !d.regionsShut.contains 13))

/-! Bits of frames. -/

/-- `len` bits from bit `lo` of a frame's data, bit 0 the lowest of byte 0. -/
def frameBits (data : List Nat) (lo len : Nat) : Nat := leVal data / 2 ^ lo % 2 ^ len

/-- A frame's data with `len` bits from bit `lo` replaced. -/
def putFrameBits (data : List Nat) (lo len v : Nat) : List Nat :=
  let w := leVal data
  let old := w / 2 ^ lo % 2 ^ len
  leBytes data.length (w + v % 2 ^ len * 2 ^ lo - old * 2 ^ lo)

/-- The queue item a received frame becomes: identifier with bit 31 for 29 bits, length, port, two reserved bytes, MT at its end,
data (assumption 32). -/
def Dev.canItem (d : Dev) (p id : Nat) (data : List Nat) : List Nat :=
  leBytes 4 id ++ [data.length, p, 0, 0] ++ leBytes 8 d.mt ++ data

/-- The frame a queue item asks for: identifier and data (assumption 32). -/
def itemFrame (bs : List Nat) : Nat × List Nat := (leVal (bs.take 4), (bs.drop 16).take (bs.getD 4 0))

/-! Receiving (R349, R365). -/

/-- An item for a queue; one the full queue drops counts in RX_DROPPED (R26, R349). -/
def Dev.canToQueue (d : Dev) (p q : Nat) (bs : List Nat) : Dev :=
  let n := d.rd QUE.Q_DROPS q
  let room : Bool := decide ((d.queue q).occ + (bs.length + 31) / 32 ≤ d.capacity q)
  let d := d.queueItem 14 q bs
  if room ∧ d.rd QUE.Q_DROPS q = n then d else (d.count CAN.P_RX_DROPPED p).cause CAN.EVT 7

/-- An identifier passes a filter: equal under its mask, of its length (R349). -/
def filterTakes (mask fid id : Nat) (ext : Bool) : Bool :=
  decide (id.testBit 31 = ext ∧ Nat.land id mask % 2 ^ 29 = Nat.land fid mask % 2 ^ 29)

/-- The frame goes into every queue whose filter takes it (R349). -/
def Dev.canFilters (d : Dev) (p id : Nat) (data : List Nat) : Dev :=
  forAll (d.itemsOf 13) (fun it d => match it with
    | .canFilter q' mask fid ext q => if q' = p ∧ filterTakes mask fid id ext then d.canToQueue p q (d.canItem p id data) else d
    | _ => d) d

/-- A node is heard: a lost one is back (R365). -/
def Dev.nodeAlive (d : Dev) (n : Nat) : Dev :=
  let d := { d with net := { d.net with heard := tset n d.now d.net.heard } }
  if (d.rd CAN.NODE_LOST (n / 32)).testBit (n % 32) then
    ((d.sourceFound (.node n)).nodeLostBit n false).recover Flt.NET_NODE_LOST n
  else d

/-- The frame fills the points its receive maps name (R365). -/
def Dev.canMaps (d : Dev) (p id : Nat) (data : List Nat) : Dev :=
  forAll (d.itemsOf 13) (fun it d => match it with
    | .rxMap n q fid lo len pt =>
      let listed : Bool := (d.itemsOf 13).any fun x => match x with | .netNode k cans _ _ _ => decide (k = n) && cans.contains q | _ => false
      if q = p ∧ fid = id ∧ listed then (d.nodeAlive n).pointUpdate pt (frameBits data lo len) else d
    | _ => d) d

/-- A Carsil message by its TYPE (Table 6.6). -/
def Dev.carsilMessage (d : Dev) (bs : List Nat) : Dev :=
  match bs.getD 0 0 % 16 with
  | 1 => prepareMessage bs d
  | 2 => voteMessage bs d
  | 3 => commitMessage bs d
  | 4 => abortMessage bs d
  | 5 => outcomeMessage bs d
  | 6 => compMessage bs d
  | 7 => queryMessage bs d
  | _ => d

/-! Reference messages (R354 to R356). -/

/-- The number of basic cycles in the matrix and the length of one, in ns; CAN1 uses CAN0's where both run (R352). -/
def Dev.ttPort (d : Dev) (p : Nat) : Nat := if p = 1 ∧ d.canTT 0 then 0 else p
def Dev.matrixCycles (d : Dev) (p : Nat) : Nat := Nat.max 1 (d.rd CAN.P_MATRIX_CYCLES (d.ttPort p))
def Dev.cycleNs (d : Dev) (p : Nat) : Nat := 1000 * d.rd CAN.P_CYCLE_US (d.ttPort p)

/-- The module is a follower of a joined system, or one that joins (R359). -/
def Dev.joinFollower (d : Dev) : Bool :=
  (decide (d.rd ETH.JOIN_STATE = 1 ∨ d.rd ETH.JOIN_STATE = 2)) && !d.flag ETH.IS_LEADER

/-- The module acts as MASTER: the leader when joined, else by TIME_ROLE; an EXCLUDED module only where TIME_ROLE says so (R359, Table 14.6). -/
def Dev.timeMaster (d : Dev) : Bool :=
  if d.rd ETH.JOIN_STATE = 1 ∨ d.rd ETH.JOIN_STATE = 2 then d.flag ETH.IS_LEADER
  else if d.rd ETH.JOIN_STATE = 3 then decide (d.rd ETH.TIME_ROLE = 1)
  else decide (d.rd ETH.TIME_ROLE ≤ 1)

/-- Where the module takes time from: 0 nowhere, 2 802.1AS, 3 CAN0 (R359, Table 14.6). -/
def Dev.timeFrom (d : Dev) : Nat :=
  if d.joinFollower then 2 else if d.timeMaster then 0 else d.rd ETH.TIME_ROLE

/-- The module may send reference messages at all: no JOINING or EXCLUDED peer, none at positions 8 to 15 (R355). -/
def Dev.refAllowed (d : Dev) (p : Nat) : Bool :=
  let pos := ((List.range 16).find? fun e => d.flag ETH.PE_BUILT e && decide (d.rd ETH.PE_ADDR e = d.rd ETH.OWN_ADDR)).getD 0
  d.flag CAN.P_REF_ABLE p && decide (d.rd ETH.JOIN_STATE ≠ 1 ∧ d.rd ETH.JOIN_STATE ≠ 3) && decide (pos < 8)

/-- A mark on a port: a basic cycle begins, and with cycle 0 a matrix cycle (R354, Table 3.6). -/
def Dev.markAt (d : Dev) (p cycle : Nat) : Dev :=
  let d := { d with net := { d.net with
    marks := tset p d.mt d.net.marks
    markOfs := tset p d.gpsOfs d.net.markOfs } }.wr CAN.P_CYCLE cycle p
  let d := if cycle = 0 then d.boundary 14 (p + 1) else d
  if d.ttPort p = p then d.boundary 5 0 else d

/-- The reference message of the module (Table 14.5). -/
def Dev.refMessage (d : Dev) (p cycle : Nat) : List Nat :=
  let prev := tget? p d.net.marks
  let disc : Bool := decide (prev.isNone ∨ tget? p d.net.markOfs ≠ some d.gpsOfs)
  let prevNet : Nat := match prev with | some m => d.netTime m | none => 0
  [cycle + 128 * bit disc, d.rd ETH.OWN_ADDR] ++ leBytes 2 (d.rd CAN.P_MATRIX_ID p) ++ leBytes 8 prevNet
    ++ leBytes 2 (d.cycleNs p / 1000) ++ [0, 0]

/-- The module sends its reference message on port `p` now: a master's port is SYNCED (R354 to R356). -/
def Dev.sendReference (d : Dev) (p : Nat) : Dev :=
  let cycle := if d.ttPort p ≠ p then d.rd CAN.P_CYCLE 0 else match tget? p d.net.marks with
    | some _ => (d.rd CAN.P_CYCLE p + 1) % d.matrixCycles p
    | none => 0
  let d := d.emit (.can p (d.rd CAN.REF_ID_BASE + d.rd CAN.P_REF_PRIO p) (d.refMessage p cycle))
  let was := d.rd CAN.P_SYNC p
  let d := if d.rd CAN.P_MASTER_PRIO p = d.rd CAN.P_REF_PRIO p ∧ was = 2 then d
           else if was = 2 then d.cause CAN.EVT 4 else d
  let d := (((d.markAt p cycle).wr CAN.P_MASTER_PRIO (d.rd CAN.P_REF_PRIO p) p).wr CAN.P_IS_MASTER 1 p).syncTo p 2
  if was = 2 then d else (d.recover Flt.CAN_SYNC_LOST p).recover Flt.CAN_MATRIX_MISMATCH p

/-- The next expected mark of a port. -/
def Dev.nextMark (d : Dev) (p : Nat) : Option Nat := (tget? p d.net.marks).map fun m => m + d.cycleNs p

/-- A reference window: the time master sends; CAN1's mark follows CAN0's by CAN1_OFS_US (R352, R355). -/
def Dev.referenceWindow (d : Dev) (p : Nat) : Dev :=
  if !d.flag CAN.P_IS_MASTER p then d
  else
    let d := if d.ttPort p ≠ p then
        (match tget? 0 d.net.marks with | some m => d.waitMt (m + 1000 * d.rd CAN.CAN1_OFS_US) | none => d)
      else match d.nextMark p with | some t => d.waitMt t | none => d
    if d.busOff p then d else d.sendReference p

/-- BACKUP_REFERENCE_SEND: a potential master saw no start-of-frame by the expected mark + 20 µs × REF_PRIO (R355). -/
def backupReference (p : Nat) (d : Dev) : Dev :=
  let prio := d.rd CAN.P_REF_PRIO p
  let able := d.canTT p && d.refAllowed p && decide (1 ≤ prio) && decide (d.rd ETH.JOIN_STATE = 2) && d.joinFollower
    && decide (d.rd ETH.TIME_ROLE ≠ 3) && !d.busOff p && !d.flag CAN.P_IS_MASTER p
  match able, d.nextMark p with
  | true, some t =>
    let d := (d.waitMt (t + 20000 * prio)).sendReference p
    { d with net := { d.net with backup := p :: d.net.backup } }
  | _, _ => d

/-! Time measurements (R104, R359, R373). -/

/-- MT_ERR is above 100 µs twice, or at or below 20 µs eight times: HOLD_NET and its fault (R373). -/
def Dev.timeCheck (d : Dev) : Dev :=
  let err := (d.rdS TMB.MT_ERR).natAbs
  let bad : Nat := if 100000 < err then d.net.timeBad + 1 else 0
  let good : Nat := if err ≤ 20000 then d.net.timeGood + 1 else 0
  let d := { d with net := { d.net with timeBad := bad, timeGood := good } }
  let d : Dev :=
    if bad = 2 then
      let d := (d.setHold TMB.HOLD_NET true).count ETH.DISAGREES
      ((d.cause ETH.EVT 6).raise Flt.NET_TIME_DISAGREE)
    else d
  if 8 ≤ good ∧ (d.flag TMB.HOLD_NET ∨ !d.net.agreed) then
    let d := { d with net := { d.net with agreed := true } }.writeHold TMB.HOLD_NET false
    (d.cause ETH.EVT 7).recover Flt.NET_TIME_DISAGREE
  else d

/-- One measurement against network time: `ref` is the network time now (R359). -/
def Dev.netMeasure (d : Dev) (ref : Int) : Dev :=
  if d.running ∧ d.mtDisc = 2 then (ppsEdgeMeasure 2 ref d).timeCheck else d

/-- Two reference messages in consecutive cycles, both matching: SYNCED; MATRIX-MISMATCH is left for WAITING (R356). -/
def Dev.refMatch (d : Dev) (p cycle : Nat) : Dev :=
  let st := d.rd CAN.P_SYNC p
  let d := if st = 3 then (d.syncTo p 1).recover Flt.CAN_MATRIX_MISMATCH p else d
  let next : Bool := decide (tget? p d.net.refRun = some ((cycle + d.matrixCycles p - 1) % d.matrixCycles p))
  let d := { d with net := { d.net with refRun := tset p cycle d.net.refRun } }
  if st = 1 ∧ next then (d.syncTo p 2).recover Flt.CAN_SYNC_LOST p else d

/-- REFERENCE_MESSAGE: 16 bytes with priority `prio` on port `p`; a module that stays master keeps its own marks (R354 to R356, R359, R373). -/
def referenceMessage (p prio : Nat) (bs : List Nat) (d : Dev) : Dev :=
  if !d.canTT p ∨ d.busOff p ∨ bs.length ≠ 16 ∨ !d.running then d
  else if leVal ((bs.drop 2).take 2) ≠ d.rd CAN.P_MATRIX_ID p ∨ 1000 * leVal ((bs.drop 12).take 2) ≠ d.cycleNs p then
    let d := { d with net := { d.net with refRun := tdel p d.net.refRun } }
    if d.rd CAN.P_SYNC p = 3 then d
    else ((d.syncTo p 3).cause CAN.EVT 3).raise Flt.CAN_MATRIX_MISMATCH p
  else
    let cycle := bs.getD 0 0 % 64
    let disc : Bool := (bs.getD 0 0).testBit 7
    let prevMark := tget? p d.net.marks
    let prevNet : Int := leVal ((bs.drop 4).take 8)
    let d := if prio % 8 < d.rd CAN.P_REF_PRIO p ∧ d.flag CAN.P_IS_MASTER p ∧ !d.timeMaster then
        { d with net := { d.net with backup := d.net.backup.filter fun x => decide (x ≠ p) } }.wr CAN.P_IS_MASTER 0 p
      else d
    if d.flag CAN.P_IS_MASTER p then d
    else
      let d := if d.rd CAN.P_MASTER_PRIO p = prio % 8 then d else (d.wr CAN.P_MASTER_PRIO prio p).cause CAN.EVT 4
      let d := (d.refMatch p cycle).markAt p cycle
      match prevMark with
      | some m => if p = 0 ∧ d.timeFrom = 3 ∧ !disc then d.netMeasure (prevNet + ((d.mt : Int) - m)) else d
      | none => d

/-- SYNC_LOST: no reference message for two basic cycles (R356). -/
def syncLost (p : Nat) (d : Dev) : Dev :=
  if !d.canTT p ∨ d.flag CAN.P_IS_MASTER p ∨ d.rd CAN.P_SYNC p ≠ 2 then d
  else
    let d := match tget? p d.net.marks with | some m => d.waitMt (m + 2 * d.cycleNs p) | none => d
    let d := { d with net := { d.net with refRun := tdel p d.net.refRun } }
    ((d.syncTo p 1).cause CAN.EVT 2).raise Flt.CAN_SYNC_LOST p

/-! Sending (R353, R365). -/

/-- The item presented at a queue's head, with every byte of it, when the network block may use it (R388). -/
def Dev.headItem (d : Dev) (q : Nat) : Option (List Nat) :=
  let h := d.queue q
  match h.presented, h.head with
  | some _, _ :: _ => if h.spoilt then none else some ((itemOf h.all).flatMap fun x => x.data.take x.valid)
  | _, _ => none

/-- Takes the frame at the head of a queue: identifier and data; a spoilt item is discarded and counted (R388). -/
def Dev.takeFrame (d : Dev) (q : Nat) : Dev × Option (Nat × List Nat) :=
  let h := d.queue q
  match d.headItem q with
  | some bs => (d.takeHead q true, some (itemFrame bs))
  | none => if h.presented.isSome then ((d.count QUE.Q_CONS_DISC q).takeHead q true, none) else (d, none)

/-- A transmit-mapped frame with its points' values (R365). -/
def Dev.mapFrame (d : Dev) (p id size : Nat) : List Nat :=
  (d.itemsOf 13).foldl (fun bs it => match it with
    | .txMap pt q fid lo len _ _ => if q = p ∧ fid = id then putFrameBits bs lo len (d.point pt).value else bs
    | _ => bs) (List.replicate size 0)

/-- A change of a transmit-mapped point: into its slot, on its way on an event port, or to wait for a FREE window (R365). -/
def Dev.txChanged (d : Dev) (pt p id size : Nat) (slot : Option Nat) : Dev :=
  let d := { d with net := { d.net with txSeen := tset pt ((d.point pt).value + 1) d.net.txSeen } }
  let bs := d.mapFrame p id size
  match slot with
  | some s => { d with net := { d.net with slots := tset (64 * p + s) bs d.net.slots } }
  | none =>
    if d.canOn p ∧ !d.canTT p ∧ !d.busOff p then d.emit (.can p id bs)
    else { d with net := { d.net with tx := (d.net.tx.filter fun x => decide (¬(x.1 = p ∧ x.2.1 = id))) ++ [(p, id, bs)] } }

/-- Transmit-mapped points that have changed are taken up (R365). -/
def Dev.txTakeUp (d : Dev) : Dev :=
  forAll (d.itemsOf 13) (fun it d => match it with
    | .txMap pt p id _ _ size slot =>
      if d.canOn p ∧ (d.point pt).seq ≠ 0 ∧ tget? pt d.net.txSeen ≠ some ((d.point pt).value + 1) then d.txChanged pt p id size slot else d
    | _ => d) d

/-- What the message slot of a window holds when it starts: the mapped frame, or the item its queue presents (R349, R353). -/
def Dev.slotFrame (d : Dev) (p s : Nat) : Dev × Option (Nat × List Nat) :=
  match (d.itemsOf 13).findSome? fun it => match it with | .canSlot q k id len src => if q = p ∧ k = s then some (id, len, src) else none | _ => none with
  | none => (d, none)
  | some (id, len, src) =>
    match tget? (64 * p + s) d.net.slots, src with
    | some bs, _ => (d, some (id, padTo len bs))
    | none, some q =>
      let (d, f) := d.takeFrame q
      (match f with | some g => { d with net := { d.net with slots := tset (64 * p + s) (padTo len g.2) d.net.slots } } | none => d,
       f.map fun g => (id, padTo len g.2))
    | none, none => (d, none)

/-- The slot is empty again. -/
def Dev.slotSent (d : Dev) (p s : Nat) : Dev := { d with net := { d.net with slots := tdel (64 * p + s) d.net.slots } }

/-- An EXCLUSIVE or ARBITRATING window of a slot of the module; `won` says whether the frame won the bus (R353, R351, R356). -/
def Dev.slotWindow (d : Dev) (p s : Nat) (exclusive won : Bool) : Dev :=
  if !d.busOff p ∧ d.rd CAN.P_SYNC p ≠ 2 then d
  else
    let (d, f) := d.slotFrame p s
    match f with
    | none => if exclusive then d.count CAN.P_TX_LATE p else d
    | some (id, bs) =>
      if d.busOff p then (d.slotSent p s).count CAN.P_MISSED_WIN p
      else if !won then d
      else (d.slotSent p s).emit (.can p id bs)

/-- The queue a port sends event-triggered frames from (R349). -/
def Dev.eventQueue (d : Dev) (p : Nat) : Option Nat :=
  (d.itemsOf 13).findSome? fun it => match it with | .canTxQueue q n => if q = p then some n else none | _ => none

/-- One event-triggered frame of a port leaves: mapped ones first (R365). -/
def Dev.sendEvent (d : Dev) (p : Nat) : Dev :=
  match d.net.tx.find? fun x => decide (x.1 = p) with
  | some x => { d with net := { d.net with tx := d.net.tx.erase x } }.emit (.can p x.2.1 x.2.2)
  | none => match d.eventQueue p with
    | some q =>
      let (d, f) := d.takeFrame q
      (match f with | some g => d.emit (.can p g.1 g.2) | none => d)
    | none => d

/-- The mapped frames that waited for the port leave (R351, R365). -/
def Dev.txFlush (d : Dev) (p : Nat) : Dev :=
  let due := d.net.tx.filter fun x => decide (x.1 = p)
  forAll due (fun x d => d.emit (.can p x.2.1 x.2.2)) { d with net := { d.net with tx := d.net.tx.filter fun x => decide (x.1 ≠ p) } }

/-- Identifier and length of the event-triggered frame of a port that is next. -/
def Dev.nextEvent (d : Dev) (p : Nat) : Option (Nat × Nat) :=
  match d.net.tx.find? fun x => decide (x.1 = p) with
  | some x => some (x.2.1, x.2.2.length)
  | none => ((d.eventQueue p).bind d.headItem).map fun bs => ((itemFrame bs).1, (itemFrame bs).2.length)

/-- Half nanoseconds that frame may take: 29-bit identifiers add 20 bits and their stuffing. -/
def Dev.eventTime (d : Dev) (p : Nat) : Nat :=
  match d.nextEvent p with
  | some (id, n) => d.canFrameTime p n + (if id.testBit 31 then 25 * (d.canBit p).1 else 0)
  | none => 0

/-- A FREE window with `left` half nanoseconds to go: no frame is started that cannot end before it does (R353). The first argument bounds
the frames looked at. -/
def freeSend (p : Nat) : Nat → Nat → Dev → Dev
  | 0, _, d => d
  | k + 1, left, d => if left < d.eventTime p then d else freeSend p k (left - d.eventTime p) (d.sendEvent p)

/-- A FREE window of `len` µs (R353): one item may be a spoilt one, which takes no time. -/
def Dev.freeWindow (d : Dev) (p len : Nat) : Dev :=
  if d.busOff p then d else freeSend p (2000 * len / Nat.max 1 (d.canFrameTime p 0) + 1024) (2000 * len) d

/-- The entries of the window that starts `start` µs after the mark, in the current cycle: kind, length and slot (Table 14.3). -/
def Dev.windowEntries (d : Dev) (p start : Nat) : List (Nat × Nat × Nat) :=
  let c := d.rd CAN.P_CYCLE p
  (d.itemsOf 13).filterMap fun it => match it with
    | .canWindow q s len kind base rep slot => if q = p ∧ s = start ∧ c % 2 ^ rep = base then some (kind, len, slot) else none
    | _ => none

/-- CAN_WINDOW: the window `start` µs after the mark begins on a time-triggered port; `won` says whether the module's frame wins an
ARBITRATING one, and other nodes' frames take `busy` µs of a FREE one (R353, R354). Carsil windows are `carsilWindow`'s. -/
def canWindow (p start busy : Nat) (won : Bool) (d : Dev) : Dev :=
  if !d.canTT p ∨ !d.running then d
  else if start = 0 then d.referenceWindow p
  else match tget? p d.net.marks with
    | none => d
    | some m =>
      let d := d.waitMt (m + 1000 * start)
      forAll (d.windowEntries p start) (fun e d => match e.1 with
        | 1 => d.slotWindow p e.2.2 true true
        | 2 => d.slotWindow p e.2.2 false won
        | 3 => d.freeWindow p (e.2.1 - busy)
        | _ => d) d

/-- The receive error counter after a frame, as ISO 11898-1 counts (assumption 54): one more for a bad frame; one less for a good one, and
from above 127 to a value of 119 to 127 that the standard leaves open. -/
def Dev.recAfter (d : Dev) (p : Nat) (good : Bool) : Dev :=
  let r := d.rd CAN.P_REC p
  if !good then d.wr CAN.P_REC (satInc 8 r) p
  else if 127 < r then { d.wr CAN.P_REC (119 + Config.freeValue d.freeSeq % 9) p with freeSeq := d.freeSeq + 1 }
  else d.wr CAN.P_REC (r - 1) p

/-- ERR_STATE of a port that is not in bus-off: passive while an error counter is above 127 (R351, R375). -/
def Dev.errState (d : Dev) (p : Nat) : Dev := d.wr CAN.P_ERR_STATE (bit (127 < d.rd CAN.P_TEC p ∨ 127 < d.rd CAN.P_REC p)) p

/-- CAN_FRAME_RX: a frame is received on a port; bit 31 of `id` marks 29 bits (R168, R349, R354, R365). One that is not `good` counts as an
error frame and is taken no further. -/
def canFrameRx (p id : Nat) (data : List Nat) (good : Bool) (d : Dev) : Dev :=
  if !d.canOn p ∨ d.busOff p then d
  else if !good then ((d.count CAN.P_ERR_FRAMES p).recAfter p false).errState p
  else
    let d := (d.recAfter p true).errState p
    let d := if d.canTT p then d else d.boundary 14 (p + 1)
    let ref : Bool := decide (d.rd CAN.REF_ID_BASE ≤ id ∧ id < d.rd CAN.REF_ID_BASE + 8)
    let carsil : Bool := decide (d.rd CAN.CARSIL_ID_BASE < id ∧ id < d.rd CAN.CARSIL_ID_BASE + 8)
    if d.canTT p ∧ ref then referenceMessage p (id - d.rd CAN.REF_ID_BASE) data d
    else if d.canTT p ∧ carsil then d.carsilMessage data
    else (d.canMaps p id data).canFilters p id data

/-- NODE_TIMEOUT: no mapped frame of node `n` for NODE_TMO_MS (R365). -/
def nodeTimeout (n : Nat) (d : Dev) : Dev :=
  match (d.itemsOf 13).findSome? fun it => match it with | .netNode k _ _ _ t => if k = n then some t else none | _ => none with
  | none => d
  | some tmo =>
    if (d.rd CAN.NODE_LOST (n / 32)).testBit (n % 32) ∨ !d.powered 14 then d
    else
      let d := d.waitUntil ((tget? n d.net.heard).getD d.net.joinAt + tmo * ms)
      (((d.sourceLost (.node n)).nodeLostBit n true).cause CAN.EVT 6).raise Flt.NET_NODE_LOST n

/-- BUS_OFF (R351): the port is silent, and its recovery counts from now. -/
def busOffEnter (p : Nat) (d : Dev) : Dev :=
  if !d.canOn p ∨ d.busOff p then d
  else
    let d := { d with net := { d.net with busOffAt := tset p d.now d.net.busOffAt } }
    let d := ((d.wr CAN.P_ERR_STATE 2 p).wrBit CAN.BUS_OFF p true).wr CAN.P_RECOV_SEQ 0 p
    ((d.count CAN.P_BUSOFF_COUNT p).cause CAN.EVT 0).raise Flt.CAN_BUS_OFF p

/-- BUS_OFF_RECOVERY: 128 occurrences of 11 recessive bits have passed, 1,408 nominal bit times at least; a time-triggered port waits for reference messages (R351, R356). -/
def busOffRecovery (p : Nat) (d : Dev) : Dev :=
  if 8 ≤ p ∨ !d.busOff p then d
  else
    let d := d.waitUntil ((tget p d.net.busOffAt) + ceilDiv (1408 * (d.canBit p).1) 2)
    let d := (((d.wr CAN.P_ERR_STATE 0 p).wrBit CAN.BUS_OFF p false).wr CAN.P_RECOV_SEQ 128 p).wr CAN.P_TEC 0 p |>.wr CAN.P_REC 0 p
    let d := { d with net := { d.net with refRun := tdel p d.net.refRun } }
    let d := if d.canTT p then d.syncTo p 1 else if d.canOn p then d.txFlush p else d
    (d.cause CAN.EVT 1).recover Flt.CAN_BUS_OFF p

/-- Time-triggered ports that come to run are WAITING; ports that do not run are NOT-TT (R356). -/
def Dev.ttStates (d : Dev) : Dev :=
  forAll (List.range 8) (fun p d =>
    if d.canTT p then (if d.rd CAN.P_SYNC p = 0 then d.syncTo p 1 else d)
    else if d.rd CAN.P_SYNC p = 0 then d
    else { d with net := { d.net with marks := tdel p d.net.marks, refRun := tdel p d.net.refRun } }.syncTo p 0) d

/-- IS_MASTER of each port: the time master's, or one it has taken over (R355). -/
def Dev.canMasters (d : Dev) : Dev :=
  forAll [0, 1] (fun p d =>
    let m := d.canTT p && d.refAllowed p && (d.timeMaster || d.net.backup.contains p)
    if d.flag CAN.P_IS_MASTER p = m then d else d.wr CAN.P_IS_MASTER (bit m) p) d

/-- DATA_PATH_TAKE for a queue of the CAN or Ethernet block: an event port sends the item's frame; a time-triggered port takes items in
its windows, and one in bus-off leaves them in the queue (R351, R388). -/
def Dev.netTake (d : Dev) (q : Nat) : Dev :=
  let port := (d.itemsOf 13).findSome? fun it => match it with | .canTxQueue p n => if n = q then some p else none | _ => none
  match port with
  | some p =>
    if !d.canOn p ∨ d.canTT p ∨ d.busOff p then d
    else
      let (d, f) := d.takeFrame q
      (match f with | some g => d.emit (.can p g.1 g.2) | none => d)
  | none =>
    if d.rd QUE.Q_CONSUMER q = 15 then
      match d.headItem q with
      | some bs => (d.takeHead q true).emit (.eth 0 6 q bs)
      | none => dataPathTake q d
    else if (d.itemsOf 13).any fun it => match it with | .canSlot _ _ _ _ (some n) => decide (n = q) | _ => false then d
    else dataPathTake q d

end Sys2Proof.Machine
end

