-- ==== Sys2Proof/Machine/Iso.lean ====
section
/-! DEFINITION. Machine/Iso.lean: ISO 11783 in hardware: address claim, transport sessions, condensed work states (R363, R364). The spec names
the standard's parts and not their frames: identifiers and layouts are PRESUMED (assumption 33). -/

namespace Sys2Proof.Machine

/-! Frames of ISO 11783-3. -/

/-- A 29-bit identifier from priority, PDU format, PDU specific and source address; bit 31 marks 29 bits. -/
def isoId (prio pf ps sa : Nat) : Nat := 2 ^ 31 + prio * 2 ^ 26 + pf * 65536 + ps * 256 + sa

/-- PDU format, PDU specific and source address of an identifier. -/
def isoPf (id : Nat) : Nat := id / 65536 % 256
def isoPs (id : Nat) : Nat := id / 256 % 256
def isoSa (id : Nat) : Nat := id % 256

/-- The PGN of an identifier: the destination is no part of it below PDU format 240. -/
def isoPgn (id : Nat) : Nat := (id / 2 ^ 24 % 4) * 65536 + isoPf id * 256 + (if isoPf id < 240 then 0 else isoPs id)

/-- Port `p` carries ISO 11783 (R363). -/
def Dev.isoOn (d : Dev) (p : Nat) : Bool := d.canOn p && decide (d.rd CAN.P_KIND p = 3) && !d.busOff p

/-- NAME, the address held, the preferred address and the part 3 queue of a port. -/
def Dev.isoName (d : Dev) (p : Nat) : Nat := d.rd CAN.P_NAME_LO p + d.rd CAN.P_NAME_HI p * 2 ^ 32
def Dev.isoAddr (d : Dev) (p : Nat) : Nat := d.rd CAN.P_ISO_ADDR p
def Dev.isoPref (d : Dev) (p : Nat) : Nat :=
  ((d.itemsOf 13).findSome? fun it => match it with | .isoPort q a _ => if q = p then some a else none | _ => none).getD 128
def Dev.isoQueue (d : Dev) (p : Nat) : Option Nat :=
  (d.itemsOf 13).findSome? fun it => match it with | .isoPort q _ n => if q = p then some n else none | _ => none

/-- A message of part 3 as an item: PGN, source or destination address, length, data (assumption 32). -/
def isoItem (pgn sa : Nat) (data : List Nat) : List Nat := leBytes 3 pgn ++ [sa] ++ leBytes 4 data.length ++ data

/-- A message is delivered into the port's queue (Table 14.8). -/
def Dev.isoDeliver (d : Dev) (p pgn sa : Nat) (data : List Nat) : Dev :=
  match d.isoQueue p with
  | some q => d.canToQueue p q (isoItem pgn sa data)
  | none => d

/-! Address claim (Table 14.8). -/

/-- The address-claimed message, or cannot-claim from 0xFE. -/
def Dev.claimSend (d : Dev) (p a : Nat) : Dev := d.emit (.can p (isoId 6 0xEE 0xFF a) (leBytes 8 (d.isoName p)))

/-- The port claims an address. -/
def Dev.claim (d : Dev) (p a : Nat) : Dev := { d with net := { d.net with claiming := tset p a d.net.claiming } }.claimSend p a

/-- The port holds no address. -/
def Dev.addrGone (d : Dev) (p : Nat) : Dev :=
  { d with net := { d.net with claiming := tdel p d.net.claiming } }.wr CAN.P_ISO_ADDR 0xFE p |>.wrBit CAN.ISO_CLAIMED p false

/-- The port cannot claim: cannot-claim, ISO_ADDR 0xFE, CAN-ISO-ADDR-LOST, and another claim 1 s later (Table 14.8). -/
def Dev.cannotClaim (d : Dev) (p : Nat) : Dev :=
  let d := (d.addrGone p).claimSend p 0xFE
  ({ d with net := { d.net with cannotAt := tset p d.now d.net.cannotAt } }.cause CAN.EVT 5).raise Flt.CAN_ISO_ADDR_LOST p

/-- An address is lost to a NAME of higher priority: the next one from 128 to 247 is tried where the NAME allows (Table 14.8). -/
def Dev.claimNext (d : Dev) (p a : Nat) : Dev :=
  if (d.isoName p).testBit 63 ∧ a ≠ 247 then (d.addrGone p).claim p (if a < 128 then 128 else a + 1) else d.cannotClaim p

/-- ADDRESS_CLAIM: a claim begins, is uncontended to its end, or meets the NAME of a contender (R363). -/
def addressClaim (p : Nat) (contender : Option Nat) (d : Dev) : Dev :=
  if !d.isoOn p then d
  else match tget? p d.net.claiming, contender with
    | some a, none =>
      let d := { d with net := { d.net with claiming := tdel p d.net.claiming, cannotAt := tdel p d.net.cannotAt } }
      ((d.wr CAN.P_ISO_ADDR a p).wrBit CAN.ISO_CLAIMED p true).recover Flt.CAN_ISO_ADDR_LOST p
    | some a, some n => if n < d.isoName p then d.claimNext p a else d.claimSend p a
    | none, some n =>
      if d.isoAddr p = 0xFE then d else if n < d.isoName p then d.claimNext p (d.isoAddr p) else d.claimSend p (d.isoAddr p)
    | none, none =>
      if d.isoAddr p ≠ 0xFE then d
      else
        let d := match tget? p d.net.cannotAt with | some t => d.waitUntil (t + second) | none => d
        d.claim p (d.isoPref p)

/-! Transport sessions (Table 14.8). -/

/-- A connection-management message of TP or ETP to another node. -/
def Dev.tpSend (d : Dev) (p : Nat) (ext : Bool) (dest : Nat) (bs : List Nat) : Dev :=
  d.emit (.can p (isoId 7 (if ext then 0xC8 else 0xEC) dest (d.isoAddr p)) bs)

/-- Connection abort with a reason. -/
def Dev.tpAbort (d : Dev) (p : Nat) (ext : Bool) (dest reason pgn : Nat) : Dev :=
  d.tpSend p ext dest ([255, reason, 255, 255, 255] ++ leBytes 3 pgn)

/-- Replaces the sessions. -/
def Dev.setSessions (d : Dev) (l : List TpSession) : Dev := { d with net := { d.net with sessions := l } }

/-- A session with a node on a port. -/
def TpSession.is (s : TpSession) (p : Nat) (rx ext bam : Bool) (peer : Nat) : Bool :=
  decide (s.port = p ∧ s.rx = rx ∧ s.ext = ext ∧ s.bam = bam ∧ s.peer = peer)

/-- Sessions of one direction open on a port. -/
def Dev.tpCount (d : Dev) (p : Nat) (rx : Bool) : Nat := (d.net.sessions.filter fun s => decide (s.port = p ∧ s.rx = rx)).length

/-- Clear to send: every packet that is left, 255 at most. -/
def Dev.tpClear (d : Dev) (s : TpSession) : Dev :=
  let n := Nat.min 255 (ceilDiv s.size 7 - s.done)
  if s.ext then d.tpSend s.port true s.peer ([21, n] ++ leBytes 3 (s.done + 1) ++ leBytes 3 s.pgn)
  else d.tpSend s.port false s.peer ([17, n, s.done + 1, 255, 255] ++ leBytes 3 s.pgn)

/-- Largest message of a session (Table 14.8). -/
def tpMax : Nat := 1048576

/-- A request to send from a node: a session, or an abort with reason 2 (system resources needed). -/
def Dev.tpRequest (d : Dev) (p sa : Nat) (ext bam : Bool) (size pgn : Nat) : Dev :=
  let d := d.setSessions (d.net.sessions.filter fun s => !s.is p true ext bam sa)
  if tpMax < size ∨ 8 ≤ d.tpCount p true then (if bam then d else d.tpAbort p ext sa 2 pgn)
  else
    let s : TpSession := ⟨p, true, sa, pgn, ext, bam, size, [], 0⟩
    let d := d.setSessions (d.net.sessions ++ [s])
    if bam then d else d.tpClear s

/-- The packets of a transmit session from one on, at most `n`. -/
def Dev.tpPackets (d : Dev) (s : TpSession) (first n : Nat) : Dev :=
  let total := ceilDiv s.size 7
  let dest := if s.bam then 255 else s.peer
  let d := if s.ext then d.tpSend s.port true s.peer ([22, n] ++ leBytes 3 (first - 1) ++ leBytes 3 s.pgn) else d
  forAll (List.range n) (fun k d =>
    let j := first - 1 + k
    if total ≤ j then d
    else
      let chunk := (s.data.drop (7 * j)).take 7
      let body := ((if s.ext then k + 1 else j + 1) :: chunk) ++ List.replicate (7 - chunk.length) 255
      d.emit (.can s.port (isoId 7 (if s.ext then 0xC7 else 0xEB) dest (d.isoAddr s.port)) body)) d

/-- A connection-management message is received. -/
def Dev.tpManage (d : Dev) (p sa : Nat) (ext : Bool) (bs : List Nat) : Dev :=
  let pgn := leVal ((bs.drop 5).take 3)
  let tx := d.net.sessions.find? fun s => s.is p false ext false sa
  match bs.getD 0 0 with
  | 16 => if ext then d else d.tpRequest p sa false false (leVal ((bs.drop 1).take 2)) pgn
  | 32 => if ext then d else d.tpRequest p sa false true (leVal ((bs.drop 1).take 2)) pgn
  | 20 => if ext then d.tpRequest p sa true false (leVal ((bs.drop 1).take 4)) pgn else d
  | 17 => (match tx with | some s => if ext then d else d.tpPackets s (bs.getD 2 1) (bs.getD 1 0) | none => d)
  | 21 => (match tx with | some s => if ext then d.tpPackets s (leVal ((bs.drop 2).take 3)) (bs.getD 1 0) else d | none => d)
  | 19 => if ext then d else d.setSessions (d.net.sessions.filter fun s => !s.is p false false false sa)
  | 23 => if ext then d.setSessions (d.net.sessions.filter fun s => !s.is p false true false sa) else d
  | 255 => d.setSessions (d.net.sessions.filter fun s => !(decide (s.port = p ∧ s.peer = sa ∧ s.ext = ext ∧ s.pgn = pgn) && !s.bam))
  | _ => d

/-- The end of a received message: acknowledged where it was addressed, and delivered. -/
def Dev.tpDone (d : Dev) (s : TpSession) : Dev :=
  let n := ceilDiv s.size 7
  let d := if s.bam then d
           else if s.ext then d.tpSend s.port true s.peer ([23] ++ leBytes 4 s.size ++ leBytes 3 s.pgn)
           else d.tpSend s.port false s.peer ([19] ++ leBytes 2 s.size ++ [n, 255] ++ leBytes 3 s.pgn)
  (d.setSessions (d.net.sessions.filter fun x => !x.is s.port true s.ext s.bam s.peer)).isoDeliver s.port s.pgn s.peer (s.data.take s.size)

/-- A data packet is received: in its order it is taken; out of order the session is aborted with reason 7. -/
def Dev.tpData (d : Dev) (p sa : Nat) (ext bam : Bool) (bs : List Nat) : Dev :=
  match d.net.sessions.find? fun s => s.is p true ext bam sa with
  | none => d
  | some s =>
    let others := d.net.sessions.filter fun x => !x.is p true ext bam sa
    let due := if ext then s.done % 255 + 1 else s.done + 1
    if bs.getD 0 0 ≠ due then
      let d := d.setSessions others
      if bam then d else d.tpAbort p ext sa 7 s.pgn
    else
      let s := { s with data := s.data ++ (bs.drop 1).take 7, done := s.done + 1 }
      let d := d.setSessions (others ++ [s])
      if s.size ≤ 7 * s.done then d.tpDone s
      else if !bam ∧ s.done % 255 = 0 then d.tpClear s else d

/-- TRANSPORT_PROTOCOL: a TP or ETP message on an ISO 11783 port (R363). -/
def transportProtocol (p id : Nat) (bs : List Nat) (d : Dev) : Dev :=
  let dest := isoPs id
  let sa := isoSa id
  if !d.isoOn p ∨ ¬(dest = 255 ∨ dest = d.isoAddr p) then d
  else match isoPf id with
    | 0xEC => d.tpManage p sa false bs
    | 0xC8 => d.tpManage p sa true bs
    | 0xEB => d.tpData p sa false (decide (dest = 255)) bs
    | 0xC7 => d.tpData p sa true false bs
    | _ => d

/-- A message from a queue goes out: in one frame, by BAM, or by a session of its own; none is free of 8: it waits (Table 14.8). -/
def Dev.isoSend (d : Dev) (p q : Nat) : Dev :=
  match d.headItem q with
  | none => dataPathTake q d
  | some bs =>
    let pgn := leVal (bs.take 3)
    let dest := bs.getD 3 255
    let size := leVal ((bs.drop 4).take 4)
    let data := (bs.drop 8).take size
    let ps := if pgn / 256 % 256 < 240 then dest else pgn % 256
    if size ≤ 8 then
      (d.takeHead q true).emit (.can p (isoId 6 (pgn / 256 % 256) ps (d.isoAddr p) + pgn / 65536 % 4 * 2 ^ 24) data)
    else if 8 ≤ d.tpCount p false then d
    else
      let d := d.takeHead q true
      let ext := decide (1785 < size)
      let s : TpSession := ⟨p, false, dest, pgn, ext, decide (dest = 255), size, data, 0⟩
      if tpMax < size then d
      else if dest = 255 then
        (d.tpSend p false 255 ([32] ++ leBytes 2 size ++ [ceilDiv size 7, 255] ++ leBytes 3 pgn)).tpPackets s 1 (ceilDiv size 7)
      else
        let d := d.setSessions (d.net.sessions ++ [s])
        if ext then d.tpSend p true dest ([20] ++ leBytes 4 size ++ leBytes 3 pgn)
        else d.tpSend p false dest ([16] ++ leBytes 2 size ++ [ceilDiv size 7, 255] ++ leBytes 3 pgn)

/-! Condensed work states (R364). -/

/-- The value of a condensed group: two bits a point, 01 on, 00 off, 11 where the group does not use the position. -/
def Dev.condValue (d : Dev) (points : List Nat) : Nat :=
  (List.range 16).foldl (fun (a : Nat) k =>
    let b : Nat := match points[k]? with | some n => bit (decide ((d.point n).value % 2 = 1)) | none => 3
    a + b * 4 ^ k) 0

/-- PROCESS_DATA: group `g` has changed, or its 1 s repeat is due: a Process Data message, PGN 0xCB00 (R364). -/
def processData (g : Nat) (d : Dev) : Dev :=
  match (d.itemsOf 13).findSome? fun it => match it with | .condGroup k p dest el ddi pts => if k = g then some (p, dest, el, ddi, pts) else none | _ => none with
  | none => d
  | some (p, dest, el, ddi, pts) =>
    if !d.isoOn p ∨ d.isoAddr p = 0xFE then d
    else
      let v := d.condValue pts
      let d := match tget? g d.net.condSent with
        | some (w, t) => if w = v then d.waitUntil (t + second) else d
        | none => d
      let body := leBytes 2 (3 + 16 * el) ++ leBytes 2 ddi ++ leBytes 4 v
      { d with net := { d.net with condSent := tset g (v, d.now) d.net.condSent } }.emit (.can p (isoId 3 0xCB dest (d.isoAddr p)) body)

/-- An Actual Condensed Work State, DDI 141 to 156, goes into the queue CR13 names (R364). -/
def Dev.condActual (d : Dev) (p id : Nat) (bs : List Nat) : Dev :=
  let ddi := leVal ((bs.drop 2).take 2)
  match (d.itemsOf 13).findSome? fun it => match it with | .condQueue q n => if q = p then some n else none | _ => none with
  | some q => if isoPf id = 0xCB ∧ 141 ≤ ddi ∧ ddi ≤ 156 then d.canToQueue p q (isoItem (isoPgn id) (isoSa id) bs) else d
  | none => d

/-- What the port's hardware does with a frame besides filters and maps (R363, R364). -/
def Dev.isoRx (d : Dev) (p id : Nat) (bs : List Nat) : Dev :=
  let pf := isoPf id
  let mine := decide (isoPs id = 255 ∨ isoPs id = d.isoAddr p ∨ 240 ≤ pf)
  if !d.isoOn p ∨ !id.testBit 31 ∨ !mine then d
  else if pf = 0xEE then
    (let held := (tget? p d.net.claiming).getD (d.isoAddr p)
     if isoSa id = held ∧ held ≠ 0xFE then addressClaim p (some (leVal (bs.take 8))) d else d)
  else if pf = 0xEA ∧ leVal (bs.take 3) = 0xEE00 then d.claimSend p (d.isoAddr p)
  else if pf = 0xEC ∨ pf = 0xEB ∨ pf = 0xC8 ∨ pf = 0xC7 then transportProtocol p id bs d
  else (d.condActual p id bs).isoDeliver p (isoPgn id) (isoSa id) bs

/-- CAN_FRAME_RX, with the ISO 11783 hardware of its port (R349, R363, R365). -/
def canFrame (p id : Nat) (bs : List Nat) (good : Bool) (d : Dev) : Dev :=
  let e := canFrameRx p id bs good d
  if good then e.isoRx p id bs else e

/-- DATA_PATH_TAKE (R388): an ISO 11783 port sends part 3 messages, another network port frames, every other consumer uses the item. -/
def pathTake (q : Nat) (d : Dev) : Dev :=
  let iso := (d.itemsOf 13).findSome? fun it => match it with | .canTxQueue p n => if n = q ∧ d.rd CAN.P_KIND p = 3 then some p else none | _ => none
  if d.rd QUE.Q_CONSUMER q = 14 ∨ d.rd QUE.Q_CONSUMER q = 15 then
    match iso with
    | some p => if d.isoOn p ∧ d.isoAddr p ≠ 0xFE then d.isoSend p q else d
    | none => d.netTake q
  else dataPathTake q d

end Sys2Proof.Machine
end

