-- ==== Sys2Proof/Machine/Join.lean ====
section
/-! DEFINITION. Machine/Join.lean: joined systems (R366 to R373). -/

namespace Sys2Proof.Machine

/-! The peer table. -/

/-- The entry of the peer table with Carsil address `a`, if it is a peer's (R366). -/
def Dev.peerIndex (d : Dev) (a : Nat) : Option Nat :=
  (List.range 16).find? fun e => d.flag ETH.PE_BUILT e && decide (d.rd ETH.PE_ADDR e = a ∧ a ≠ d.rd ETH.OWN_ADDR)

/-- What is known of peer `e`. -/
def Dev.peer (d : Dev) (e : Nat) : PeerH := tget e d.net.peers

/-- The peers that are present: a STATUS was heard and they are not lost (R366). -/
def Dev.present (d : Dev) : List Nat := maskBits 16 (d.rd ETH.PEER_SEEN)

/-- PEER_PERIOD_MS, PEER_LOSS_N and JOIN_WAIT_MS with their limits (R376). -/
def Dev.peerPeriod (d : Dev) : Nat := clampN 5 100 (d.rd ETH.PEER_PERIOD_MS)
def Dev.peerLossN (d : Dev) : Nat := clampN 2 10 (d.rd ETH.PEER_LOSS_N)
def Dev.joinWait (d : Dev) : Nat := clampN 100 5000 (d.rd ETH.JOIN_WAIT_MS)

/-! The chosen set and the leader (R368). -/

/-- The module's own key (R368). -/
def Dev.ownKey (d : Dev) : List Nat × Nat := (d.imageHash, d.rd UPD.FW_VER_RUN)

/-- The candidates of the sets: key and address of the module and of every present peer that does not report JOINING (R368). -/
def Dev.setMembers (d : Dev) : List ((List Nat × Nat) × Nat) :=
  let peers := d.present.filter fun e => !d.flag ETH.PE_JOINING e
  (d.ownKey, d.rd ETH.OWN_ADDR) :: peers.map fun e => (((d.peer e).hash, (d.peer e).fw), d.rd ETH.PE_ADDR e)

/-- The lowest of a list of addresses. -/
def lowestAddr (l : List Nat) : Option Nat := l.foldl (fun b a => match b with | none => some a | some x => some (Nat.min x a)) none

/-- The key of the chosen set: most members, then the lowest address (R368). -/
def Dev.chosenKey (d : Dev) : List Nat × Nat :=
  let all := d.setMembers
  let sizeOf (k : List Nat × Nat) : Nat := (all.filter fun m => decide (m.1 = k)).length
  let lowOf (k : List Nat × Nat) : Nat := (lowestAddr ((all.filter fun m => decide (m.1 = k)).map fun m => m.2)).getD 256
  all.foldl (fun best m =>
    let a := sizeOf m.1
    let b := sizeOf best
    if b < a ∨ (a = b ∧ lowOf m.1 < lowOf best) then m.1 else best) d.ownKey

/-- The peers in the chosen set. -/
def Dev.chosenPeers (d : Dev) : List Nat :=
  d.present.filter fun e => !d.flag ETH.PE_JOINING e && decide (((d.peer e).hash, (d.peer e).fw) = d.chosenKey)

/-- The leader of the chosen set: the lowest address among its MEMBERs, or the module where it stands alone in it (R368). -/
def Dev.leaderOf (d : Dev) : Nat :=
  let own := d.rd ETH.OWN_ADDR
  let inside : Bool := decide (d.ownKey = d.chosenKey)
  let members := (d.chosenPeers.filter fun e => (d.peer e).member).map fun e => d.rd ETH.PE_ADDR e
  let self : List Nat := if inside ∧ d.rd ETH.JOIN_STATE = 2 then [own] else []
  match lowestAddr (members ++ self) with
  | some a => a
  | none => if inside then own else 0xFF

/-- The module is outside the chosen set: EXCLUDED (R370). -/
def Dev.excludeSelf (d : Dev) : Dev :=
  let d := (d.wr ETH.JOIN_STATE 3).cause ETH.EVT 4
  (d.raise Flt.NET_PEER_EXCLUDED).note .gates

/-- The module enters JOINING (R368, R370, R373). -/
def Dev.joinAgain (d : Dev) : Dev :=
  let d := { d with net := { d.net with
    joinAt := d.now
    agreed := false
    timeBad := 0
    timeGood := 0 } }.wr ETH.JOIN_STATE 1
  (d.recover Flt.NET_PEER_EXCLUDED).note .gates

/-- After JOIN_WAIT_MS the module takes its place (R368). -/
def Dev.joinSettle (d : Dev) : Dev :=
  if d.rd ETH.JOIN_STATE ≠ 1 ∨ d.now < d.net.joinAt + d.joinWait * ms then d
  else if d.ownKey ≠ d.chosenKey then d.excludeSelf
  else if d.flag ETH.IS_LEADER ∨ d.net.agreed then (d.wr ETH.JOIN_STATE 2).note .gates
  else d

/-- What the election shows: the set and the leader (R368). -/
def Dev.electionShow (d : Dev) : Dev :=
  let inSet := d.chosenPeers
  let d := forAll (List.range 16) (fun e d => (d.wr ETH.PE_MATCH (bit (inSet.contains e)) e).wrBit ETH.PEER_MATCH e (inSet.contains e)) d
  let inside : Bool := decide (d.ownKey = d.chosenKey)
  let leader := d.leaderOf
  let changed : Bool := decide (leader ≠ d.rd ETH.LEADER_ADDR)
  let d := (d.wr ETH.MEMBERS (inSet.length + bit inside)).wr ETH.LEADER_ADDR leader
  let d := d.wr ETH.IS_LEADER (bit (inside && decide (leader = d.rd ETH.OWN_ADDR)))
  if changed then d.cause ETH.EVT 3 else d

/-- The election: the chosen set, the leader, and what the module's own place is in it (R368, R370). -/
def Dev.election (d : Dev) : Dev :=
  if d.rd ETH.JOIN_STATE = 0 then d
  else
    let d := d.electionShow
    let inside : Bool := decide (d.ownKey = d.chosenKey)
    let st := d.rd ETH.JOIN_STATE
    if st = 2 ∧ !inside then d.excludeSelf
    else if st = 3 ∧ inside then d.joinAgain
    else if st = 1 then
      let d := d.joinSettle
      if d.rd ETH.JOIN_STATE = 2 then d.electionShow else d
    else d

/-- The election, and the groups it leaves without a node: a peer outside the chosen set is excluded (R178, R368, R370). -/
def Dev.elect (d : Dev) : Dev := d.election.sluOutside

/-- JOIN_WAIT_END: JOIN_WAIT_MS after JOINING was entered (R368). -/
def joinWaitEnd (d : Dev) : Dev :=
  if d.rd ETH.JOIN_STATE ≠ 1 then d
  else (d.waitUntil (d.net.joinAt + d.joinWait * ms)).elect

/-! STATUS (R366 to R372). -/

/-- SAFE entry a peer propagates; a module already in SAFE ignores it (R371). -/
def Dev.safeFromPeer (d : Dev) : Dev :=
  if d.mode = 7 then d
  else ((d.safeRequest 0x83).cause ETH.EVT 8).raise Flt.NET_SAFE_PROPAGATED

/-- The leader's mode is submitted as a request (R372). -/
def Dev.followMode (d : Dev) (mode : Nat) : Dev :=
  if !d.follows ∨ d.mode = 7 then d
  else if d.mode = mode then { d with net := { d.net with modeLag := false } }
  else
    let d := d.modeRequest mode true
    let lag : Bool := decide (3 ≤ d.rd SYS.REQ_RESULT ∧ d.rd SYS.REQ_RESULT ≤ 5)
    let d := { d with net := { d.net with modeLag := lag } }
    if lag then d.cause ETH.EVT 9 else d

/-- What a STATUS says of peer `e` goes into the peer table (R368, R376). -/
def Dev.statusTake (d : Dev) (e : Nat) (bs : List Nat) : Dev :=
  let f := bs.getD 9 0
  let seen : Bool := (d.rd ETH.PEER_SEEN).testBit e
  let excluded : Bool := f.testBit 2
  let was := (d.peer e).excluded && seen
  let p : PeerH := { heardAt := d.now, hash := (bs.drop 24).take 48, fw := leVal ((bs.drop 12).take 4),
                     member := !excluded && !f.testBit 3, excluded := excluded }
  let d := { d with net := { d.net with peers := tset e p d.net.peers } }
  let d := (((d.wr ETH.PE_MODE (bs.getD 8 0) e).wr ETH.PE_SAFE (bit (f.testBit 0)) e).wr ETH.PE_JOINING (bit (f.testBit 3)) e).wr
    ETH.PE_FW_VER p.fw e
  let d := ((d.wrBit ETH.PEER_SAFE e (f.testBit 0)).wrBit ETH.PEER_LAG e (f.testBit 6)).wrBit ETH.PEER_SEEN e true
  let d := if seen then d else (d.cause ETH.EVT 2).recover Flt.NET_PEER_LOST e
  if excluded ∧ !was then (d.cause ETH.EVT 5).sluExcluded (d.rd ETH.PE_ADDR e) else d

/-- STATUS: 96 bytes (R366, R368, R370 to R372). -/
def statusMessage (bs : List Nat) (d : Dev) : Dev :=
  if bs.length ≠ 96 ∨ bs.getD 0 0 ≠ 0x11 ∨ d.rd ETH.JOIN_STATE = 0 ∨ bs.getD 1 0 = d.rd ETH.OWN_ADDR then d
  else match d.peerIndex (bs.getD 1 0) with
    | none => d.count ETH.UNKNOWN_PEER
    | some e =>
      let d := (d.statusTake e bs).elect
      let leads : Bool := decide (d.rd ETH.LEADER_ADDR = bs.getD 1 0)
      let d := if leads ∧ d.rd ETH.JOIN_STATE ≠ 3 then d.wr ETH.NT_GNSS (bit ((bs.getD 9 0).testBit 4)) else d
      if (bs.getD 9 0).testBit 0 ∧ d.mode ≠ 7 then d.safeFromPeer
      else if leads then d.followMode (bs.getD 8 0) else d

/-- STATUS_SEND: at every STATUS period the sets are formed and STATUS goes out, at a frame boundary (R366, R368, Table 3.6). -/
def statusPeriod (d : Dev) : Dev :=
  let d := match d.net.statusAt with | some t => d.waitUntil (t + d.peerPeriod * ms) | none => d
  let d := { d with net := { d.net with statusAt := some d.now } }
  statusSend (if d.peerPorts = [] then d else d.boundary 15 0).elect

/-- What a change of sends STATUS at once: the mode with its SAFE state, the leader, JOIN_STATE (R366). -/
def Dev.statusKey (d : Dev) : Nat × Nat × Nat := (d.mode, d.rd ETH.LEADER_ADDR, d.rd ETH.JOIN_STATE)

/-- STATUS goes out within 100 µs of such a change, at once here (R366). -/
def Dev.statusTell (d : Dev) : Dev :=
  if d.net.statusTold = d.statusKey then d
  else
    let d := if d.rd ETH.JOIN_STATE = 0 then d else statusSend d
    { d with net := { d.net with statusTold := d.statusKey } }

/-- PEER_LOSS: no STATUS of peer `e` for PEER_LOSS_N periods (R366, Table 14.11). -/
def peerLoss (e : Nat) (d : Dev) : Dev :=
  if 16 ≤ e ∨ !(d.rd ETH.PEER_SEEN).testBit e then d
  else
    let d := d.waitUntil ((d.peer e).heardAt + d.peerLossN * d.peerPeriod * ms)
    let d := (d.wrBit ETH.PEER_SEEN e false).sourceLost (.peer e)
    let d := ((d.count ETH.PEER_LOSSES).cause ETH.EVT 1).raise Flt.NET_PEER_LOST e
    d.elect

/-- SAFE: a SAFE message of 16 bytes (R371). -/
def safeReceived (bs : List Nat) (d : Dev) : Dev :=
  if bs.length ≠ 16 ∨ bs.getD 0 0 ≠ 0x12 ∨ d.rd ETH.JOIN_STATE = 0 ∨ bs.getD 1 0 = d.rd ETH.OWN_ADDR then d
  else match d.peerIndex (bs.getD 1 0) with
    | none => d.count ETH.UNKNOWN_PEER
    | some _ => d.safeFromPeer

/-! Mirrored points (R369). -/

/-- Puts an entry behind those whose key is not higher. -/
def keyInsert (x : Nat × Nat) : List (Nat × Nat) → List (Nat × Nat)
  | [] => [x]
  | y :: t => if x.1 < y.1 then x :: y :: t else y :: keyInsert x t

/-- The module produces a mirrored point: its producer is no other module. -/
def Dev.producesPoint (d : Dev) (n : Nat) : Bool :=
  match d.pointRow n with
  | some (_, .peer e, _) => decide (d.rd ETH.PE_ADDR e = d.rd ETH.OWN_ADDR)
  | some _ => true
  | none => false

/-- The mirrored points that are due: SEQ changed since the last sending, or 100 ms have passed; by the instant of their last
update, oldest first (R369). -/
def Dev.mirrorDue (d : Dev) : List (Nat × Nat) :=
  let pts := (d.itemsOf 15).filterMap fun it => match it with | .mirrored n => if d.producesPoint n then some n else none | _ => none
  let due := pts.filter fun n => match tget? n d.net.mirrored with
    | some (seq, at_) => decide (seq ≠ (d.point n).seq ∨ at_ + 100 * ms ≤ d.now)
    | none => true
  due.foldl (fun l n => keyInsert ((d.point n).since, n) l) []

/-- A record of MIRROR (Table 14.9). -/
def Dev.mirrorRecord (d : Dev) (n : Nat) : List Nat :=
  let p := d.point n
  leBytes 4 n ++ leBytes 4 p.value ++ leBytes 2 p.status ++ leBytes 2 p.seq ++ leBytes 8 (d.netTime p.stamp) ++ leBytes 4 0

/-- MIRROR_SEND: every 1 ms the due points of a member, 58 at most; the rest wait (R369). -/
def mirrorSend (d : Dev) : Dev :=
  let d := d.waitUntil (d.nextPeriod ms d.net.mirrorAt)
  let d := { d with net := { d.net with mirrorAt := some d.now } }
  let due := d.mirrorDue
  if d.rd ETH.JOIN_STATE ≠ 2 ∨ due = [] then d
  else
    let now := (due.take 58).map fun p => p.2
    let d := d.peerSend 3 (leBytes 2 now.length ++ List.replicate 6 0 ++ now.flatMap fun n => d.mirrorRecord n)
    let d := forAll now (fun n d => { d with net := { d.net with mirrored := tset n ((d.point n).seq, d.now) d.net.mirrored } }) d
    d.wr ETH.MIRROR_DEFER (satN 16 (d.rd ETH.MIRROR_DEFER + (due.length - 58)))

/-- Peer `e` was heard and is lost (R366). -/
def Dev.peerGone (d : Dev) (e : Nat) : Bool := (tget? e d.net.peers).isSome && !(d.rd ETH.PEER_SEEN).testBit e

/-- One record of a MIRROR of peer `e` (R369). -/
def Dev.mirrorTake (d : Dev) (e : Nat) (r : List Nat) : Dev :=
  let n := leVal (r.take 4) % 2 ^ 17
  match d.pointRow n with
  | some (ty, .peer q, _) =>
    if q ≠ e then d
    else { d with points := tset n ⟨layoutValue ty (leVal ((r.drop 4).take 4)), leVal ((r.drop 8).take 2), leVal ((r.drop 10).take 2),
             d.mtOfNet (leVal ((r.drop 12).take 8)), d.now⟩ d.points }
  | _ => d

/-- MIRROR: 16 + 24 × N bytes; a lost peer's points take no update until its STATUS is heard again (R369, R29). -/
def mirrorMessage (bs : List Nat) (d : Dev) : Dev :=
  let n := leVal ((bs.drop 8).take 2)
  if bs.getD 0 0 ≠ 0x13 ∨ bs.length ≠ 16 + 24 * n ∨ n = 0 ∨ 58 < n ∨ d.rd ETH.JOIN_STATE = 0 ∨ bs.getD 1 0 = d.rd ETH.OWN_ADDR then d
  else match d.peerIndex (bs.getD 1 0) with
    | none => d.count ETH.UNKNOWN_PEER
    | some e =>
      if d.rd ETH.JOIN_STATE ≠ 2 ∨ (d.peer e).excluded ∨ d.peerGone e ∨ !d.running then d
      else forAll (List.range n) (fun k d => d.mirrorTake e ((bs.drop (16 + 24 * k)).take 24)) d

/-- A peer message, by its TYPE (R362, R367). -/
def Dev.peerMessage (d : Dev) (bs : List Nat) : Dev :=
  match bs.getD 0 0 with
  | 0x11 => statusMessage bs d
  | 0x12 => safeReceived bs d
  | 0x13 => mirrorMessage bs d
  | _ => d

end Sys2Proof.Machine
end

