-- ==== Sys2Proof/Machine/Eth.lean ====
section
/-! DEFINITION. Machine/Eth.lean: Ethernet ports, 802.1AS and datagrams (R358 to R362, R374), and what the network block shows of
its roles. -/

namespace Sys2Proof.Machine

/-- Port `p` runs and its link is up; in RECOVERY only SVC runs (R361, R376). -/
def Dev.ethOn (d : Dev) (p : Nat) : Bool :=
  decide (p < 7) && d.powered 15 && (d.rd ETH.EN).testBit p && (d.rd ETH.LINK_UP).testBit p && (decide (d.mode ≠ 3) || decide (p = 6))

/-- Port `p` carries 802.1AS; SVC does not (R360). -/
def Dev.asPort (d : Dev) (p : Nat) : Bool := d.ethOn p && decide (p < 6) && d.flag ETH.P_AS_EN p

/-- A frame boundary on port `p`: block-wide Shadowed fields take effect at the lowest-numbered enabled peer port's (R376, Table 3.6). -/
def Dev.ethFrame (d : Dev) (p : Nat) : Dev :=
  if d.peerPorts.head? = some p then d.boundary 15 0 else d

/-- A frame boundary on the port the module's own messages leave on. -/
def Dev.ethSend (d : Dev) : Dev := if d.peerPorts = [] then d else d.boundary 15 0

/-- PTP time less network time, in ns (R358). -/
def ptpOffset : Nat := 315964819 * second

/-- SYNC: a Sync with its Follow_Up of `domain` on port `p`, received now when PTP time is `ptp` ns (R358 to R360, Table 14.6). -/
def syncReceived (p domain ptp : Nat) (d : Dev) : Dev :=
  if !d.asPort p ∨ domain ≠ 0 ∨ !d.running ∨ d.timeFrom ≠ 2 then d
  else
    let d := d.ethFrame p
    let port := d.net.syncPort.getD p
    if port ≠ p then d
    else { d with net := { d.net with syncPort := some p } }.netMeasure ((ptp : Int) - ptpOffset)

/-- MT_LOCK_TIMEOUT: the loss of time, after which a Sync may arrive on another port (R104, Table 14.6). -/
def timeLost (d : Dev) : Dev :=
  let d := mtLockTimeout d
  if d.flag TMB.MT_LOCKED then d else { d with net := { d.net with syncPort := none } }

/-- The 802.1AS role of port `p`: 1 MasterPort, 2 SlavePort (R359, R360, Table 14.6). -/
def Dev.asRole (d : Dev) (p : Nat) : Nat :=
  if !d.asPort p then 0
  else match d.timeFrom with
    | 2 => match d.net.syncPort with
      | some q => if q = p then 2 else 1
      | none => 0
    | _ => 1

/-- PTP time of the instant, 8 bytes in ns. -/
def Dev.ptpNow (d : Dev) : List Nat := leBytes 8 (d.netTime d.mt + ptpOffset)

/-- The Sync interval, 2^(SYNC_LOG − 5) s; above 5 acts as 5 (R360). -/
def Dev.syncInterval (d : Dev) : Nat := second * 2 ^ Nat.min 5 (d.rd ETH.SYNC_LOG) / 32

/-- SYNC_SEND: Sync and Follow_Up on every port that is MasterPort, one interval after the last (R360). -/
def syncSend (d : Dev) : Dev :=
  if !d.running then d
  else
    let d := match d.net.syncSentAt with | some t => d.waitUntil (t + d.syncInterval) | none => d
    let d := { d with net := { d.net with syncSentAt := some d.now } }
    forAll ((List.range 6).filter fun p => decide (d.asRole p = 1)) (fun p d => d.emit (.eth p 3 0 d.ptpNow)) d.ethSend

/-- ANNOUNCE: counted and otherwise ignored (R360). -/
def announce (p : Nat) (d : Dev) : Dev := if d.asPort p then (d.ethFrame p).count ETH.FOREIGN_ANN else d

/-- PDELAY_REQ: answered with the instants of its receipt and of the answer (R360). -/
def pdelayReq (p : Nat) (d : Dev) : Dev := if d.asPort p then (d.ethFrame p).emit (.eth p 4 0 (d.ptpNow ++ d.ptpNow)) else d

/-- UDP_DATAGRAM: to port `dst` on Ethernet port `p`; `frag` and `bad` say that it is fragmented and that its UDP checksum fails (R362). -/
def udpDatagram (p dst : Nat) (frag bad : Bool) (bs : List Nat) (d : Dev) : Dev :=
  if !d.ethOn p then d
  else
    let d := d.ethFrame p
    if dst ≠ 40710 ∧ dst ≠ 40711 then d.emit (.ring p bs)
    else if frag ∨ bad ∨ p = 6 then d.count ETH.DGRAM_DROP
    else if dst = 40710 then d.carsilMessage bs
    else d.peerMessage bs

/-- ARP_REQUEST: answered for the port's own address (R362). -/
def arpRequest (p ip : Nat) (d : Dev) : Dev :=
  if d.ethOn p ∧ ip = d.rd ETH.P_IPV4 p then (d.ethFrame p).emit (.eth p 5 ip (leBytes 4 ip)) else d

/-- ETH_LINK_DOWN (R374, Table 14.11). -/
def ethLinkDown (p : Nat) (d : Dev) : Dev :=
  if 7 ≤ p ∨ !(d.rd ETH.LINK_UP).testBit p then d
  else (((d.wrBit ETH.LINK_UP p false).count ETH.P_LINK_DOWNS p).cause ETH.EVT 0).raise Flt.ETH_LINK_DOWN p

/-- ETH_LINK_UP (R374, Table 14.11). -/
def ethLinkUp (p : Nat) (d : Dev) : Dev :=
  if 7 ≤ p ∨ (d.rd ETH.LINK_UP).testBit p then d
  else (d.wrBit ETH.LINK_UP p true).recover Flt.ETH_LINK_DOWN p

/-! What the network block shows at the end of every command. -/

/-- HOLD_NET while joining, until agreement; the leader never holds (R373). -/
def Dev.joinHold (d : Dev) : Dev :=
  let held := d.flag TMB.HOLD_NET
  if d.flag ETH.IS_LEADER then (if held then d.writeHold TMB.HOLD_NET false else d)
  else if d.rd ETH.JOIN_STATE = 1 ∧ !d.net.agreed ∧ !held then d.setHold TMB.HOLD_NET true
  else d

/-- IS_MASTER, DISC_FORCED, the port roles and HOLD (R359, R360, R376). -/
def Dev.netShow (d : Dev) : Dev :=
  let d := (d.wr ETH.IS_MASTER (bit d.timeMaster)).wr ETH.DISC_FORCED (bit (decide (d.timeFrom ≠ 0)))
  let d := forAll (List.range 6) (fun p d => d.wr ETH.P_AS_ROLE (d.asRole p) p) d
  d.wr ETH.HOLD (d.rd TMB.HOLD_NET)

/-- What the network block does of itself, once it is powered. -/
def Dev.netSettle (d : Dev) : Dev :=
  let d := if d.powered 15 then d.joinHold.netShow.statusTell else d
  if d.powered 14 then d.ttStates.canMasters.carsilReady.txTakeUp else d

end Sys2Proof.Machine
end

