-- ==== Sys2Proof/Machine/Bus.lean ====
section
/-! DEFINITION. Machine/Bus.lean: the configuration bus and the field cores' view of the module: what a write to any address does
(R4, R5, R7, R18, R30, R36 to R38, R87, R89, R471), and what a read returns. A register that has a command of its own is written
through the same operation as that command. -/

namespace Sys2Proof.Machine

/-! What a write meets first. -/

/-- A master is in a field's writer set (R18, Table 1.2). The loader does not write through the bus's writer sets (R470). -/
def WSet.admits (s : WSet) (m : Master) : Bool :=
  match s, m with
  | .both, .core | .both, .shoit | .shoit, .shoit | _, .loader => true
  | _, _ => false

/-- Every field of a register that is not read-only admits the master (R18). -/
def busAdmits (fs : List (Fld × Nat × Nat)) (m : Master) : Bool := fs.all fun (f, _, _) => decide (f.acc = .ro) || f.wset.admits m

/-- A register write of block `b`: a bus error while its domain is off, ignored with LOCKED_WRITE while a static build keeps it
disabled, else `f` (R37, R471). -/
def onReg (b : Nat) (f : Dev → Dev) (d : Dev) : Dev :=
  if !d.powered b then d.busError else if d.shutBlocks.contains b then (d.lockedWrite b).busOk else (f d).busOk

/-- As `onReg`, where the write reaches DRAM. -/
def onRegM (b : Nat) (f : Memory → Dev → Dev × Memory) (m : Memory) (d : Dev) : Dev × Memory :=
  if !d.powered b then (d.busError, m) else if d.shutBlocks.contains b then ((d.lockedWrite b).busOk, m)
  else
    ((f m d).1.busOk, (f m d).2)

/-- As `onReg`, where `f` answers for itself. -/
def onPort (b : Nat) (f : Dev → Dev) (d : Dev) : Dev :=
  if !d.powered b then d.busError else if d.shutBlocks.contains b then (d.lockedWrite b).busOk else f d

/-- Block `b` works: powered, and no static build keeps it disabled. The recorder, the thermal supervision and the fault manager are
services of the Shoit island: a build of CR14 keeps their registers, not the services (R14, R37, R471; assumption 18). -/
def Dev.blockWorks (d : Dev) (b : Nat) : Bool := d.powered b && (decide (17 ≤ b) || !d.shutBlocks.contains b)

/-- A happening at block `b`: nothing comes of it while the block does not work (R37, R471). -/
def onBlock (b : Nat) (f : Dev → Dev) (d : Dev) : Dev := if d.blockWorks b then f d else d

/-- As `onBlock`, where the happening reaches DRAM. -/
def onBlockM (b : Nat) (f : Memory → Dev → Dev × Memory) (m : Memory) (d : Dev) : Dev × Memory :=
  if d.blockWorks b then f m d else (d, m)

/-! Operations behind single fields. -/

/-- The block that drives a gated channel (Table 1.10). -/
def Chan.block (c : Chan) : Nat := match c with | .ls _ => 10 | .vd _ => 11 | .io _ => 12 | .bl _ => 13 | .fc _ => 16

/-- GATE_WRITE: the island opens a gate where R40 lets it, or closes it (R21). -/
def gateWrite (c : Chan) (opened : Bool) (d : Dev) : Dev := if opened && !d.gateWanted c then d else d.setGate c opened

/-- The island writes a word of a gate register: each bit that changes. -/
def Dev.gateWord (d : Dev) (f : Fld) (n : Nat) (c : Nat → Chan) (v : Nat) : Dev :=
  let old := d.rd f
  forAll ((List.range n).filter fun k => decide (v.testBit k ≠ old.testBit k)) (fun k d => gateWrite (c k) (v.testBit k) d) d

/-- A word of a queue's write port from the field cores (R386, R387). -/
def coreWord (q : Nat) (mk : Marker) (v : Nat) (d : Dev) : Dev :=
  if d.builtWith q 0x3F then (d.queueWord q mk (v % 2 ^ (8 * 2 ^ d.rd QUE.Q_WIDTH q))).busOk else d.busError

/-- QUEUE_WORD_WRITE: a word of a data-path producer (R380). -/
def pathWord (q : Nat) (mk : Marker) (v : Nat) (d : Dev) : Dev :=
  if q < 64 ∧ d.rd QUE.Q_CLASS q ≠ 0 ∧ d.rd QUE.Q_PRODUCER q ≠ 0x3F then d.queueWord q mk (v % 2 ^ (8 * 2 ^ d.rd QUE.Q_WIDTH q)) else d

/-- The field cores consume queue `q` (R386). -/
def Dev.coreConsumes (d : Dev) (q : Nat) : Bool := decide (q < 64 ∧ d.rd QUE.Q_CLASS q ≠ 0 ∧ d.rd QUE.Q_CONSUMER q = 0x3F)

/-- A write of POP: ACT 1 or 2 with FGEN (R386). -/
def corePop (q act fgen : Nat) (d : Dev) : Dev :=
  if !d.coreConsumes q then d.busError
  else if act = 1 then (queuePop q fgen false d).busOk
  else if act = 2 then (queuePop q fgen true d).busOk
  else d.busOk

/-- FLT_ROUTE.QUEUE: a queue not built with FLT as its producer leaves the field and sets CLAMPED (R436). -/
def Dev.routeQueue (d : Dev) (n q : Nat) : Dev := if d.builtWith q 19 then (d.wr FLT.RT_QUEUE q n).note .route else d.clamped 19

/-- A severity the island writes: none below the floor, none where it is fixed (R434). -/
def Dev.sevWrite (d : Dev) (i v : Nat) : Dev :=
  if (faultRow i).fixed = 1 then d else d.shadow FLT.F_SEV v i

/-- The field of a register of the grid and the map. -/
def MapReg.fld (r : MapReg) : Fld :=
  match r with
  | .lat0 => LAH.LAT0 | .lon0 => LAH.LON0 | .orgE => LAH.MAP_ORG_E | .orgN => LAH.MAP_ORG_N
  | .width => LAH.MAP_W | .height => LAH.MAP_H | .base => LAH.MAP_BASE

/-- MAP_ORIGIN_WRITE: one field of LAT0, LON0 or the map is written while EN is 0, the limits are kept and the map is cleared;
while EN is 1 the write is ignored and sets LOCKED_WRITE (R87, R134, R156). -/
def mapOrigin (f : Fld) (v : Nat) (m : Memory) (d : Dev) : Dev × Memory :=
  if d.flag LAH.EN then (d.lockedWrite 4, m)
  else
    (d.wr f v).mapLimits.mapClear m

/-- A key of the position history: an MT, or an MD in two's complement (R125). -/
def Dev.queryKey (d : Dev) (byMd : Bool) : Int :=
  let k := d.rd TMB.Q_LO + d.rd TMB.Q_HI * 2 ^ 32
  if byMd then sgn 64 k else k

/-- A load command on the image that stands at CFG_LOAD_ADDR; what is no image fails the first check (R77). -/
def Dev.loadCommand (d : Dev) (cmd : Nat) (x : Reading) (m : Memory) : Dev :=
  if cmd = 1 then loadImage x m d else if cmd = 2 then loadAndPersist x m d else d

/-! What a write to a field does beyond storing it. -/

/-- An action behind a field: element, second index, the field's new value, the whole word. -/
abbrev Hook := Fld × (Nat → Nat → Nat → Nat → Dev → Dev)

/-- Preset selectors (R9). -/
def selectorHooks : List Hook :=
  [(SYS.SHUTDOWN_PRESET, fun _ _ v _ => shutdownPreset v), (TMB.MD_PRESET, fun _ _ v _ => mdPreset v),
   (LAH.OVERLAP_PRESET, fun _ _ v _ => overlapPreset v), (SLU.CARSIL_PRESET, fun _ _ v _ => carsilPreset v),
   (CTL.S_SUP_PRESET, fun i _ v _ => supPreset i v), (FUS.FUSE_PRESET, fun _ _ v _ => fusePreset v),
   (ISP.C_DPC_PRESET, fun i _ v _ => dpcPreset i v), (ISP.C_TONE_PRESET, fun i _ v _ => tonePreset i v),
   (GNS.GNSS_PRESET, fun _ _ v _ => gnssPreset v), (LSW.CH_LOAD_PRESET, fun i _ v _ => loadPreset i v),
   (VDR.CH_VALVE_PRESET, fun i _ v _ => valvePreset i v), (BLW.CH_BLW_PRESET, fun i _ v _ => blwPreset i v),
   (CAN.P_CAN_PRESET, fun i _ v _ => canPreset i v), (QUE.Q_WM_PRESET, fun i _ v _ => wmPreset i v),
   (THM.THM_PRESET, fun _ _ v _ => thmPreset v), (FLT.SEV_PRESET, fun _ _ v _ => sevPreset v)]

/-- Actions of SYS, CFG, TMB, LAH, SLU and CTL. -/
def motionHooks : List Hook :=
  [(SYS.REQ_MODE, fun _ _ v _ => modeRequestWrite v),
   (SYS.TIMEOUT_MS, fun _ _ v _ d => (d.wr SYS.TIMEOUT_MS v).fcwdStart),
   (SYS.KICK, fun _ _ v _ => fcwdKick v),
   (TMB.MT_DISC, fun _ _ v _ d => if v = 3 then d else d.shadow TMB.MT_DISC v),
   (TMB.HOLD_MD, fun _ _ v _ d => d.writeHold TMB.HOLD_MD (v = 1)),
   (TMB.LATCH, fun _ _ v _ d => if v = 1 then snapshotLatch d else d),
   (TMB.FILE_GO, fun _ _ v w d => if v = 1 then fileEvent (w % 32) d else d),
   (TMB.CANCEL, fun _ _ v _ => cancelEvent v),
   (TMB.Q_GO, fun _ _ v w d => if v = 1 then historyQuery (w % 2 = 1) (d.queryKey (w % 2 = 1)) d else d),
   (LAH.MASTER, fun _ _ v _ => masterWrite v), (LAH.FLOOD_REQ, fun _ _ v _ => floodRequest v),
   (LAH.IMP_GO, fun _ _ v _ d => if v = 1 then importGo d else d),
   (LAH.IMP_RATE_GO, fun i _ v _ d => if v = 1 then rateFile i d else d),
   (SLU.EN, fun _ _ v _ d => if v = 1 then d.wr SLU.EN 1 else sluiceDisable d),
   (SLU.ARM_GO, fun _ _ v w d => if v = 1 then sluiceArm (w % 256) d else d),
   (SLU.CANCEL_TPL, fun _ _ v _ => sluiceCancel v),
   (CTL.EN, fun _ _ v _ => loopEngineEnable (v = 1)), (CTL.TRIP, fun _ _ v _ => ctlTrip v),
   (CTL.S_EN, fun i _ v _ => slotEnable i (v = 1)), (CTL.S_RESUME, fun i _ v _ d => if v = 1 then loopResume i d else d),
   (CTL.S_SP, fun i _ v _ d => d.loopSetpoint i v)]

/-- Actions of FUS, ISP, GNS and the networks. -/
def senseHooks : List Hook :=
  [(FUS.EN, fun _ _ v _ => fusEnable (v = 1)),
   (ISP.P_POC_EN, fun i _ v _ => pocEnWrite i (v = 1)), (ISP.P_I2C_GO, fun i _ v _ d => if v = 1 then i2cGo i d else d),
   (GNS.EN, fun _ _ v _ => gnsEnable (v = 1)), (GNS.EXT_GO, fun _ _ v _ d => if v = 1 then extGo d else d),
   (GNS.ANT0_BIAS, fun _ _ v _ d => (d.wr GNS.ANT0_BIAS v).antRefresh),
   (GNS.ANT1_BIAS, fun _ _ v _ d => (d.wr GNS.ANT1_BIAS v).antRefresh)]

/-- Actions of LSW, VDR, FIO and BLW. -/
def plantHooks : List Hook :=
  [(LSW.GATE_LO, fun _ _ v _ d => d.gateWord LSW.GATE_LO 32 Chan.ls v),
   (LSW.GATE_HI, fun _ _ v _ d => d.gateWord LSW.GATE_HI 32 (fun k => Chan.ls (32 + k)) v),
   (LSW.CH_CMD, fun i _ v _ => lsCommand i (v = 1)), (LSW.CH_REARM, fun i _ v _ d => if v = 1 then lsRearm i d else d),
   (VDR.EN, fun _ _ v _ d => if v = 1 then d.wr VDR.EN 1 else vdrDisable d),
   (VDR.GATE, fun _ _ v _ d => d.gateWord VDR.GATE 32 Chan.vd v),
   (VDR.CH_START, fun i _ v w d => vdCommand i (w % 32) (v = 1) (w.testBit 9) d),
   (FIO.GATE_LO, fun _ _ v _ d => d.gateWord FIO.GATE_LO 32 Chan.io v),
   (FIO.GATE_HI, fun _ _ v _ d => d.gateWord FIO.GATE_HI 32 (fun k => Chan.io (32 + k)) v),
   (FIO.OUT_LO, fun _ _ v _ d => forAll (List.range 32) (fun k d => ioCommand k (v.testBit k) d) d),
   (FIO.OUT_HI, fun _ _ v _ d => forAll (List.range 32) (fun k d => ioCommand (32 + k) (v.testBit k) d) d),
   (FIO.G_REARM, fun i _ v _ d => if v = 1 then fioRearm i d else d),
   (BLW.EN, fun _ _ v _ => blwEnable (v = 1)), (BLW.GATE, fun _ _ v _ d => d.gateWord BLW.GATE 4 Chan.bl v),
   (BLW.WD_KICK, fun _ _ v _ => blwWdKick v), (BLW.CH_REARM, fun i _ v _ d => if v = 1 then blowerRearm i d else d),
   (BLW.CH_COMMISSION, fun i _ v _ d => if v = 1 then commission i d else d)]

/-- Actions of QUE, REC and FLT. -/
def serviceHooks : List Hook :=
  [(QUE.FC_GATE, fun _ _ v _ d => d.gateWord QUE.FC_GATE 16 Chan.fc v),
   (QUE.Q_FLUSH, fun i _ v _ d => if v = 1 then queueFlush i d else d),
   (QUE.Q_STALE_US, fun i _ v _ d => if d.flag QUE.Q_PRIV i then d.shadow QUE.Q_STALE_US v i else d.clamped 16),
   (REC.REC_CURSOR, fun _ _ v _ => recCursorWrite v),
   (REC.GO, fun _ _ v w d => if v = 1 then userRecord (w % 65536) d else d),
   (FLT.SW_SET, fun _ _ v _ => swSet v), (FLT.SAFE_ACK, fun _ _ v _ => safeAck v),
   (FLT.RT_QUEUE, fun i _ v _ d => d.routeQueue i v),
   (FLT.RT_CORES, fun i _ v _ d => (d.wr FLT.RT_CORES v i).note .route),
   (FLT.RT_QUEUE_EN, fun i _ v _ d => (d.wr FLT.RT_QUEUE_EN v i).note .route),
   (FLT.RT_MASK, fun i _ v _ d => (d.wr FLT.RT_MASK v i).note .route),
   (FLT.F_SEV, fun i _ v _ d => d.sevWrite i v)]

/-- The fields whose write is part of another field's: the class of a filing, the slot of a START and the like. -/
def partFields : List Fld :=
  [TMB.FILE_CLASS, TMB.Q_KEY, SLU.ARM_TEMPLATE, VDR.CH_SLOT, VDR.CH_STOP, REC.CODE, REC.KEY, SYS.KEY, UPD.KEY]

/-- The action behind a field, if it has one. -/
def hookOf (l : List Hook) (f : Fld) : Option (Nat → Nat → Nat → Nat → Dev → Dev) := (l.find? fun h => h.1.is f).map fun h => h.2

/-- Every action that stays within the device. -/
def hooks : List Hook := motionHooks ++ senseHooks ++ plantHooks ++ serviceHooks

/-- An action behind a field that reaches DRAM: element, value, word and outcomes. -/
abbrev MemHook := Fld × (Nat → Nat → Nat → Aux → Memory → Dev → Dev × Memory)

/-- A clear command of the recorder (R404, R405). -/
def Dev.clearCommand (d : Dev) (action key : Nat) (x : Aux) (m : Memory) : Dev :=
  match action with
  | 1 => challenge d
  | 2 => clearTide key x.k1 m d
  | 3 => clearAll key x.k1 m d
  | _ => d

/-- A command of UPD (R421 to R426). -/
def Dev.updCommand (d : Dev) (cmd key : Nat) (x : Aux) (m : Memory) : Dev × Memory :=
  match cmd with
  | 1 => (stage x.avg x.k1 x.k2 m d, m)
  | 2 => (activateSlot x.avg d, m)
  | 3 => activateReboot x.avg m d
  | 4 => (abandonPending d, m)
  | 5 => (confirmSlot d, m)
  | 6 => (updChallenge d, m)
  | 7 => (ownerLock key x.avg x.k1 m d, m)
  | 8 => (ownerUnlock key x.avg x.k1 m d, m)
  | _ => (d, m)

/-- Every action that reaches DRAM or needs an outcome. -/
def memHooks : List MemHook :=
  [(SYS.KIND, fun _ v w _ m d => resetRequest v (w / 65536) m d),
   (SYS.ACK, fun _ v _ x m d => shutdownAck v x.eph x.almanac x.osc m d),
   (CFG.CMD, fun _ v _ x m d => (d.loadCommand v x.image m, m)),
   (LAH.EN, fun _ v _ _ m d => if v = 1 then (d.wr LAH.EN 1, m) else (lahDisable m d, m)),
   (ISP.EN, fun _ v _ _ m d => ispEnable (v = 1) m d), (ISP.C_EN, fun i v _ _ m d => cameraEnable i (v = 1) m d),
   (REC.ACTION, fun _ v w x m d => (d.clearCommand v (w / 256 % 16) x m, m)),
   (UPD.CMD, fun _ v w x m d => d.updCommand v (w / 256 % 16) x m)]

/-- The action that reaches DRAM behind a field, if it has one. -/
def memHookOf (f : Fld) : Option (Nat → Nat → Nat → Aux → Memory → Dev → Dev × Memory) :=
  (memHooks.find? fun h => h.1.is f).map fun h => h.2

/-! One field of a write. -/

/-- The part of a written word that goes to a field. -/
def fieldPart (w : Nat) (f : Fld) : Nat := w / 2 ^ f.lo % 2 ^ f.w

/-- A field of a queue that CR5 does not build: it takes no writes (R377). -/
def Dev.queueUnbuilt (d : Dev) (f : Fld) (i : Nat) : Bool :=
  decide (0x40100100 ≤ f.base ∧ f.base < 0x40100900 ∧ d.rd QUE.Q_CLASS i = 0)

/-- A field of a register whose write has passed R18 takes its part of the word `w` by its access code (R7, R87); `d0` is the
device before the write. -/
def busField (x : Aux) (d0 : Dev) (w : Nat) (p : Fld × Nat × Nat) (s : Dev × Memory) : Dev × Memory :=
  let f := p.1
  let i := p.2.1
  let j := p.2.2
  let d := s.1
  let m := s.2
  let v := fieldPart w f
  let b := keyBlock (f.key i j)
  if f.acc = .ro ∨ partFields.any (fun g => g.is f) ∨ d0.queueUnbuilt f i then s
  else if f.acc = .w1c then
    ((d.wr f (d.rd f i j - Nat.land (d.rd f i j) v) i j).note .route, m)
  else if f.acc = .rwl ∧ d0.enabled b (elemOf b (f.addr i j)) then (d.lockedWrite b, m)
  else match hookOf hooks f, memHookOf f with
    | some h, _ => (h i j v w d, m)
    | none, some h => h i v w x m d
    | none, none =>
      match f.acc with
      | .rws => (d.shadow f v i j, m)
      | .wo => s
      | _ => (d.wr f v i j, m)

/-! What a register is held to once it is written (R89). -/

/-- Writes to a profile slot: one that would break a FORMAT rule of R308 is ignored and sets CLAMPED; an ITGT_MA above its limit
sets CLAMPED (chapter 12, profile slot registers). -/
def Dev.slotLimits (before d : Dev) (f : Fld) (i : Nat) : Dev :=
  if !f.ofSlot then d
  else if d.slotShapeBad i ∧ !before.slotShapeBad i then before.clamped 11
  else d.clampIf 11 (d.slotItgtHigh i)

/-- The limits of every field of a register that has been written. -/
def Dev.regLimits (before d : Dev) (fs : List (Fld × Nat × Nat)) : Dev :=
  let d := forAll fs (fun p d => (d.limitsA p.1 p.2.1 p.2.2).limitsB p.1 p.2.1) d
  match fs with
  | (f, i, _) :: _ => Dev.slotLimits before d f i
  | [] => d

/-- A register of LAT0, LON0 and the map (R156). -/
def isMapReg (addr : Nat) : Bool := decide (0x40040050 ≤ addr ∧ addr ≤ 0x40040064)

/-! The write. -/

/-- The fields of a register the written word goes to: beside a preset selector, only the fields whose value the word changes, so
that the expansion stands elsewhere (R9; assumption 34). -/
def Dev.busChanged (d : Dev) (sel : Bool) (w : Nat) (fs : List (Fld × Nat × Nat)) : List (Fld × Nat × Nat) :=
  if !sel then fs
  else fs.filter fun p => !(decide (p.1.acc = .rw ∨ p.1.acc = .rws)) || decide (fieldPart w p.1 ≠ d.lastWritten p.1 p.2.1 p.2.2)

/-- A field that is a preset selector (R9). -/
def isSelector (p : Fld × Nat × Nat) : Bool := (hookOf selectorHooks p.1).isSome

/-- A selector takes its part of the word and expands. -/
def selectorWrite (w : Nat) (p : Fld × Nat × Nat) (d : Dev) : Dev :=
  match hookOf selectorHooks p.1 with
  | some h => d.presetHeld p.1 p.2.1 (fieldPart w p.1) (h p.2.1 p.2.2 (fieldPart w p.1) w)
  | none => d

/-- The fields of one register take a word: selectors expand first, then the fields (R9), then the limits (R89). -/
def busFields (x : Aux) (fs : List (Fld × Nat × Nat)) (w : Nat) (m : Memory) (d : Dev) : Dev × Memory :=
  let rest := d.busChanged (fs.any isSelector) w (fs.filter fun p => !isSelector p)
  let r := forAll rest (busField x d w) (forAll (fs.filter isSelector) (selectorWrite w) d, m)
  (Dev.regLimits d r.1 rest, r.2)

/-- A write to LAT0, LON0 or the map while EN is 0 is held to its limits and clears the map (R134, R156). -/
def mapWritten (addr : Nat) (b : Dev) (r : Dev × Memory) : Dev × Memory :=
  if isMapReg addr && !b.flag LAH.EN then r.1.mapLimits.mapClear r.2 else r

/-- A word written to a register of a powered block by an admitted master. -/
def busWord (x : Aux) (addr w : Nat) (m : Memory) (d : Dev) : Dev × Memory := mapWritten addr d (busFields x (fieldsAt addr) w m d)

/-- A write to a configuration-bus address (R4, R5, R18, R36, R37, R471). P-registers, POP and the write ports answer for
themselves (R92, R386). -/
def busRegister (mst : Master) (x : Aux) (addr w : Nat) (m : Memory) (d : Dev) : Dev × Memory :=
  let b := (addr - 0x40000000) / 0x10000
  let o := addr % 0x10000
  if !d.powered b then (d.busError, m)
  else if b = 2 ∧ o < 0x4000 then (pregWrite mst (o / 4) w x.cell1 x.cell2 d, m)
  else if !busAdmits (fieldsAt addr) mst then (d.violation, m)
  else if fieldsAt addr = [] ∧ !(b = 16 ∧ 0x1000 ≤ o ∧ o < 0x2000) then (d.busOk, m)
  else if d.shutBlocks.contains b then ((d.lockedWrite b).busOk, m)
  else if b = 16 ∧ 0x1000 ≤ o ∧ o < 0x2000 ∧ 0x24 ≤ o % 0x40 ∧ o % 0x40 ≤ 0x34 then
    let q := (o - 0x1000) / 0x40
    if mst ≠ .core then (d.busError, m)
    else match o % 0x40 with
      | 0x24 => (corePop q (w % 4) (w / 4 % 8) d, m)
      | 0x28 => (coreWord q .start w d, m)
      | 0x2C => (coreWord q .cont w d, m)
      | 0x30 => (coreWord q .stop w d, m)
      | _ => (coreWord q .one w d, m)
  else
    ((busWord x addr w m d).1.busOk, (busWord x addr w m d).2)

/-- REGISTER_WRITE: a write of `width` bits by a master to any address (R4, R18, R30, R36 to R38). -/
def busWrite (mst : Master) (addr width w : Nat) (x : Aux) (m : Memory) (d : Dev) : Dev × Memory :=
  if 0x40000000 ≤ addr ∧ addr < 0x40150000 then
    if width ≠ 32 ∨ addr % 4 ≠ 0 then (d.busError, m) else busRegister mst x addr (w % 2 ^ 32) m d
  else if mst ≠ .core then (d.busError, m)
  else if 0x50000000 ≤ addr ∧ addr < 0x50200000 then (pointValueWrite addr width w d, m)
  else if (width = 8 ∨ width = 16 ∨ width = 32 ∨ width = 64) ∧ addr % (width / 8) = 0 ∧ d.coreMayWrite addr (width / 8) then
    (d.busOk, memWriteBytes m addr (leBytes (width / 8) w))
  else (d.busError, m)

/-! Reads change nothing (R4, R5, R7); REC_WIN7 alone has a command of its own. -/

/-- What a read of `width` bits of a configuration-bus address returns; none is a bus error (R4, R37). -/
def Dev.busRead (d : Dev) (addr width : Nat) : Option Nat :=
  let b := (addr - 0x40000000) / 0x10000
  if addr < 0x40000000 ∨ 0x40150000 ≤ addr ∨ addr % 4 ≠ 0 ∨ width ≠ 32 ∨ !d.powered b then none
  else if b = 16 ∧ 0x1000 ≤ addr % 0x10000 ∧ addr % 0x10000 < 0x2000 ∧ !d.coreConsumes ((addr % 0x10000 - 0x1000) / 0x40) then none
  else some ((fieldsAt addr).foldl (fun s p => if p.1.acc = .wo then s else s + d.lastWritten p.1 p.2.1 p.2.2 * 2 ^ p.1.lo) 0)

/-- What a field-core read of `width` bits returns; none is a bus error: the configuration bus, the process image, and DRAM but for
the Brine region (R30, R38). -/
def coreRead (m : Memory) (d : Dev) (addr width : Nat) : Option Nat :=
  if 0x40000000 ≤ addr ∧ addr < 0x50000000 then d.busRead addr width
  else if 0x50000000 ≤ addr ∧ addr < 0x50200000 then d.pointRead addr width
  else if (width = 8 ∨ width = 16 ∨ width = 32 ∨ width = 64) ∧ addr % (width / 8) = 0 ∧ d.coreMayRead addr (width / 8) then
    some (leVal (memReadBytes m addr (width / 8)))
  else none

end Sys2Proof.Machine
end

