-- ==== Sys2Proof/Machine/Run.lean ====
section
/-! DEFINITION. Machine/Run.lean: how every command begins and ends. -/

namespace Sys2Proof.Machine

/-- Waiting writes whose safe boundary stands now take effect: a block or element that is disabled, an empty queue, a valve channel with
no profile (R87, Table 3.6). -/
def Dev.standing (d : Dev) : Dev :=
  if d.wait = [] then d else d.applyWaiting (fun k => d.boundaryNow (keyBlock k) (elemOf (keyBlock k) (k / 32))) fieldOfKey

/-- A bit for each block of Table 1.10 a condition picks. -/
def blockMask (p : Nat → Bool) : Nat := ((List.range 21).filter p).foldl (fun s b => s + 2 ^ b) 0

/-- CFG_SHADOW_SUM and CFG_LOCKED_SUM (R87). -/
def Dev.cfgShow (d : Dev) : Dev :=
  (d.wr CFG.SHADOW (blockMask fun b => d.wait.any fun e => decide (keyBlock e.1 = b))).wr CFG.LOCKED
    (blockMask fun b => d.flag (lockedFld b))

/-- Void entries at stage 0 of a class L queue have left it by now (R384). -/
def Dev.chainShow (d : Dev) : Dev :=
  forAll [60, 61, 62, 63] (fun q d => match (d.queue q).head with
    | e :: _ => if e.void then d.queueMove q else d
    | [] => d) d

/-- The end of every command: what its effects lead to at once, and what the registers show of the whole. -/
def Dev.finish (d : Dev) : Dev := d.chainShow.standing.settle.netSettle.settle.gateShow.cfgShow

/-- A command whose effect stays within the device. -/
def onDev (f : Dev → Dev) (s : State) : Host.Outcome State Fault Refusal := .next { s with dev := (f s.dev.begin).finish }

/-- A command whose effect reaches DRAM. -/
def onBoth (f : Memory → Dev → Dev × Memory) (s : State) : Host.Outcome State Fault Refusal :=
  .next { s with dram := (f s.dram s.dev.begin).2, dev := (f s.dram s.dev.begin).1.finish }

/-- A command that reads DRAM and writes none of it. -/
def onRead (f : Memory → Dev → Dev) (s : State) : Host.Outcome State Fault Refusal := onDev (f s.dram) s

/-- No command waits: one data-path clock cycle of 4 ns passes; MT and MD run on, and scheduler events cross their targets (R22,
R116; assumption 35). -/
def idle (s : State) : Host.Outcome State Fault Refusal := onDev (fun d => d.cycles 1) s

end Sys2Proof.Machine
end

