-- ==== Sys2Proof/Machine/ExecCore.lean ====
section
/-! DEFINITION. Machine/ExecCore.lean: the commands of SYS, CFG, PREG and TMB. -/

namespace Sys2Proof.Machine

/-- REGISTER_WRITE (R87): A configuration-bus write to a register that has no row of its own takes effect as a Live, Shadowed or Locked write, after the writer-set and width checks. -/
def execRegisterWrite (mst : Master) (addr : Nat) (width : Nat) (w : Nat) (x : Aux) (s : State) : Host.Outcome State Fault Refusal :=
  onBoth (busWrite mst addr width w x) s

/-- SHADOWED_WRITE_APPLY (R87): The Shadowed writes waiting for a block take effect together at the block's next safe boundary. -/
def execShadowedWriteApply (b : Nat) (e : Nat) (s : State) : Host.Outcome State Fault Refusal := onDev (onBlock b (fun d => d.boundary b e)) s

/-- POINT_VALUE_WRITE (R30): A field-core write to VALUE of a point it produces updates the record, setting VALID and clearing the other STATUS bits, incrementing SEQ and setting STAMP. -/
def execPointValueWrite (addr : Nat) (width : Nat) (w : Nat) (s : State) : Host.Outcome State Fault Refusal := onDev (pointValueWrite addr width w) s

/-- FRESHNESS_EXPIRY (R29): A point's freshness limit passes without an update, and STALE is set. -/
def execFreshnessExpiry (n : Nat) (s : State) : Host.Outcome State Fault Refusal := onDev (freshnessExpiry n) s

/-- GATE_WRITE (R21): The Shoit island opens or closes an output gate, and the channel takes its safe state or resumes its command. -/
def execGateWrite (c : Chan) (opened : Bool) (s : State) : Host.Outcome State Fault Refusal := onDev (onReg c.block (gateWrite c opened)) s

/-- MODE_REQUEST (R43): A write of SYS_MODE_REQ submits a mode request, which is granted, held pending or refused with a cause. -/
def execModeRequest (v : Nat) (s : State) : Host.Outcome State Fault Refusal := onDev (onReg 0 (modeRequestWrite v)) s

/-- TRANSITION_COMPLETE (R45): A granted transition completes once the gates reach the new mode's state, and MODE, PREV_MODE and TRANS_BUSY change. -/
def execTransitionComplete (s : State) : Host.Outcome State Fault Refusal := onDev transitionComplete s

/-- STATIONARY_CHANGE (R41): STATIONARY changes once MD speed has stayed at or below 0.2 km/h for 2 s, or has left that band. -/
def execStationaryChange (s : State) : Host.Outcome State Fault Refusal := onDev stationaryChange s

/-- MOVE_IN_SERVICE (R46): MD speed above 0.5 km/h for 1 s in SERVICE raises MOVE-IN-SERVICE, enters SAFE and abandons any static load in progress. -/
def execMoveInService (s : State) : Host.Outcome State Fault Refusal := onDev moveInService s

/-- WAKE_RISE (R42): WAKE stays above its rising threshold for 10 ms and wakes the module from STANDBY or DORMANT, or abandons a pending shutdown. -/
def execWakeRise (vlog : Nat) (s : State) : Host.Outcome State Fault Refusal := onBoth (wakeRise vlog) s

/-- WAKE_FALL (R62): WAKE falls below its falling threshold; this starts WAKE_OFF_DELAY, and in RECOVERY it leads to STANDBY after 10 ms. -/
def execWakeFall (s : State) : Host.Outcome State Fault Refusal := onBoth wakeFall s

/-- POWER_ON (R58): LOG applied from below 4.0 V gives a POWER-ON reset and resumes in BOOT or STANDBY. -/
def execPowerOn (wake : Bool) (vlog : Nat) (s : State) : Host.Outcome State Fault Refusal := onBoth (powerOn wake vlog) s

/-- RTC_ALARM (R42): The RTC reaches SYS_RTC_ALARM in DORMANT and the module boots. -/
def execRtcAlarm (vlog : Nat) (s : State) : Host.Outcome State Fault Refusal := onBoth (rtcAlarm vlog) s

/-- DORMANT_DAYS_EXPIRY (R55): DORMANT_DAYS pass in DORMANT and the module enters STANDBY. -/
def execDormantDaysExpiry (s : State) : Host.Outcome State Fault Refusal := onBoth dormantDaysExpiry s

/-- SUPPLY_BAND_CHANGE (R50): LOG, PWR-A or PWR-B enters another supply band after filtering, which sets LOW, HIGH or DUMP and writes a recorder entry. -/
def execSupplyBandChange (input : Nat) (v : Int) (avg : Nat) (over36 : Bool) (s : State) : Host.Outcome State Fault Refusal :=
  if outsideRatings v over36 then .fault .outsideRatings else onBoth (supplyBandChange input v.toNat avg) s

/-- CRANK_START (R52): LOG stays below 9.0 V for 100 µs, so every gate closes and PD3–PD9 power down in ride-through. -/
def execCrankStart (s : State) : Host.Outcome State Fault Refusal := onBoth crankStart s

/-- CRANK_END (R52): LOG stays above 9.5 V for 10 ms, and the module restarts warm and restores the mode, FIELD to ROAD. -/
def execCrankEnd (vlog : Nat) (s : State) : Host.Outcome State Fault Refusal := onBoth (crankEnd vlog) s

/-- BROWN_OUT (R53): LOG falls into the brown-out band, and every domain except PD0 is reset. -/
def execBrownOut (s : State) : Host.Outcome State Fault Refusal := onBoth (fun _ d => brownOut d) s

/-- RESET_REQUEST (R59): A keyed write of SYS_RST_REQ requests a field-core, module or recovery-latch reset, which is granted or ignored. -/
def execResetRequest (kind : Nat) (key : Nat) (s : State) : Host.Outcome State Fault Refusal := onBoth (onRegM 0 (resetRequest kind key)) s

/-- FCWD_KICK (R60): Writing 0xA5 to SYS_FCWD_KICK restarts the field-core watchdog. -/
def execFcwdKick (v : Nat) (s : State) : Host.Outcome State Fault Refusal := onDev (onReg 0 (fcwdKick v)) s

/-- FCWD_EXPIRY (R60): The field-core watchdog expires, so the field cores are reset and FCWD-EXPIRED is raised. -/
def execFcwdExpiry (s : State) : Host.Outcome State Fault Refusal := onBoth fcwdExpiry s

/-- ISLAND_RESET (R58): A Shoit watchdog expiry or a mismatch in both lockstep pairs closes all gates and resets PD2–PD9. -/
def execIslandReset (s : State) : Host.Outcome State Fault Refusal := onBoth islandReset s

/-- SHUTDOWN_START (R61): WAKE_OFF_DELAY elapses with WAKE low, so SHUTDOWN_PENDING is set and the after-run timer starts. -/
def execShutdownStart (s : State) : Host.Outcome State Fault Refusal := onDev shutdownStart s

/-- SHUTDOWN_ACK (R61): A write of SYS_SHUTDOWN_ACK ends the after-run, and the module completes its shutdown into DORMANT or STANDBY. -/
def execShutdownAck (v : Nat) (eph : List (Nat × Nat)) (almanac : Nat) (osc : Int) (s : State) : Host.Outcome State Fault Refusal :=
  onBoth (onRegM 0 (shutdownAck v eph almanac osc)) s

/-- AFTERRUN_EXPIRY (R61): AFTERRUN_MAX expires, and the module completes its shutdown. -/
def execAfterrunExpiry (eph : List (Nat × Nat)) (almanac : Nat) (osc : Int) (s : State) : Host.Outcome State Fault Refusal :=
  onBoth (afterrunExpiry eph almanac osc) s

/-- SHUTDOWN_PRESET_WRITE (R64): Writing SHUTDOWN_PRESET expands it into the shutdown fields. -/
def execShutdownPresetWrite (v : Nat) (s : State) : Host.Outcome State Fault Refusal := onDev (onReg 0 (shutdownPreset v)) s

/-- LOAD (R77): CFG_LOAD_CMD value 1 checks an image and accepts or refuses it, building live shadows or static regions. -/
def execLoadCmd (x : Reading) (s : State) : Host.Outcome State Fault Refusal := onRead (fun m => onReg 1 (loadImage x m)) s

/-- LOAD_AND_PERSIST (R85): CFG_LOAD_CMD value 2 loads an image and also persists it to the image store. -/
def execLoadAndPersist (x : Reading) (s : State) : Host.Outcome State Fault Refusal :=
  onRead (fun m => onReg 1 (loadAndPersist x m)) s

/-- STATIC_BUILD_COMPLETE (R79): A static region build ends stage 4, re-enables its blocks and sets RESULT OK and LOAD_STATE IDLE. -/
def execStaticBuildComplete (flashOk : Bool) (s : State) : Host.Outcome State Fault Refusal := onBoth (staticBuildComplete flashOk) s

/-- LIVE_REGION_SWAP (R78): A pending live region's shadow copy replaces the running copy at its swap instant, and a persisted patch is stored. -/
def execLiveRegionSwap (r : Nat) (flashOk : Bool) (s : State) : Host.Outcome State Fault Refusal := onBoth (liveRegionSwap r flashOk) s

/-- LIVE_SWAP_TIMEOUT (R81): A region waits CFG_LIVE_TMO for its swap, so its shadow is discarded and its bit in CFG_RGN_TMO is set. -/
def execLiveSwapTimeout (r : Nat) (s : State) : Host.Outcome State Fault Refusal := onDev (liveSwapTimeout r) s

/-- PREG_WRITE (R92): A P-register write is stored persistently, counted, read back and possibly marked WORN. -/
def execPregWrite (mst : Master) (n : Nat) (w : Nat) (cell1 : Option Nat) (cell2 : Option Nat) (s : State) : Host.Outcome State Fault Refusal :=
  onDev (pregWrite mst n w cell1 cell2) s

/-- MD_PRESET_WRITE (R113): Writing MD_PRESET expands it into the source weights, gates and readmit times. -/
def execMdPresetWrite (v : Nat) (s : State) : Host.Outcome State Fault Refusal := onDev (onReg 3 (mdPreset v)) s

/-- MD_FUSION_TICK (R107): At each base tick the sources are gated, the fused speed is formed and MD_STATE is updated. -/
def execMdFusionTick (s : State) : Host.Outcome State Fault Refusal := onDev (onBlock 3 mdFusionTick) s

/-- PPS_EDGE_MEASURE (R104): At a reference edge MT is measured against GNSS or network time, and the offset is set or steered. -/
def execPpsEdgeMeasure (source : Nat) (ref : Int) (s : State) : Host.Outcome State Fault Refusal :=
  onDev (onBlock 3 (fun d => if source = 2 then d.netMeasure ref else ppsEdgeMeasure source ref d)) s

/-- MT_LOCK_TIMEOUT (R104): 3 s pass with no reference edge, so MT_LOCKED falls and MT_UNLOCK is set. -/
def execMtLockTimeout (s : State) : Host.Outcome State Fault Refusal := onDev (onBlock 3 timeLost) s

/-- RA_PULSE (R105): A pulse on the RA source advances the rotor angle count and its interval. -/
def execRaPulse (back : Bool) (s : State) : Host.Outcome State Fault Refusal := onDev (onBlock 3 (raPulse back)) s

/-- RA_PULSE_TIMEOUT (R105): No RA pulse arrives for 1 s, so RA_VALID goes to 0. -/
def execRaPulseTimeout (s : State) : Host.Outcome State Fault Refusal := onDev (onBlock 3 raPulseTimeout) s

/-- FILE_EVENT (R115): A GO write files a scheduler event and returns a handle or FULL, LATE or CLASS-DENIED. -/
def execFileEvent (c : Nat) (s : State) : Host.Outcome State Fault Refusal := onDev (onReg 3 (fileEvent c)) s

/-- EVENT_ISSUE (R116): A pending event crosses its target, is ranked and delivered to its destination, and writes an issue record. -/
def execEventIssue (s : State) : Host.Outcome State Fault Refusal := onDev (onBlock 3 eventIssue) s

/-- CANCEL_EVENT (R119): A write of TMB CANCEL cancels a pending event, or returns ALREADY-ISSUED or STALE-HANDLE. -/
def execCancelEvent (handle : Nat) (s : State) : Host.Outcome State Fault Refusal := onDev (onReg 3 (cancelEvent handle)) s

/-- REVERSAL_CONFIRM (R121): Reversal is confirmed after REV_CONFIRM_MM, so REVERSE is set and CANCEL-class events are removed. -/
def execReversalConfirm (s : State) : Host.Outcome State Fault Refusal := onDev (onBlock 3 reversalConfirmed) s

/-- FORWARD_CONFIRM (R121): Forward travel is confirmed after REV_CONFIRM_MM, and REVERSE is cleared. -/
def execForwardConfirm (s : State) : Host.Outcome State Fault Refusal := onDev (onBlock 3 forwardConfirm) s

/-- HISTORY_ENTRY (R124): A position-history entry is written after HIST_STEP_MM of travel or HIST_MAXT_MS of time. -/
def execHistoryEntry (s : State) : Host.Outcome State Fault Refusal := onDev (onBlock 3 historyEntry) s

/-- HISTORY_QUERY (R125): A query GO interpolates the position history at an MT or MD key. -/
def execHistoryQuery (byMd : Bool) (s : State) : Host.Outcome State Fault Refusal :=
  onDev (onReg 3 (fun d => historyQuery byMd (d.queryKey byMd) d)) s

/-- SNAPSHOT_LATCH (R126): Writing TMB_SNAP.LATCH latches MT, MD, RA and speed from one broadcast word. -/
def execSnapshotLatch (s : State) : Host.Outcome State Fault Refusal := onDev (onReg 3 snapshotLatch) s

/-- PD_FAULT_CHANGE (R48): A power domain's regulator fault sets or clears its bit in SYS_PD_STAT.PD_FAULT, raising or recovering PD-FAULT. -/
def execPdFaultChange (p : Nat) (on : Bool) (s : State) : Host.Outcome State Fault Refusal := onDev (pdFaultChange p on) s

/-- LOCKSTEP_PAIR_MISMATCH (R434): One Shoit lockstep pair mismatches, SHOIT-PAIR-LOST is raised and the other pair continues alone. -/
def execLockstepPairMismatch (s : State) : Host.Outcome State Fault Refusal := onBoth lockstepMismatch s

end Sys2Proof.Machine
end

