-- ==== Sys2Proof/Machine/ExecMotion.lean ====
section
/-! DEFINITION. Machine/ExecMotion.lean: the commands of LAH, SLU and CTL. -/

namespace Sys2Proof.Machine

/-- PREDICTION_CYCLE (R133): Each 1 ms cycle forms the pose, predicts the paths, checks them against the committed path, files and refiles Pan entries, and marks coverage. -/
def execPredictionCycle (fetched : List Nat) (s : State) : Host.Outcome State Fault Refusal := onBoth (onBlockM 4 (predictionCycle fetched)) s

/-- FLOOD (R147): A taken-up trigger removes the FILED entries beyond the divergence point and compensates the ISSUED ones. -/
def execFlood (s : State) : Host.Outcome State Fault Refusal := onRead (fun m => onBlock 4 (lahFlood m)) s

/-- PAN_ENTRY_RAKE (R145): An ISSUED entry reaches its effective instant unflooded and is raked. -/
def execPanEntryRake (s : State) : Host.Outcome State Fault Refusal := onDev (onBlock 4 panEntryRake) s

/-- POSE_LOST_TIMEOUT (R129): DR_LIMIT_MS passes with no GNSS epoch, so POSE_STATE becomes LOST. -/
def execPoseLostTimeout (s : State) : Host.Outcome State Fault Refusal := onDev (onBlock 4 poseLostTimeout) s

/-- FLOOD_REQUEST (R147): A write of LAH_FLOOD_REQ floods the named implements with cause HOST. -/
def execFloodRequest (mask : Nat) (s : State) : Host.Outcome State Fault Refusal := onDev (onReg 4 (floodRequest mask)) s

/-- MASTER_WRITE (R147): Writing LAH_CTL.MASTER from 1 to 0 floods the implement with cause MASTER; 0 to 1 lets filing resume. -/
def execMasterWrite (v : Nat) (s : State) : Host.Outcome State Fault Refusal := onDev (onReg 4 (masterWrite v)) s

/-- LAH_DISABLE (R156): Writing LAH EN to 0 floods all implements with cause MASTER and stops filing. -/
def execLahDisable (s : State) : Host.Outcome State Fault Refusal := onRead (fun m => onReg 4 (lahDisable m)) s

/-- OVERLAP_PRESET_WRITE (R138): Writing OVERLAP_PRESET expands it into the coverage thresholds. -/
def execOverlapPresetWrite (v : Nat) (s : State) : Host.Outcome State Fault Refusal :=
  onDev (onReg 4 (fun d => d.presetHeld LAH.OVERLAP_PRESET 0 v (overlapPreset v))) s

/-- MAP_ORIGIN_WRITE (R156): A write to LAT0, LON0 or a map field while EN is 0 clears the coverage map. -/
def execMapOriginWrite (r : MapReg) (v : Nat) (s : State) : Host.Outcome State Fault Refusal := onBoth (onRegM 4 (mapOrigin r.fld v)) s

/-- IMPORT_GO (R153): A write of LAH_IMP_CMD.GO starts an import batch, or is refused BUSY or BAD-ADDR. -/
def execImportGo (s : State) : Host.Outcome State Fault Refusal := onDev (onReg 4 importGo) s

/-- RATE_FILE (R146): A write of RATE_GO files a rate entry for an implement. -/
def execRateFile (imp : Nat) (s : State) : Host.Outcome State Fault Refusal := onDev (onReg 4 (rateFile imp)) s

/-- SLUICE_ARM (R161): An arm command opens a group for a template, or is refused. -/
def execSluiceArm (t : Nat) (s : State) : Host.Outcome State Fault Refusal := onDev (onReg 5 (sluiceArm t)) s

/-- SLUICE_PREPARE (R164): At the prepare instant the local actions are checked, reserved and staged, and PREPARE frames are sent. -/
def execSluicePrepare (t : Nat) (s : State) : Host.Outcome State Fault Refusal := onDev (onBlock 5 (sluicePrepare t)) s

/-- CARSIL_WINDOW (R172): A Carsil window starts or ends, carrying the pending PREPARE, decision, COMP and QUERY frames and settling outcomes. -/
def execCarsilWindow (ends : Bool) (s : State) : Host.Outcome State Fault Refusal := onDev (onBlock 5 (carsilWindow ends)) s

/-- VOTE (R169): A VOTE message from a node is received and recorded for its group. -/
def execVoteMsg (bs : List Nat) (s : State) : Host.Outcome State Fault Refusal := onDev (onBlock 5 (voteMessage bs)) s

/-- SLUICE_DECIDE (R173): At the end of the last vote window the group is decided COMMIT or ABORT. -/
def execSluiceDecide (t : Nat) (s : State) : Host.Outcome State Fault Refusal := onDev (onBlock 5 (sluiceDecide t)) s

/-- SLUICE_COMMIT (R165): At the commit instant the staged local actions are rechecked and delivered together, or the group aborts. -/
def execSluiceCommit (t : Nat) (s : State) : Host.Outcome State Fault Refusal := onDev (onBlock 5 (sluiceCommitted t)) s

/-- OUTCOME (R170): An OUTCOME message from a node is received for a committed group. -/
def execOutcomeMsg (bs : List Nat) (s : State) : Host.Outcome State Fault Refusal := onDev (onBlock 5 (outcomeMessage bs)) s

/-- SLUICE_CANCEL (R173): A write of SLU_CANCEL aborts an undecided group, or returns TOO-LATE or NOT-OPEN. -/
def execSluiceCancel (t : Nat) (s : State) : Host.Outcome State Fault Refusal := onDev (onReg 5 (sluiceCancel t)) s

/-- SLUICE_DISABLE (R178): Writing SLU EN to 0 ends the open groups. -/
def execSluiceDisable (s : State) : Host.Outcome State Fault Refusal := onDev (onReg 5 sluiceDisable) s

/-- CARSIL_PRESET_WRITE (R182): Writing CARSIL_PRESET expands it into the Carsil timing fields. -/
def execCarsilPresetWrite (v : Nat) (s : State) : Host.Outcome State Fault Refusal := onDev (onReg 5 (carsilPreset v)) s

/-- PREPARE (R170): A participant receives PREPARE, checks and stages its actions, and votes. -/
def execPrepareMsg (bs : List Nat) (s : State) : Host.Outcome State Fault Refusal := onDev (onBlock 5 (prepareMessage bs)) s

/-- COMMIT (R170): A participant receives COMMIT and applies its actions at COMMIT_TIME, or late on receipt. -/
def execCommitMsg (bs : List Nat) (s : State) : Host.Outcome State Fault Refusal := onDev (onBlock 5 (commitMessage bs)) s

/-- ABORT (R170): A participant receives ABORT and releases its staged actions. -/
def execAbortMsg (bs : List Nat) (s : State) : Host.Outcome State Fault Refusal := onDev (onBlock 5 (abortMessage bs)) s

/-- GRACE_EXPIRY (R170): A participant that holds no decision by COMMIT_TIME + GRACE_US releases its actions and reports ABORTED-LATE. -/
def execGraceExpiry (src : Nat) (group : Nat) (inst : Nat) (s : State) : Host.Outcome State Fault Refusal :=
  onDev (onBlock 5 (graceExpiry src group inst)) s

/-- COMP (R170): A participant receives COMP, applies the entries and answers COMPENSATED. -/
def execCompMsg (bs : List Nat) (s : State) : Host.Outcome State Fault Refusal := onDev (onBlock 5 (compMessage bs)) s

/-- QUERY (R170): A participant receives QUERY and resends its OUTCOME. -/
def execQueryMsg (bs : List Nat) (s : State) : Host.Outcome State Fault Refusal := onDev (onBlock 5 (queryMessage bs)) s

/-- LOOP_TICK (R187): At each base tick the previous outputs are published, the inputs sampled and the due slots computed. -/
def execLoopTick (s : State) : Host.Outcome State Fault Refusal := onDev (onBlock 6 loopTick) s

/-- LOOP_OVERRUN (R188): Slots not completed 45 µs after the tick republish their previous outputs, and CTL-OVERRUN is raised. -/
def execLoopOverrun (slots : List Nat) (s : State) : Host.Outcome State Fault Refusal := onDev (onBlock 6 (loopOverrun slots)) s

/-- FE_ACTION_FIRE (R203): The following-error timer reaches FE_TIME_MS, or PV is lost, and the slot fires its FE_ACTION. -/
def execFeActionFire (s : State) : Host.Outcome State Fault Refusal := onDev (onBlock 6 feActionFire) s

/-- CTL_TRIP (R204): A write of CTL_TRIP trips the named groups at the next base tick. -/
def execCtlTrip (mask : Nat) (s : State) : Host.Outcome State Fault Refusal := onDev (onReg 6 (ctlTrip mask)) s

/-- RESUME (R205): Writing RESUME returns a HOLD, RAMP or TRIPPED slot to RUN bumplessly, or is refused while PV is lost. -/
def execResume (n : Nat) (s : State) : Host.Outcome State Fault Refusal := onDev (onReg 6 (loopResume n)) s

/-- SLOT_ENABLE_WRITE (R206): Writing a slot's EN starts it at its next run or puts it in OFF. -/
def execSlotEnableWrite (n : Nat) (on : Bool) (s : State) : Host.Outcome State Fault Refusal := onDev (onReg 6 (slotEnable n on)) s

/-- LOOP_ENGINE_DISABLE (R206): Writing CTL_CTL.EN to 0 puts every slot in OFF, each writing its SAFE_VAL. -/
def execLoopEngineDisable (s : State) : Host.Outcome State Fault Refusal := onDev (onReg 6 (loopEngineEnable false)) s

/-- SUP_PRESET_WRITE (R207): Writing SUP_PRESET expands it into the slot's supervision fields. -/
def execSupPresetWrite (n : Nat) (v : Nat) (s : State) : Host.Outcome State Fault Refusal :=
  onDev (onReg 6 (fun d => d.presetHeld CTL.S_SUP_PRESET n v (supPreset n v))) s

end Sys2Proof.Machine
end

