-- ==== Sys2Proof/Machine/ExecNet.lean ====
section
/-! DEFINITION. Machine/ExecNet.lean: the commands of CAN and ETH. -/

namespace Sys2Proof.Machine

/-- CAN_FRAME_RX (R349): A received CAN frame is filtered into its queue or receive map, or dropped on a full queue. -/
def execCanFrameRx (p : Nat) (id : Nat) (bs : Option (List Nat)) (s : State) : Host.Outcome State Fault Refusal :=
  onDev (onBlock 14 (canFrame p id (bs.getD []) bs.isSome)) s

/-- CAN_WINDOW (R353): A time-triggered window starts, and the module sends its reference, slot or Carsil frames. -/
def execCanWindow (p : Nat) (start : Nat) (busy : Nat) (won : Bool) (s : State) : Host.Outcome State Fault Refusal :=
  onDev (onBlock 14 (canWindow p start busy won)) s

/-- BUS_OFF (R351): A port enters bus-off and raises CAN-BUS-OFF. -/
def execBusOff (p : Nat) (s : State) : Host.Outcome State Fault Refusal := onDev (onBlock 14 (busOffEnter p)) s

/-- BUS_OFF_RECOVERY (R351): After 128 sequences of 11 recessive bits the port leaves bus-off. -/
def execBusOffRecovery (p : Nat) (s : State) : Host.Outcome State Fault Refusal := onDev (onBlock 14 (busOffRecovery p)) s

/-- REFERENCE_MESSAGE (R354): A received reference message marks the cycle, gives a time measurement and updates SYNC. -/
def execReferenceMessage (p : Nat) (prio : Nat) (bs : List Nat) (s : State) : Host.Outcome State Fault Refusal :=
  onDev (onBlock 14 (referenceMessage p prio bs)) s

/-- BACKUP_REFERENCE_SEND (R355): A potential master sees no start-of-frame by mark + 20 µs × REF_PRIO and sends a reference message. -/
def execBackupReferenceSend (p : Nat) (s : State) : Host.Outcome State Fault Refusal := onDev (onBlock 14 (backupReference p)) s

/-- SYNC_LOST (R356): No reference message for 2 basic cycles sets WAITING and raises CAN-SYNC-LOST. -/
def execSyncLost (p : Nat) (s : State) : Host.Outcome State Fault Refusal := onDev (onBlock 14 (syncLost p)) s

/-- CAN_PRESET_WRITE (R350): Writing CAN_PRESET expands it into the bit-timing fields. -/
def execCanPresetWrite (p : Nat) (v : Nat) (s : State) : Host.Outcome State Fault Refusal := onDev (onReg 14 (canPreset p v)) s

/-- SYNC (R360): An 802.1AS Sync with its Follow_Up gives a time measurement. -/
def execSyncMsg (p : Nat) (domain : Nat) (ptp : Nat) (s : State) : Host.Outcome State Fault Refusal :=
  onDev (onBlock 15 (syncReceived p domain ptp)) s

/-- SYNC_SEND (R360): As master or relay, the module sends Sync and Follow_Up every sync interval. -/
def execSyncSend (s : State) : Host.Outcome State Fault Refusal := onDev (onBlock 15 syncSend) s

/-- ANNOUNCE (R360): A foreign Announce message is counted and ignored. -/
def execAnnounceMsg (p : Nat) (s : State) : Host.Outcome State Fault Refusal := onDev (onBlock 15 (announce p)) s

/-- UDP_DATAGRAM (R362): A received datagram is routed to Carsil, the peer messages or the field cores, or dropped. -/
def execUdpDatagram (p : Nat) (dst : Nat) (frag : Bool) (bad : Bool) (bs : List Nat) (s : State) : Host.Outcome State Fault Refusal :=
  onDev (onBlock 15 (udpDatagram p dst frag bad bs)) s

/-- ARP_REQUEST (R362): The hardware answers ARP for the port's address. -/
def execArpRequest (p : Nat) (ip : Nat) (s : State) : Host.Outcome State Fault Refusal := onDev (onBlock 15 (arpRequest p ip)) s

/-- ETH_LINK_DOWN (R374): A PHY link is lost, and LINK_DOWNS counts it. -/
def execEthLinkDown (p : Nat) (s : State) : Host.Outcome State Fault Refusal := onDev (onBlock 15 (ethLinkDown p)) s

/-- ADDRESS_CLAIM (R363): An ISO 11783 port claims its address, or sends cannot-claim and retries after 1 s. -/
def execAddressClaim (p : Nat) (contender : Option Nat) (s : State) : Host.Outcome State Fault Refusal :=
  onDev (onBlock 14 (addressClaim p contender)) s

/-- TRANSPORT_PROTOCOL (R363): An ISO 11783 TP or ETP session message is handled in hardware. -/
def execTransportProtocol (p : Nat) (id : Nat) (bs : List Nat) (s : State) : Host.Outcome State Fault Refusal :=
  onDev (onBlock 14 (transportProtocol p id bs)) s

/-- PROCESS_DATA (R364): A condensed work state point change, or the 1 s repeat, sends a Process Data message. -/
def execProcessData (g : Nat) (s : State) : Host.Outcome State Fault Refusal := onDev (onBlock 14 (processData g)) s

/-- NODE_TIMEOUT (R365): No mapped frame for NODE_TMO_MS marks a node lost and its points SOURCE-LOST. -/
def execNodeTimeout (n : Nat) (s : State) : Host.Outcome State Fault Refusal := onDev (onBlock 14 (nodeTimeout n)) s

/-- STATUS_SEND (R366): STATUS is sent on every peer port each PEER_PERIOD_MS and on any change. -/
def execStatusSend (s : State) : Host.Outcome State Fault Refusal := onDev (onBlock 15 statusPeriod) s

/-- STATUS (R368): A received peer STATUS updates the peer table, the chosen set and the leader, and may submit a mode request. -/
def execStatusMsg (bs : List Nat) (s : State) : Host.Outcome State Fault Refusal := onDev (onBlock 15 (statusMessage bs)) s

/-- PEER_LOSS (R366): No STATUS for PEER_LOSS_N periods loses the peer and repeats the election. -/
def execPeerLoss (e : Nat) (s : State) : Host.Outcome State Fault Refusal := onDev (onBlock 15 (peerLoss e)) s

/-- JOIN_WAIT_END (R368): After JOIN_WAIT_MS the module becomes MEMBER or EXCLUDED. -/
def execJoinWaitEnd (s : State) : Host.Outcome State Fault Refusal := onDev (onBlock 15 joinWaitEnd) s

/-- MIRROR_SEND (R369): Every 1 ms a member sends MIRROR records of its changed mirrored points. -/
def execMirrorSend (s : State) : Host.Outcome State Fault Refusal := onDev (onBlock 15 mirrorSend) s

/-- MIRROR (R369): A received MIRROR message writes the producer's records into the consumer's points. -/
def execMirrorMsg (bs : List Nat) (s : State) : Host.Outcome State Fault Refusal := onDev (onBlock 15 (mirrorMessage bs)) s

/-- SAFE (R371): A received peer SAFE message makes a module not in SAFE enter SAFE as propagated. -/
def execSafeMsg (bs : List Nat) (s : State) : Host.Outcome State Fault Refusal := onDev (onBlock 15 (safeReceived bs)) s

/-- SAFE_MESSAGE_REPEAT (R371): The SAFE message is repeated every 1 ms, ten times in all. -/
def execSafeMessageRepeat (s : State) : Host.Outcome State Fault Refusal := onDev (onBlock 15 safeMessageRepeat) s

/-- ETH_LINK_UP (R374): An Ethernet PHY link comes up, LINK_UP is set and ETH-LINK-DOWN recovers. -/
def execEthLinkUp (p : Nat) (s : State) : Host.Outcome State Fault Refusal := onDev (onBlock 15 (ethLinkUp p)) s

/-- PDELAY_REQ (R360): An 802.1AS peer-delay request received on a port is timestamped and answered under the peer-delay mechanism. -/
def execPdelayReq (p : Nat) (s : State) : Host.Outcome State Fault Refusal := onDev (onBlock 15 (pdelayReq p)) s

end Sys2Proof.Machine
end

