-- ==== Sys2Proof/Machine/ExecPlant.lean ====
section
/-! DEFINITION. Machine/ExecPlant.lean: the commands of LSW, VDR, FIO and BLW. -/

namespace Sys2Proof.Machine

/-- SWITCH_COMMAND (R280): A command delivered to a load switch sets its commanded state and starts a switch-on or switch-off. -/
def execSwitchCommand (n : Nat) (on : Bool) (s : State) : Host.Outcome State Fault Refusal := onDev (onBlock 10 (lsCommand n on)) s

/-- LSW_REARM (R280): Writing REARM while CMD is 1 is a switch-on. -/
def execLswRearm (n : Nat) (s : State) : Host.Outcome State Fault Refusal := onDev (onReg 10 (lsRearm n)) s

/-- SLEW_DONE (R281): The output comes within 1 V of supply, and the channel enters ON. -/
def execSlewDone (n : Nat) (s : State) : Host.Outcome State Fault Refusal := onDev (onBlock 10 (slewDone n)) s

/-- WIRE_MODEL_UPDATE (R283): Every 10 µs the wire thermal model is updated, and a FUSE trip occurs when H reaches 1.0. -/
def execWireModelUpdate (n : Nat) (meanSq : Nat) (s : State) : Host.Outcome State Fault Refusal := onDev (onBlock 10 (wireModelUpdate n meanSq)) s

/-- INSTANTANEOUS_TRIP (R286): Current above the instantaneous threshold trips the channel to SHORT or into an inrush retry. -/
def execInstantaneousTrip (n : Nat) (s : State) : Host.Outcome State Fault Refusal := onDev (onBlock 10 (instantaneousTrip n)) s

/-- RETRY_WAIT_END (R290): LAMP_SPACE_MS elapses in RETRY-WAIT, and a new inrush attempt starts. -/
def execRetryWaitEnd (n : Nat) (s : State) : Host.Outcome State Fault Refusal := onDev (onBlock 10 (retryWaitEnd n)) s

/-- JUNCTION_OVERTEMP (R292): A junction sensor above 175 °C switches the channel into THERMAL, or LATCHED after THERM_RESTARTS. -/
def execJunctionOvertemp (n : Nat) (tj : Int) (s : State) : Host.Outcome State Fault Refusal := onDev (onBlock 10 (junctionOvertemp n tj)) s

/-- THERMAL_RESUME (R292): The sensor reads below 150 °C after 10 ms, and the channel resumes its sequence. -/
def execThermalResume (n : Nat) (tj : Int) (s : State) : Host.Outcome State Fault Refusal := onDev (onBlock 10 (thermalResume n tj)) s

/-- CLAMP_PULSE (R288): An inductive switch-off clamp pulse is measured, and a high pulse or mean sets CLAMP_HIGH and CLAMP-COOL. -/
def execClampPulse (n : Nat) (energy : Nat) (power : Nat) (s : State) : Host.Outcome State Fault Refusal :=
  onDev (onBlock 10 (clampPulse n energy power)) s

/-- CLAMP_COOL_END (R288): P_CLAMP falls below half its limit, and the channel follows its command again. -/
def execClampCoolEnd (n : Nat) (power : Nat) (s : State) : Host.Outcome State Fault Refusal := onDev (onBlock 10 (clampCoolEnd n power)) s

/-- GOVERNOR_PERIOD (R294): Every 100 µs the governor forms IA, IB and PSW against their limits. -/
def execGovernorPeriod (ia : Nat) (ib : Nat) (cur : List Nat) (s : State) : Host.Outcome State Fault Refusal :=
  onDev (onBlock 10 (governorPeriod ia ib cur)) s

/-- LOAD_SHED (R294): A limit exceeded for GOV_TIME_MS sheds the highest-priority candidate, or raises LSW-GOV-OVER. -/
def execLoadShed (limit : Nat) (s : State) : Host.Outcome State Fault Refusal := onDev (onBlock 10 (loadShed limit)) s

/-- GOVERNOR_RESTORE (R296): After GOV_RESTORE_MS below the restore limits, the most recently shed channel is restored. -/
def execGovernorRestore (s : State) : Host.Outcome State Fault Refusal := onDev (onBlock 10 governorRestore) s

/-- LSW_DIAGNOSTIC_PERIOD (R279): Each 100 µs diagnostic period reports RON and applies the channel's Shadowed fields. -/
def execLswDiagnosticPeriod (n : Nat) (cur : Nat) (ron : Nat) (tj : Int) (s : State) : Host.Outcome State Fault Refusal :=
  onDev (onBlock 10 (lswDiagnostic n cur ron tj)) s

/-- INPUT_UNDERVOLT (R297): A power input below 6.0 V for 100 µs puts its channels in UNDERVOLT. -/
def execInputUndervolt (input : Nat) (s : State) : Host.Outcome State Fault Refusal := onDev (onBlock 10 (inputUndervolt input)) s

/-- UNDERVOLT_RECOVER (R297): The input stays above 7.0 V for 10 ms, and channels commanded ON turn on. -/
def execUndervoltRecover (input : Nat) (s : State) : Host.Outcome State Fault Refusal := onDev (onBlock 10 (undervoltRecover input)) s

/-- DEFERRED_SWITCH_OFF (R298): 1 ms after the input returns below 40 V, the deferred switch-offs are carried out. -/
def execDeferredSwitchOff (n : Nat) (s : State) : Host.Outcome State Fault Refusal := onDev (onBlock 10 (deferredSwitchOff n)) s

/-- OPEN_LOAD (R299): Open-load conditions held for 10 ms set or clear OPEN_LOAD. -/
def execOpenLoad (n : Nat) (on : Bool) (s : State) : Host.Outcome State Fault Refusal := onDev (onBlock 10 (openLoad n on)) s

/-- SHORT_TO_BAT (R299): Output above 8.0 V for 10 ms while OFF sets SHORT_TO_BAT. -/
def execShortToBat (n : Nat) (s : State) : Host.Outcome State Fault Refusal := onDev (onBlock 10 (shortToBat n)) s

/-- LOAD_PRESET_WRITE (R293): Writing LOAD_PRESET expands it into the channel's inrush and diagnostic fields. -/
def execLoadPresetWrite (n : Nat) (v : Nat) (s : State) : Host.Outcome State Fault Refusal := onDev (onReg 10 (loadPreset n v)) s

/-- START (R310): A valve START starts or restarts a profile slot, or is refused. -/
def execStartCmd (n : Nat) (slot : Nat) (s : State) : Host.Outcome State Fault Refusal := onDev (onReg 11 (vdStart n slot)) s

/-- STOP (R310): A valve STOP ends the profile and starts STOPPING. -/
def execStopCmd (n : Nat) (s : State) : Host.Outcome State Fault Refusal := onDev (onReg 11 (vdStop n)) s

/-- PHASE_END (R308): A phase ends on current or time, and the next phase begins or the profile stops. -/
def execPhaseEnd (n : Nat) (k : Nat) (cur : Nat) (peak : Nat) (energy : Nat) (s : State) : Host.Outcome State Fault Refusal :=
  onDev (onBlock 11 (phaseEnd n k cur peak energy)) s

/-- CURRENT_LOOP_TICK (R312): Every 10 µs the PWM current loop updates DUTY from the target, demand and dither. -/
def execCurrentLoopTick (n : Nat) (mean : Nat) (x : CoilSamples) (energy : Nat) (s : State) : Host.Outcome State Fault Refusal :=
  onDev (onBlock 11 (currentLoopTick n mean x.last x.peak energy)) s

/-- STARVE_TIMEOUT (R316): A channel refused its source for 200 µs raises VDR-OVERLAP-STARVE. -/
def execStarveTimeout (n : Nat) (s : State) : Host.Outcome State Fault Refusal := onDev (onBlock 11 (starveTimeout n)) s

/-- CLOSING_DETECTION_DONE (R320): The closing window ends, the closing result is final, and the report item is written. -/
def execClosingDetectionDone (n : Nat) (zeroUs : Nat) (u : List Int) (energy : Nat) (last : Nat) (s : State) : Host.Outcome State Fault Refusal :=
  onDev (onBlock 11 (closingDetectionDone n zeroUs u energy last)) s

/-- VALVE_OVERCURRENT (R322): Current above the trip threshold switches the channel off and latches SHORT. -/
def execValveOvercurrent (n : Nat) (s : State) : Host.Outcome State Fault Refusal := onDev (onBlock 11 (valveOvercurrent n)) s

/-- VALVE_OPEN (R322): Applying for 200 µs below 50 mA latches OPEN. -/
def execValveOpen (n : Nat) (s : State) : Host.Outcome State Fault Refusal := onDev (onBlock 11 (valveOpen n)) s

/-- VALVE_OVERTEMP (R322): The low-side junction above 175 °C latches THERMAL. -/
def execValveOvertemp (n : Nat) (tj : Int) (s : State) : Host.Outcome State Fault Refusal := onDev (onBlock 11 (valveOvertemp n tj)) s

/-- BOOST_CHARGE (R306): BOOST_V falls 0.5 V below the set voltage and the converter charges until it reaches it. -/
def execBoostCharge (v : Nat) (s : State) : Host.Outcome State Fault Refusal := onDev (onBlock 11 (boostCharge v)) s

/-- BOOST_LOW (R307): BOOST_V below the set voltage minus the drop for 1 ms sets BOOST_LOW. -/
def execBoostLow (v : Nat) (s : State) : Host.Outcome State Fault Refusal := onDev (onBlock 11 (boostLow v)) s

/-- BOOST_OV (R307): BOOST_V above the over-voltage limit sets BOOST_OV, and switch-offs divert to CLAMP. -/
def execBoostOv (v : Nat) (s : State) : Host.Outcome State Fault Refusal := onDev (onBlock 11 (boostOv v)) s

/-- VDR_DISABLE (R323): Writing VDR EN to 0 stops the channels and the boost converter. -/
def execVdrDisable (s : State) : Host.Outcome State Fault Refusal := onDev (onReg 11 vdrDisable) s

/-- VALVE_PRESET_WRITE (R324): Writing VALVE_PRESET expands it into the PWM, dither and loop fields. -/
def execValvePresetWrite (n : Nat) (v : Nat) (s : State) : Host.Outcome State Fault Refusal :=
  onDev (onReg 11 (fun d => d.presetHeld VDR.CH_VALVE_PRESET n v (valvePreset n v))) s

/-- DOWNSTREAM_FRAME (R328): The isolated side receives a downstream barrier frame, drives outputs and samples inputs, or counts it bad toward loss. -/
def execDownstreamFrame (g : Nat) (noise : Option Nat) (s : State) : Host.Outcome State Fault Refusal :=
  onDev (onBlock 12 (downstreamFrame g noise)) s

/-- UPSTREAM_FRAME (R328): The host side receives an upstream barrier frame, filters input classes, or counts it bad toward GROUP_LOST. -/
def execUpstreamFrame (g : Nat) (cur : List Nat) (on : Nat) (vsup : Nat) (noise : Option Nat) (s : State) : Host.Outcome State Fault Refusal :=
  onDev (onBlock 12 (upstreamFrame g cur on vsup noise)) s

/-- FIO_REARM (R330): Writing REARM releases a group's held outputs through the next downstream frame. -/
def execFioRearm (g : Nat) (s : State) : Host.Outcome State Fault Refusal := onDev (onReg 12 (fioRearm g)) s

/-- IO_OUTPUT_COMMAND (R327): A command to an IO output sets its commanded state, which reaches the pin within 30 µs. -/
def execIoOutputCommand (n : Nat) (on : Bool) (s : State) : Host.Outcome State Fault Refusal := onDev (onBlock 12 (ioCommand n on)) s

/-- IO_OUTPUT_FAULT (R327): An output in current limit for 1 ms, or over 170 °C, switches off with OUT_FAULT. -/
def execIoOutputFault (n : Nat) (s : State) : Host.Outcome State Fault Refusal := onDev (onBlock 12 (ioOutputFault n)) s

/-- AI_PUBLISH (R334): Every AVG_N samples an AI channel publishes its mean code to its point. -/
def execAiPublish (a : Nat) (samples : List Nat) (refs : List Nat) (s : State) : Host.Outcome State Fault Refusal :=
  onDev (onBlock 12 (aiPublish a (samples.zip refs))) s

/-- AI_RANGE (R335): A 4–20 mA code out of range for 10 ms sets UNDER or OVER and clears VALID. -/
def execAiRange (a : Nat) (code : Nat) (s : State) : Host.Outcome State Fault Refusal := onDev (onBlock 12 (aiRange a code)) s

/-- AI_OVERCURRENT (R335): Current above 25 mA for 1 ms opens the shunt. -/
def execAiOvercurrent (a : Nat) (s : State) : Host.Outcome State Fault Refusal := onDev (onBlock 12 (aiOvercurrent a)) s

/-- SHUNT_RECLOSE (R335): The open shunt closes again after 1 s. -/
def execShuntReclose (a : Nat) (s : State) : Host.Outcome State Fault Refusal := onDev (onBlock 12 (shuntReclose a)) s

/-- AI_SUPPLY_TRIP (R336): SSA or SSB above 250 mA for 1 ms switches off, and its ratiometric channels lose VALID. -/
def execAiSupplyTrip (k : Nat) (s : State) : Host.Outcome State Fault Refusal := onDev (onBlock 12 (aiSupplyTrip k)) s

/-- AI_SUPPLY_RETRY (R336): A tripped sensor supply retries every 1 s. -/
def execAiSupplyRetry (k : Nat) (s : State) : Host.Outcome State Fault Refusal := onDev (onBlock 12 (aiSupplyRetry k)) s

/-- IMPACT_PERIOD (R337): Every IMP_PERIOD_MS the impact count is written to its point and added to IMP_TOTAL. -/
def execImpactPeriod (a : Nat) (samples : List Nat) (s : State) : Host.Outcome State Fault Refusal := onDev (onBlock 12 (impactPeriod a samples)) s

/-- FI_EDGE (R338): A filtered edge on an FI input updates its period, count or quadrature count. -/
def execFiEdge (f : Nat) (level : Bool) (both : Bool) (heldNs : Nat) (s : State) : Host.Outcome State Fault Refusal :=
  onDev (onBlock 12 (fiEdge f level both heldNs)) s

/-- FI_PUBLISH (R338): Every 1 ms an FI input publishes its frequency to its point. -/
def execFiPublish (f : Nat) (s : State) : Host.Outcome State Fault Refusal := onDev (onBlock 12 (fiPublish f)) s

/-- BLOWER_PERIOD (R340): Every 10 ms each blower forms its target and runs PI control. -/
def execBlowerPeriod (gap : List Nat) (age : List Nat) (ma : List Nat) (s : State) : Host.Outcome State Fault Refusal :=
  onDev (onBlock 13 (blowerPeriod gap age ma)) s

/-- KICK_TIMEOUT (R341): A KICK with no tach response for 3 s is judged blocked, open or tach-lost. -/
def execKickTimeout (c : Nat) (ma : Nat) (s : State) : Host.Outcome State Fault Refusal := onDev (onBlock 13 (kickTimeout c ma)) s

/-- BLOCK_WAIT_END (R339): 30 s in BLOCK-WAIT elapse, and the blower kicks again. -/
def execBlockWaitEnd (c : Nat) (s : State) : Host.Outcome State Fault Refusal := onDev (onBlock 13 (blockWaitEnd c)) s

/-- TACH_TIMEOUT (R342): No tach edge for TACH_TMO_MS in RUN leads to BLOCK-WAIT or OPEN-LOOP. -/
def execTachTimeout (c : Nat) (ma : Nat) (s : State) : Host.Outcome State Fault Refusal := onDev (onBlock 13 (tachTimeout c ma)) s

/-- BLOWER_SHORT (R342): An output in current limit for 10 ms latches SHORT. -/
def execBlowerShort (c : Nat) (s : State) : Host.Outcome State Fault Refusal := onDev (onBlock 13 (blowerShort c)) s

/-- BLW_WD_KICK (R343): Writing 0x5A to BLW_WD_KICK restarts the blower watchdog. -/
def execBlwWdKick (v : Nat) (s : State) : Host.Outcome State Fault Refusal := onDev (onReg 13 (blwWdKick v)) s

/-- BLOWER_WATCHDOG_EXPIRY (R343): WD_MS passes without a kick, and the running blowers are driven to V_FULL. -/
def execBlowerWatchdogExpiry (s : State) : Host.Outcome State Fault Refusal := onDev (onBlock 13 blowerWatchdogExpiry) s

/-- BLOWER_REARM (R341): Writing REARM releases a LATCHED blower and clears ATTEMPTS. -/
def execBlowerRearm (c : Nat) (s : State) : Host.Outcome State Fault Refusal := onDev (onReg 13 (blowerRearm c)) s

/-- COMMISSION (R344): Writing COMMISSION in SERVICE holds the target at AGE_REF_RPM to capture the baseline. -/
def execCommission (c : Nat) (s : State) : Host.Outcome State Fault Refusal := onDev (onReg 13 (commission c)) s

/-- COMMISSION_DONE (R344): After 10 s steady the baseline is written to the P-register, or FAILED after 60 s. -/
def execCommissionDone (c : Nat) (s : State) : Host.Outcome State Fault Refusal := onDev (onBlock 13 (commissionDone c)) s

/-- AGEING_CHECK (R344): After 10 s steady at AGE_REF_RPM the drive is compared with the baseline. -/
def execAgeingCheck (c : Nat) (s : State) : Host.Outcome State Fault Refusal := onDev (onBlock 13 (ageingCheck c)) s

/-- BLW_PRESET_WRITE (R345): Writing BLW_PRESET expands it into the blower fields. -/
def execBlwPresetWrite (c : Nat) (v : Nat) (s : State) : Host.Outcome State Fault Refusal :=
  onDev (onReg 13 (fun d => d.presetHeld BLW.CH_BLW_PRESET c v (blwPreset c v))) s

/-- SHORT_TO_BAT_CLEAR (R301): A load-switch output stays below 8.0 V for 10 ms while OFF, and SHORT_TO_BAT clears. -/
def execShortToBatClear (n : Nat) (s : State) : Host.Outcome State Fault Refusal := onDev (onBlock 10 (shortToBatClear n)) s

/-- BOOST_OV_END (R307): BOOST_V falls below the set voltage plus 4 V, BOOST_OV clears and switch-offs stop being diverted to CLAMP. -/
def execBoostOvEnd (v : Nat) (s : State) : Host.Outcome State Fault Refusal := onDev (onBlock 11 (boostOvEnd v)) s

end Sys2Proof.Machine
end

