-- ==== Sys2Proof/Machine/ExecSense.lean ====
section
/-! DEFINITION. Machine/ExecSense.lean: the commands of FUS, ISP and GNS. -/

namespace Sys2Proof.Machine

/-- FUSION_INSTANT (R215): At tₙ the window closes, the present samples are fixed, and the frame is built, dropped or skipped. -/
def execFusionInstant (s : State) : Host.Outcome State Fault Refusal := onDev (onBlock 7 fusionInstant) s

/-- FRAME_BUILD_COMPLETE (R218): A frame build completes, and its band points, ego-motion, head maps, output item and taps are published. -/
def execFrameBuildComplete (busy : List Nat) (s : State) : Host.Outcome State Fault Refusal := onBoth (onBlockM 7 (frameBuildComplete busy)) s

/-- FUSE_PRESET_WRITE (R234): Writing FUSE_PRESET expands it into MIN_CAMERAS and the ego-motion fields. -/
def execFusePresetWrite (v : Nat) (s : State) : Host.Outcome State Fault Refusal := onDev (onReg 7 (fusePreset v)) s

/-- FRAME_START (R242): An accepted CSI-2 Frame Start takes FS_MT, consumes a FRAME_NO and applies the pending parameter set. -/
def execFrameStart (port : Nat) (vc : Nat) (pkt : ShortPkt) (s : State) : Host.Outcome State Fault Refusal := onBoth (onBlockM 8 (frameStart port vc pkt.fn pkt.hdr)) s

/-- LINE (R244): A received line is checked, processed or replaced, or is lost on a full line store. -/
def execLineMsg (port : Nat) (vc : Nat) (dt : Nat) (hdr : Nat) (after : Nat) (crcOk : Bool) (px : List Nat) (s : State) :
    Host.Outcome State Fault Refusal :=
  onBoth (onBlockM 8 (lineReceived port vc dt hdr after crcOk px)) s

/-- FRAME_END (R253): Frame End closes the frame, and the descriptor, completion item and statistics are written, or the frame is INCOMPLETE. -/
def execFrameEnd (port : Nat) (vc : Nat) (hdr : Nat) (s : State) : Host.Outcome State Fault Refusal :=
  onBoth (onBlockM 8 (frameEnd port vc hdr)) s

/-- LINK_DOWN (R240): A camera link goes down, and the frame in progress closes INCOMPLETE. -/
def execLinkDown (p : Nat) (s : State) : Host.Outcome State Fault Refusal := onBoth (onBlockM 8 (linkDown p)) s

/-- CAM_LINK_LOST (R240): A link stays down for 100 ms, so CAM-LINK-LOST is raised. -/
def execCamLinkLost (p : Nat) (s : State) : Host.Outcome State Fault Refusal := onDev (onBlock 8 (camLinkLost p)) s

/-- POC_TRIP (R240): Power-over-coax current above 1.2 A for 100 µs switches the port's power off. -/
def execPocTrip (p : Nat) (s : State) : Host.Outcome State Fault Refusal := onDev (onBlock 8 (pocTrip p)) s

/-- POC_EN_WRITE (R240): Writing POC_EN switches camera power, restoring it after a trip on a 0-to-1 write. -/
def execPocEnWrite (p : Nat) (on : Bool) (s : State) : Host.Outcome State Fault Refusal := onDev (onReg 8 (pocEnWrite p on)) s

/-- FSYNC_TRIGGER (R243): The frame-sync trigger is sent up the link FSYNC_OFS_US before each fusion instant. -/
def execFsyncTrigger (p : Nat) (s : State) : Host.Outcome State Fault Refusal := onDev (onBlock 8 (fsyncTrigger p)) s

/-- I2C_GO (R258): Writing I2C_GO starts one tunnelled I2C transfer. -/
def execI2cGo (p : Nat) (s : State) : Host.Outcome State Fault Refusal := onDev (onReg 8 (i2cGo p)) s

/-- I2C_DONE (R258): A tunnelled I2C transfer completes as done or no-acknowledge. -/
def execI2cDone (p : Nat) (ack : Bool) (byte : Nat) (s : State) : Host.Outcome State Fault Refusal := onDev (onBlock 8 (i2cDone p ack byte)) s

/-- DPC_PRESET_WRITE (R250): Writing DPC_PRESET expands it into the defective-pixel fields. -/
def execDpcPresetWrite (c : Nat) (v : Nat) (s : State) : Host.Outcome State Fault Refusal := onDev (onReg 8 (dpcPreset c v)) s

/-- TONE_PRESET_WRITE (R250): Writing TONE_PRESET expands it into the tone curve. -/
def execTonePresetWrite (c : Nat) (v : Nat) (s : State) : Host.Outcome State Fault Refusal :=
  onDev (onReg 8 (fun d => d.presetHeld ISP.C_TONE_PRESET c v (tonePreset c v))) s

/-- CAMERA_EN_WRITE (R244): Writing camera or ISP EN to 0 closes the frame in progress INCOMPLETE; writing 1 restarts FRAME_NO. -/
def execCameraEnWrite (c : Option Nat) (on : Bool) (s : State) : Host.Outcome State Fault Refusal :=
  onBoth (onRegM 8 (match c with | some n => cameraEnable n on | none => ispEnable on)) s

/-- GNSS_EPOCH (R270): A measurement epoch produces the EPOCH, MEAS and PVT items and delivers velocity, position and heading. -/
def execGnssEpoch (sigs : List GnssSig) (sol : GnssSol) (s : State) : Host.Outcome State Fault Refusal := onDev (onBlock 9 (gnssEpoch sigs sol)) s

/-- PPS_QERR_PUBLISH (R272): The quantisation error of the coming PPS edge is published at least 100 ms before the edge. -/
def execPpsQerrPublish (second_ : Nat) (qerr : Int) (edgeMt : Nat) (s : State) : Host.Outcome State Fault Refusal :=
  onDev (onBlock 9 (ppsQerr second_ qerr edgeMt)) s

/-- PPS_EDGE (R271): An internal PPS edge is placed at a whole GPS second and drives the PPS pin as PPS_MODE gives. -/
def execPpsEdge (s : State) : Host.Outcome State Fault Refusal := onDev (onBlock 9 ppsEdge) s

/-- ANT_SHORT (R262): Bias current above the short threshold for 1 ms switches the antenna bias off. -/
def execAntShort (n : Nat) (s : State) : Host.Outcome State Fault Refusal := onDev (onBlock 9 (antShort n)) s

/-- ANT_BIAS_RETRY (R262): Every 2 s the shorted antenna bias is tried again. -/
def execAntBiasRetry (n : Nat) (persists : Bool) (s : State) : Host.Outcome State Fault Refusal := onDev (onBlock 9 (antBiasRetry n persists)) s

/-- ANT_OPEN (R262): Bias current below the open threshold for 1 s sets the antenna state OPEN. -/
def execAntOpen (n : Nat) (s : State) : Host.Outcome State Fault Refusal := onDev (onBlock 9 (antOpen n)) s

/-- EXT_GO (R269): Writing EXT_GO offers an external solution, which is taken or rejected as late. -/
def execExtGo (s : State) : Host.Outcome State Fault Refusal := onDev (onReg 9 extGo) s

/-- HOT_START_STORE_WRITE (R274): The hot-start store is written to MRAM every 10 min with a fix. -/
def execHotStartStoreWrite (eph : List (Nat × Nat)) (almanac : Nat) (osc : Int) (s : State) : Host.Outcome State Fault Refusal :=
  onDev (onBlock 9 (hotStartStore eph almanac osc)) s

/-- GNSS_PRESET_WRITE (R277): Writing GNSS_PRESET expands it into the rate, mask and enable fields. -/
def execGnssPresetWrite (v : Nat) (s : State) : Host.Outcome State Fault Refusal :=
  onDev (onReg 9 (fun d => d.presetHeld GNS.GNSS_PRESET 0 v (gnssPreset v))) s

/-- CAMERA_LINK_UP (R240): A camera port's A-PHY link finishes retraining, LINK_UP reads 1 and CAM-LINK-LOST recovers. -/
def execCameraLinkUp (p : Nat) (s : State) : Host.Outcome State Fault Refusal := onDev (onBlock 8 (cameraLinkUp p)) s

/-- EXT_SOLUTION_TIMEOUT (R269): EXT_TMO_MS passes after an epoch's EPOCH_MT with no external solution taken, and EXT_FALLBACK decides what the look-ahead unit uses. -/
def execExtSolutionTimeout (s : State) : Host.Outcome State Fault Refusal := onDev (onBlock 9 extTimeout) s

/-- ANT_OPEN_CLEAR (R262): An antenna bias current returns above the open threshold, the state reads OK and GNSS-ANT recovers. -/
def execAntOpenClear (n : Nat) (s : State) : Host.Outcome State Fault Refusal := onDev (onBlock 9 (antOpenClear n)) s

/-- PPS_HOLDOVER_EDGE (R273): Under PPS_MODE ALWAYS across a gap, the PPS pin gives an edge at a whole second of MT, flagged PPS_HOLDOVER. -/
def execPpsHoldoverEdge (s : State) : Host.Outcome State Fault Refusal := onDev (onBlock 9 ppsHoldoverEdge) s

end Sys2Proof.Machine
end

