-- ==== Sys2Proof/Machine/ExecService.lean ====
section
/-! DEFINITION. Machine/ExecService.lean: the commands of QUE, REC, THM, UPD and FLT. -/

namespace Sys2Proof.Machine

/-- WR_START (R380): A field-core word marked START opens a new item. -/
def execWrStart (q : Nat) (w : Nat) (s : State) : Host.Outcome State Fault Refusal := onDev (onPort 16 (coreWord q .start w)) s

/-- WR (R380): A field-core word marked CONTINUE adds bytes to the open item. -/
def execWrCont (q : Nat) (w : Nat) (s : State) : Host.Outcome State Fault Refusal := onDev (onPort 16 (coreWord q .cont w)) s

/-- WR_END (R380): A field-core word marked END closes the open item. -/
def execWrEnd (q : Nat) (w : Nat) (s : State) : Host.Outcome State Fault Refusal := onDev (onPort 16 (coreWord q .stop w)) s

/-- WR_ONE (R380): A field-core word marked ONE is a one-word item. -/
def execWrOne (q : Nat) (w : Nat) (s : State) : Host.Outcome State Fault Refusal := onDev (onPort 16 (coreWord q .one w)) s

/-- QUEUE_WORD_WRITE (R380): A data-path producer writes a marked word at a queue's write port, forming entries. -/
def execQueueWordWrite (q : Nat) (mk : Marker) (w : Nat) (s : State) : Host.Outcome State Fault Refusal := onDev (onBlock 16 (pathWord q mk w)) s

/-- TAIL_WAIT_TIMEOUT (R384): An entry waiting 2 µs for tail-file room drops its item and counts SPILL_LATE. -/
def execTailWaitTimeout (q : Nat) (s : State) : Host.Outcome State Fault Refusal := onDev (onBlock 16 (tailWaitTimeout q)) s

/-- BRINE_SPILL (R381): A burst of tail entries is spilled to Brine. -/
def execBrineSpill (q : Nat) (n : Nat) (s : State) : Host.Outcome State Fault Refusal := onDev (onBlock 16 (brineSpill q n)) s

/-- BRINE_REFILL (R381): The head file is refilled from Brine. -/
def execBrineRefill (q : Nat) (n : Nat) (s : State) : Host.Outcome State Fault Refusal := onDev (onBlock 16 (brineRefill q n)) s

/-- ENTRY_PRESENTATION (R383): A complete item's head entry is presented, with SECDED correction or POISON. -/
def execEntryPresentation (q : Nat) (err : EntryErr) (s : State) : Host.Outcome State Fault Refusal := onDev (onBlock 16 (entryPresentation q err)) s

/-- POP_ENTRY (R386): A POP with ACT 1 takes the head entry if FGEN matches. -/
def execPopEntry (q : Nat) (fgen : Nat) (s : State) : Host.Outcome State Fault Refusal := onDev (onPort 16 (corePop q 1 fgen)) s

/-- POP_ITEM (R386): A POP with ACT 2 takes entries to the end of the item if FGEN matches. -/
def execPopItem (q : Nat) (fgen : Nat) (s : State) : Host.Outcome State Fault Refusal := onDev (onPort 16 (corePop q 2 fgen)) s

/-- DATA_PATH_TAKE (R388): A data-path consumer takes a presented entry, discarding poisoned or broken items. -/
def execDataPathTake (q : Nat) (s : State) : Host.Outcome State Fault Refusal := onDev (onBlock 16 (pathTake q)) s

/-- FLUSH (R389): Writing FLUSH empties the queue and increments FGEN. -/
def execFlush (q : Nat) (s : State) : Host.Outcome State Fault Refusal := onDev (onReg 16 (queueFlush q)) s

/-- WM_PRESET_WRITE (R391): Writing WM_PRESET sets HIGH_WM and LOW_WM. -/
def execWmPresetWrite (q : Nat) (v : Nat) (s : State) : Host.Outcome State Fault Refusal :=
  onDev (onReg 16 (fun d => d.presetHeld QUE.Q_WM_PRESET q v (wmPreset q v))) s

/-- QUEUE_STALE (R393): A privileged queue's stale timer reaches STALE_US, which sets STALE and raises QUE-STALE. -/
def execQueueStale (q : Nat) (s : State) : Host.Outcome State Fault Refusal := onDev (onBlock 16 (queueStale q)) s

/-- RECORD_STORE (R399): The next backlog record is stored in MRAM with its REC_NO, or a LOST record is formed. -/
def execRecordStore (s : State) : Host.Outcome State Fault Refusal := onDev (onBlock 17 recordStore) s

/-- OPERATING_SECOND (R398): Each second with PD2 powered advances and stores the operating seconds. -/
def execOperatingSecond (s : State) : Host.Outcome State Fault Refusal := onDev operatingSecond s

/-- REC_CURSOR_WRITE (R403): Writing REC_CURSOR latches that record into the window. -/
def execRecCursorWrite (no : Nat) (s : State) : Host.Outcome State Fault Refusal := onDev (onReg 17 (recCursorWrite no)) s

/-- REC_WIN7_READ (R403): Reading REC_WIN7 advances the cursor and latches the next record. -/
def execRecWin7Read (s : State) : Host.Outcome State Fault Refusal := onDev (onReg 17 recWin7Read) s

/-- CHALLENGE (R404): REC_CLR_CMD with ACTION 1 places a fresh clear challenge. -/
def execChallenge (s : State) : Host.Outcome State Fault Refusal := onDev (onReg 17 challenge) s

/-- CLEAR_TIDE (R405): REC_CLR_CMD with ACTION 2 checks the token and clears Tide. -/
def execClearTide (key : Nat) (k : Nat) (s : State) : Host.Outcome State Fault Refusal := onRead (fun m => onReg 17 (clearTide key k m)) s

/-- CLEAR_ALL (R405): REC_CLR_CMD with ACTION 3 checks the factory token and clears Crust and Tide. -/
def execClearAll (key : Nat) (k : Nat) (s : State) : Host.Outcome State Fault Refusal := onRead (fun m => onReg 17 (clearAll key k m)) s

/-- CLEAR_ERASE_DONE (R405): The background erase of cleared slots completes. -/
def execClearEraseDone (s : State) : Host.Outcome State Fault Refusal := onDev (onBlock 17 clearEraseDone) s

/-- USER_RECORD (R402): A GO write requests a USER record, accepted or refused on rate or backlog. -/
def execUserRecord (code : Nat) (s : State) : Host.Outcome State Fault Refusal := onDev (onReg 17 (userRecord code)) s

/-- THERMAL_SAMPLE (R409): A group sample checks sensors against neighbours, forms the values used and sets the throttle levels. -/
def execThermalSample (g : Nat) (readings : List Int) (load : Nat) (s : State) : Host.Outcome State Fault Refusal :=
  onDev (onBlock 18 (thermalSample g readings load)) s

/-- THM_PRESET_WRITE (R414): Writing THM_PRESET expands it into the Shoit-only thermal limits. -/
def execThmPresetWrite (v : Nat) (s : State) : Host.Outcome State Fault Refusal := onDev (onReg 18 (thmPreset v)) s

/-- STAGE (R421): UPD_CMD STAGE passes the gate and writes the image into the inactive slot. -/
def execStageCmd (avg : Nat) (k : Nat × Nat) (s : State) : Host.Outcome State Fault Refusal := onRead (fun m => onReg 20 (stage avg k.1 k.2 m)) s

/-- STAGE_COMPLETE (R421): The staging write completes and the slot becomes STAGED. -/
def execStageComplete (s : State) : Host.Outcome State Fault Refusal := onDev (onBlock 20 stageComplete) s

/-- STAGE_GATE_CHECK (R421): Every 1 ms the gate is retested, and a failure abandons the staging. -/
def execStageGateCheck (avg : Nat) (written : Nat) (s : State) : Host.Outcome State Fault Refusal := onDev (onBlock 20 (stageGateCheck avg written)) s

/-- ACTIVATE (R422): UPD_CMD ACTIVATE sets PENDING for the staged slot. -/
def execActivateCmd (avg : Nat) (s : State) : Host.Outcome State Fault Refusal := onDev (onReg 20 (activateSlot avg)) s

/-- ACTIVATE_WITH_REBOOT (R422): UPD_CMD ACTIVATE with REBOOT sets PENDING and resets the module. -/
def execActivateWithReboot (avg : Nat) (s : State) : Host.Outcome State Fault Refusal := onBoth (onRegM 20 (activateReboot avg)) s

/-- ABANDON (R422): UPD_CMD ABANDON clears PENDING. -/
def execAbandonCmd (s : State) : Host.Outcome State Fault Refusal := onDev (onReg 20 abandonPending) s

/-- CONFIRM (R424): UPD_CMD CONFIRM makes the TRIAL slot ACTIVE. -/
def execConfirmCmd (s : State) : Host.Outcome State Fault Refusal := onDev (onReg 20 confirmSlot) s

/-- UPD_CHALLENGE (R426): UPD_CMD CHALLENGE places a fresh owner-lock challenge. -/
def execUpdChallenge (s : State) : Host.Outcome State Fault Refusal := onDev (onReg 20 updChallenge) s

/-- LOCK (R426): UPD_CMD LOCK checks a token and sets the owner lock. -/
def execLockCmd (key : Nat) (avg : Nat) (k : Nat) (s : State) : Host.Outcome State Fault Refusal :=
  onRead (fun m => onReg 20 (ownerLock key avg k m)) s

/-- UNLOCK (R426): UPD_CMD UNLOCK checks a token and clears the owner lock. -/
def execUnlockCmd (key : Nat) (avg : Nat) (k : Nat) (s : State) : Host.Outcome State Fault Refusal :=
  onRead (fun m => onReg 20 (ownerUnlock key avg k m)) s

/-- TRIAL_BOOT_TIMEOUT (R425): A TRIAL boot that has not reached step 8 within 2 s fails its trial. -/
def execTrialBootTimeout (s : State) : Host.Outcome State Fault Refusal := onBoth trialBootTimeout s

/-- HELLO (R429): Opdofy sends HELLO every 1 s while no session is open. -/
def execHelloMsg (s : State) : Host.Outcome State Fault Refusal := onDev hello s

/-- OPEN (R430): OPEN opens a session and erases slot A, or is refused. -/
def execOpenMsg (transport : Nat) (host : Nat) (total : Nat) (avg : Nat) (s : State) : Host.Outcome State Fault Refusal :=
  onDev (opOpen transport host total avg) s

/-- DATA (R430): A DATA chunk at the expected offset is written to slot A and acknowledged. -/
def execDataMsg (transport : Nat) (host : Nat) (session : Nat) (offset : Nat) (chunk : List Nat) (flashOk : Bool) (s : State) : Host.Outcome State Fault Refusal :=
  onBoth (opData transport host session offset chunk flashOk) s

/-- END (R430): END verifies slot A, makes it ACTIVE and resets to BOOT, or refuses it. -/
def execEndMsg (transport : Nat) (host : Nat) (session : Nat) (crc : Nat) (k : Nat × Nat) (flashOk : Bool) (s : State) : Host.Outcome State Fault Refusal :=
  onBoth (opEnd transport host session crc k.1 k.2 flashOk) s

/-- OPDOFY_ABORT (R430): ABORT drops the session and leaves slot A EMPTY. -/
def execOpdofyAbort (transport : Nat) (host : Nat) (session : Nat) (s : State) : Host.Outcome State Fault Refusal :=
  onBoth (opAbort transport host session) s

/-- LEAVE (R431): LEAVE clears LATCH and resets to BOOT if a slot verifies, else NO-SLOT. -/
def execLeaveMsg (transport : Nat) (host : Nat) (session : Nat) (s : State) : Host.Outcome State Fault Refusal :=
  onBoth (opLeave transport host session) s

/-- SESSION_TIMEOUT (R430): 10 s with no message drops the Opdofy session. -/
def execSessionTimeout (s : State) : Host.Outcome State Fault Refusal := onDev opSessionTimeout s

/-- REACTION_WINDOW_END (R441): The 50 µs reaction window closes, and Shadowed FLT fields apply. -/
def execReactionWindowEnd (s : State) : Host.Outcome State Fault Refusal := onDev (onBlock 19 reactionWindowEnd) s

/-- SW_SET (R435): Writing FLT_SW_SET sets integrator event bits behind EV32–EV63. -/
def execSwSet (mask : Nat) (s : State) : Host.Outcome State Fault Refusal := onDev (onReg 19 (swSet mask)) s

/-- SAFE_ACK (R445): Writing 0xC3A5 to FLT_SAFE_ACK ends the faults whose recovery is the acknowledgement. -/
def execSafeAck (v : Nat) (s : State) : Host.Outcome State Fault Refusal := onDev (onReg 19 (safeAck v)) s

/-- SEV_PRESET_WRITE (R446): Writing SEV_PRESET in SERVICE expands the fault severities. -/
def execSevPresetWrite (v : Nat) (s : State) : Host.Outcome State Fault Refusal := onDev (onReg 19 (sevPreset v)) s

/-- DRAM_UNCORRECTABLE_WORD (R434): The DRAM inline SECDED meets an uncorrectable word and raises DRAM-UNCORRECTABLE. -/
def execDramUncorrectableWord (s : State) : Host.Outcome State Fault Refusal := onDev dramUncorrectable s

end Sys2Proof.Machine
end

