-- ==== Sys2Proof/Machine/Meanings.lean ====
section
/-! DEFINITION. Machine/Meanings.lean: the meanings of all commands, gathered. -/
end

