-- ==== Sys2Proof/Machine/Dispatch.lean ====
section
/-! DEFINITION. Machine/Dispatch.lean: one arm for each command. -/

namespace Sys2Proof.Machine

def exec (i : Instr) (s : State) : Host.Outcome State Fault Refusal :=
  match i with
  | .registerWrite mst addr width w x => Sys2Proof.Machine.execRegisterWrite mst addr width w x s
  | .shadowedWriteApply b e => Sys2Proof.Machine.execShadowedWriteApply b e s
  | .pointValueWrite addr width w => Sys2Proof.Machine.execPointValueWrite addr width w s
  | .freshnessExpiry n => Sys2Proof.Machine.execFreshnessExpiry n s
  | .gateWrite c opened => Sys2Proof.Machine.execGateWrite c opened s
  | .modeRequest v => Sys2Proof.Machine.execModeRequest v s
  | .transitionComplete => Sys2Proof.Machine.execTransitionComplete s
  | .stationaryChange => Sys2Proof.Machine.execStationaryChange s
  | .moveInService => Sys2Proof.Machine.execMoveInService s
  | .wakeRise vlog => Sys2Proof.Machine.execWakeRise vlog s
  | .wakeFall => Sys2Proof.Machine.execWakeFall s
  | .powerOn wake vlog => Sys2Proof.Machine.execPowerOn wake vlog s
  | .rtcAlarm vlog => Sys2Proof.Machine.execRtcAlarm vlog s
  | .dormantDaysExpiry => Sys2Proof.Machine.execDormantDaysExpiry s
  | .supplyBandChange input v avg over36 => Sys2Proof.Machine.execSupplyBandChange input v avg over36 s
  | .crankStart => Sys2Proof.Machine.execCrankStart s
  | .crankEnd vlog => Sys2Proof.Machine.execCrankEnd vlog s
  | .brownOut => Sys2Proof.Machine.execBrownOut s
  | .resetRequest kind key => Sys2Proof.Machine.execResetRequest kind key s
  | .fcwdKick v => Sys2Proof.Machine.execFcwdKick v s
  | .fcwdExpiry => Sys2Proof.Machine.execFcwdExpiry s
  | .islandReset => Sys2Proof.Machine.execIslandReset s
  | .shutdownStart => Sys2Proof.Machine.execShutdownStart s
  | .shutdownAck v eph almanac osc => Sys2Proof.Machine.execShutdownAck v eph almanac osc s
  | .afterrunExpiry eph almanac osc => Sys2Proof.Machine.execAfterrunExpiry eph almanac osc s
  | .shutdownPresetWrite v => Sys2Proof.Machine.execShutdownPresetWrite v s
  | .loadCmd x => Sys2Proof.Machine.execLoadCmd x s
  | .loadAndPersist x => Sys2Proof.Machine.execLoadAndPersist x s
  | .staticBuildComplete flashOk => Sys2Proof.Machine.execStaticBuildComplete flashOk s
  | .liveRegionSwap r flashOk => Sys2Proof.Machine.execLiveRegionSwap r flashOk s
  | .liveSwapTimeout r => Sys2Proof.Machine.execLiveSwapTimeout r s
  | .pregWrite mst n w cell1 cell2 => Sys2Proof.Machine.execPregWrite mst n w cell1 cell2 s
  | .mdPresetWrite v => Sys2Proof.Machine.execMdPresetWrite v s
  | .mdFusionTick => Sys2Proof.Machine.execMdFusionTick s
  | .ppsEdgeMeasure source ref => Sys2Proof.Machine.execPpsEdgeMeasure source ref s
  | .mtLockTimeout => Sys2Proof.Machine.execMtLockTimeout s
  | .raPulse back => Sys2Proof.Machine.execRaPulse back s
  | .raPulseTimeout => Sys2Proof.Machine.execRaPulseTimeout s
  | .fileEvent c => Sys2Proof.Machine.execFileEvent c s
  | .eventIssue => Sys2Proof.Machine.execEventIssue s
  | .cancelEvent handle => Sys2Proof.Machine.execCancelEvent handle s
  | .reversalConfirm => Sys2Proof.Machine.execReversalConfirm s
  | .forwardConfirm => Sys2Proof.Machine.execForwardConfirm s
  | .historyEntry => Sys2Proof.Machine.execHistoryEntry s
  | .historyQuery byMd => Sys2Proof.Machine.execHistoryQuery byMd s
  | .snapshotLatch => Sys2Proof.Machine.execSnapshotLatch s
  | .predictionCycle fetched => Sys2Proof.Machine.execPredictionCycle fetched s
  | .flood => Sys2Proof.Machine.execFlood s
  | .panEntryRake => Sys2Proof.Machine.execPanEntryRake s
  | .poseLostTimeout => Sys2Proof.Machine.execPoseLostTimeout s
  | .floodRequest mask => Sys2Proof.Machine.execFloodRequest mask s
  | .masterWrite v => Sys2Proof.Machine.execMasterWrite v s
  | .lahDisable => Sys2Proof.Machine.execLahDisable s
  | .overlapPresetWrite v => Sys2Proof.Machine.execOverlapPresetWrite v s
  | .mapOriginWrite r v => Sys2Proof.Machine.execMapOriginWrite r v s
  | .importGo => Sys2Proof.Machine.execImportGo s
  | .rateFile imp => Sys2Proof.Machine.execRateFile imp s
  | .sluiceArm t => Sys2Proof.Machine.execSluiceArm t s
  | .sluicePrepare t => Sys2Proof.Machine.execSluicePrepare t s
  | .carsilWindow ends => Sys2Proof.Machine.execCarsilWindow ends s
  | .voteMsg bs => Sys2Proof.Machine.execVoteMsg bs s
  | .sluiceDecide t => Sys2Proof.Machine.execSluiceDecide t s
  | .sluiceCommit t => Sys2Proof.Machine.execSluiceCommit t s
  | .outcomeMsg bs => Sys2Proof.Machine.execOutcomeMsg bs s
  | .sluiceCancel t => Sys2Proof.Machine.execSluiceCancel t s
  | .sluiceDisable => Sys2Proof.Machine.execSluiceDisable s
  | .carsilPresetWrite v => Sys2Proof.Machine.execCarsilPresetWrite v s
  | .prepareMsg bs => Sys2Proof.Machine.execPrepareMsg bs s
  | .commitMsg bs => Sys2Proof.Machine.execCommitMsg bs s
  | .abortMsg bs => Sys2Proof.Machine.execAbortMsg bs s
  | .graceExpiry src group inst => Sys2Proof.Machine.execGraceExpiry src group inst s
  | .compMsg bs => Sys2Proof.Machine.execCompMsg bs s
  | .queryMsg bs => Sys2Proof.Machine.execQueryMsg bs s
  | .loopTick => Sys2Proof.Machine.execLoopTick s
  | .loopOverrun slots => Sys2Proof.Machine.execLoopOverrun slots s
  | .feActionFire => Sys2Proof.Machine.execFeActionFire s
  | .ctlTrip mask => Sys2Proof.Machine.execCtlTrip mask s
  | .resume n => Sys2Proof.Machine.execResume n s
  | .slotEnableWrite n on => Sys2Proof.Machine.execSlotEnableWrite n on s
  | .loopEngineDisable => Sys2Proof.Machine.execLoopEngineDisable s
  | .supPresetWrite n v => Sys2Proof.Machine.execSupPresetWrite n v s
  | .fusionInstant => Sys2Proof.Machine.execFusionInstant s
  | .frameBuildComplete busy => Sys2Proof.Machine.execFrameBuildComplete busy s
  | .fusePresetWrite v => Sys2Proof.Machine.execFusePresetWrite v s
  | .frameStart port vc pkt => Sys2Proof.Machine.execFrameStart port vc pkt s
  | .lineMsg port vc dt hdr after crcOk px => Sys2Proof.Machine.execLineMsg port vc dt hdr after crcOk px s
  | .frameEnd port vc hdr => Sys2Proof.Machine.execFrameEnd port vc hdr s
  | .linkDown p => Sys2Proof.Machine.execLinkDown p s
  | .camLinkLost p => Sys2Proof.Machine.execCamLinkLost p s
  | .pocTrip p => Sys2Proof.Machine.execPocTrip p s
  | .pocEnWrite p on => Sys2Proof.Machine.execPocEnWrite p on s
  | .fsyncTrigger p => Sys2Proof.Machine.execFsyncTrigger p s
  | .i2cGo p => Sys2Proof.Machine.execI2cGo p s
  | .i2cDone p ack byte => Sys2Proof.Machine.execI2cDone p ack byte s
  | .dpcPresetWrite c v => Sys2Proof.Machine.execDpcPresetWrite c v s
  | .tonePresetWrite c v => Sys2Proof.Machine.execTonePresetWrite c v s
  | .cameraEnWrite c on => Sys2Proof.Machine.execCameraEnWrite c on s
  | .gnssEpoch sigs sol => Sys2Proof.Machine.execGnssEpoch sigs sol s
  | .ppsQerrPublish second_ qerr edgeMt => Sys2Proof.Machine.execPpsQerrPublish second_ qerr edgeMt s
  | .ppsEdge => Sys2Proof.Machine.execPpsEdge s
  | .antShort n => Sys2Proof.Machine.execAntShort n s
  | .antBiasRetry n persists => Sys2Proof.Machine.execAntBiasRetry n persists s
  | .antOpen n => Sys2Proof.Machine.execAntOpen n s
  | .extGo => Sys2Proof.Machine.execExtGo s
  | .hotStartStoreWrite eph almanac osc => Sys2Proof.Machine.execHotStartStoreWrite eph almanac osc s
  | .gnssPresetWrite v => Sys2Proof.Machine.execGnssPresetWrite v s
  | .switchCommand n on => Sys2Proof.Machine.execSwitchCommand n on s
  | .lswRearm n => Sys2Proof.Machine.execLswRearm n s
  | .slewDone n => Sys2Proof.Machine.execSlewDone n s
  | .wireModelUpdate n meanSq => Sys2Proof.Machine.execWireModelUpdate n meanSq s
  | .instantaneousTrip n => Sys2Proof.Machine.execInstantaneousTrip n s
  | .retryWaitEnd n => Sys2Proof.Machine.execRetryWaitEnd n s
  | .junctionOvertemp n tj => Sys2Proof.Machine.execJunctionOvertemp n tj s
  | .thermalResume n tj => Sys2Proof.Machine.execThermalResume n tj s
  | .clampPulse n energy power => Sys2Proof.Machine.execClampPulse n energy power s
  | .clampCoolEnd n power => Sys2Proof.Machine.execClampCoolEnd n power s
  | .governorPeriod ia ib cur => Sys2Proof.Machine.execGovernorPeriod ia ib cur s
  | .loadShed limit => Sys2Proof.Machine.execLoadShed limit s
  | .governorRestore => Sys2Proof.Machine.execGovernorRestore s
  | .lswDiagnosticPeriod n cur ron tj => Sys2Proof.Machine.execLswDiagnosticPeriod n cur ron tj s
  | .inputUndervolt input => Sys2Proof.Machine.execInputUndervolt input s
  | .undervoltRecover input => Sys2Proof.Machine.execUndervoltRecover input s
  | .deferredSwitchOff n => Sys2Proof.Machine.execDeferredSwitchOff n s
  | .openLoad n on => Sys2Proof.Machine.execOpenLoad n on s
  | .shortToBat n => Sys2Proof.Machine.execShortToBat n s
  | .loadPresetWrite n v => Sys2Proof.Machine.execLoadPresetWrite n v s
  | .startCmd n slot => Sys2Proof.Machine.execStartCmd n slot s
  | .stopCmd n => Sys2Proof.Machine.execStopCmd n s
  | .phaseEnd n k cur peak energy => Sys2Proof.Machine.execPhaseEnd n k cur peak energy s
  | .currentLoopTick n mean x energy => Sys2Proof.Machine.execCurrentLoopTick n mean x energy s
  | .starveTimeout n => Sys2Proof.Machine.execStarveTimeout n s
  | .closingDetectionDone n zeroUs u energy last => Sys2Proof.Machine.execClosingDetectionDone n zeroUs u energy last s
  | .valveOvercurrent n => Sys2Proof.Machine.execValveOvercurrent n s
  | .valveOpen n => Sys2Proof.Machine.execValveOpen n s
  | .valveOvertemp n tj => Sys2Proof.Machine.execValveOvertemp n tj s
  | .boostCharge v => Sys2Proof.Machine.execBoostCharge v s
  | .boostLow v => Sys2Proof.Machine.execBoostLow v s
  | .boostOv v => Sys2Proof.Machine.execBoostOv v s
  | .vdrDisable => Sys2Proof.Machine.execVdrDisable s
  | .valvePresetWrite n v => Sys2Proof.Machine.execValvePresetWrite n v s
  | .downstreamFrame g noise => Sys2Proof.Machine.execDownstreamFrame g noise s
  | .upstreamFrame g cur on vsup noise => Sys2Proof.Machine.execUpstreamFrame g cur on vsup noise s
  | .fioRearm g => Sys2Proof.Machine.execFioRearm g s
  | .ioOutputCommand n on => Sys2Proof.Machine.execIoOutputCommand n on s
  | .ioOutputFault n => Sys2Proof.Machine.execIoOutputFault n s
  | .aiPublish a samples refs => Sys2Proof.Machine.execAiPublish a samples refs s
  | .aiRange a code => Sys2Proof.Machine.execAiRange a code s
  | .aiOvercurrent a => Sys2Proof.Machine.execAiOvercurrent a s
  | .shuntReclose a => Sys2Proof.Machine.execShuntReclose a s
  | .aiSupplyTrip k => Sys2Proof.Machine.execAiSupplyTrip k s
  | .aiSupplyRetry k => Sys2Proof.Machine.execAiSupplyRetry k s
  | .impactPeriod a samples => Sys2Proof.Machine.execImpactPeriod a samples s
  | .fiEdge f level both heldNs => Sys2Proof.Machine.execFiEdge f level both heldNs s
  | .fiPublish f => Sys2Proof.Machine.execFiPublish f s
  | .blowerPeriod gap age ma => Sys2Proof.Machine.execBlowerPeriod gap age ma s
  | .kickTimeout c ma => Sys2Proof.Machine.execKickTimeout c ma s
  | .blockWaitEnd c => Sys2Proof.Machine.execBlockWaitEnd c s
  | .tachTimeout c ma => Sys2Proof.Machine.execTachTimeout c ma s
  | .blowerShort c => Sys2Proof.Machine.execBlowerShort c s
  | .blwWdKick v => Sys2Proof.Machine.execBlwWdKick v s
  | .blowerWatchdogExpiry => Sys2Proof.Machine.execBlowerWatchdogExpiry s
  | .blowerRearm c => Sys2Proof.Machine.execBlowerRearm c s
  | .commission c => Sys2Proof.Machine.execCommission c s
  | .commissionDone c => Sys2Proof.Machine.execCommissionDone c s
  | .ageingCheck c => Sys2Proof.Machine.execAgeingCheck c s
  | .blwPresetWrite c v => Sys2Proof.Machine.execBlwPresetWrite c v s
  | .canFrameRx p id bs => Sys2Proof.Machine.execCanFrameRx p id bs s
  | .canWindow p start busy won => Sys2Proof.Machine.execCanWindow p start busy won s
  | .busOff p => Sys2Proof.Machine.execBusOff p s
  | .busOffRecovery p => Sys2Proof.Machine.execBusOffRecovery p s
  | .referenceMessage p prio bs => Sys2Proof.Machine.execReferenceMessage p prio bs s
  | .backupReferenceSend p => Sys2Proof.Machine.execBackupReferenceSend p s
  | .syncLost p => Sys2Proof.Machine.execSyncLost p s
  | .canPresetWrite p v => Sys2Proof.Machine.execCanPresetWrite p v s
  | .syncMsg p domain ptp => Sys2Proof.Machine.execSyncMsg p domain ptp s
  | .syncSend => Sys2Proof.Machine.execSyncSend s
  | .announceMsg p => Sys2Proof.Machine.execAnnounceMsg p s
  | .udpDatagram p dst frag bad bs => Sys2Proof.Machine.execUdpDatagram p dst frag bad bs s
  | .arpRequest p ip => Sys2Proof.Machine.execArpRequest p ip s
  | .ethLinkDown p => Sys2Proof.Machine.execEthLinkDown p s
  | .addressClaim p contender => Sys2Proof.Machine.execAddressClaim p contender s
  | .transportProtocol p id bs => Sys2Proof.Machine.execTransportProtocol p id bs s
  | .processData g => Sys2Proof.Machine.execProcessData g s
  | .nodeTimeout n => Sys2Proof.Machine.execNodeTimeout n s
  | .statusSend => Sys2Proof.Machine.execStatusSend s
  | .statusMsg bs => Sys2Proof.Machine.execStatusMsg bs s
  | .peerLoss e => Sys2Proof.Machine.execPeerLoss e s
  | .joinWaitEnd => Sys2Proof.Machine.execJoinWaitEnd s
  | .mirrorSend => Sys2Proof.Machine.execMirrorSend s
  | .mirrorMsg bs => Sys2Proof.Machine.execMirrorMsg bs s
  | .safeMsg bs => Sys2Proof.Machine.execSafeMsg bs s
  | .safeMessageRepeat => Sys2Proof.Machine.execSafeMessageRepeat s
  | .wrStart q w => Sys2Proof.Machine.execWrStart q w s
  | .wrCont q w => Sys2Proof.Machine.execWrCont q w s
  | .wrEnd q w => Sys2Proof.Machine.execWrEnd q w s
  | .wrOne q w => Sys2Proof.Machine.execWrOne q w s
  | .queueWordWrite q mk w => Sys2Proof.Machine.execQueueWordWrite q mk w s
  | .tailWaitTimeout q => Sys2Proof.Machine.execTailWaitTimeout q s
  | .brineSpill q n => Sys2Proof.Machine.execBrineSpill q n s
  | .brineRefill q n => Sys2Proof.Machine.execBrineRefill q n s
  | .entryPresentation q err => Sys2Proof.Machine.execEntryPresentation q err s
  | .popEntry q fgen => Sys2Proof.Machine.execPopEntry q fgen s
  | .popItem q fgen => Sys2Proof.Machine.execPopItem q fgen s
  | .dataPathTake q => Sys2Proof.Machine.execDataPathTake q s
  | .flush q => Sys2Proof.Machine.execFlush q s
  | .wmPresetWrite q v => Sys2Proof.Machine.execWmPresetWrite q v s
  | .queueStale q => Sys2Proof.Machine.execQueueStale q s
  | .recordStore => Sys2Proof.Machine.execRecordStore s
  | .operatingSecond => Sys2Proof.Machine.execOperatingSecond s
  | .recCursorWrite no => Sys2Proof.Machine.execRecCursorWrite no s
  | .recWin7Read => Sys2Proof.Machine.execRecWin7Read s
  | .challenge => Sys2Proof.Machine.execChallenge s
  | .clearTide key k => Sys2Proof.Machine.execClearTide key k s
  | .clearAll key k => Sys2Proof.Machine.execClearAll key k s
  | .clearEraseDone => Sys2Proof.Machine.execClearEraseDone s
  | .userRecord code => Sys2Proof.Machine.execUserRecord code s
  | .thermalSample g readings load => Sys2Proof.Machine.execThermalSample g readings load s
  | .thmPresetWrite v => Sys2Proof.Machine.execThmPresetWrite v s
  | .stageCmd avg k => Sys2Proof.Machine.execStageCmd avg k s
  | .stageComplete => Sys2Proof.Machine.execStageComplete s
  | .stageGateCheck avg written => Sys2Proof.Machine.execStageGateCheck avg written s
  | .activateCmd avg => Sys2Proof.Machine.execActivateCmd avg s
  | .activateWithReboot avg => Sys2Proof.Machine.execActivateWithReboot avg s
  | .abandonCmd => Sys2Proof.Machine.execAbandonCmd s
  | .confirmCmd => Sys2Proof.Machine.execConfirmCmd s
  | .updChallenge => Sys2Proof.Machine.execUpdChallenge s
  | .lockCmd key avg k => Sys2Proof.Machine.execLockCmd key avg k s
  | .unlockCmd key avg k => Sys2Proof.Machine.execUnlockCmd key avg k s
  | .trialBootTimeout => Sys2Proof.Machine.execTrialBootTimeout s
  | .helloMsg => Sys2Proof.Machine.execHelloMsg s
  | .openMsg transport host total avg => Sys2Proof.Machine.execOpenMsg transport host total avg s
  | .dataMsg transport host session offset chunk flashOk => Sys2Proof.Machine.execDataMsg transport host session offset chunk flashOk s
  | .endMsg transport host session crc k flashOk => Sys2Proof.Machine.execEndMsg transport host session crc k flashOk s
  | .opdofyAbort transport host session => Sys2Proof.Machine.execOpdofyAbort transport host session s
  | .leaveMsg transport host session => Sys2Proof.Machine.execLeaveMsg transport host session s
  | .sessionTimeout => Sys2Proof.Machine.execSessionTimeout s
  | .reactionWindowEnd => Sys2Proof.Machine.execReactionWindowEnd s
  | .swSet mask => Sys2Proof.Machine.execSwSet mask s
  | .safeAck v => Sys2Proof.Machine.execSafeAck v s
  | .sevPresetWrite v => Sys2Proof.Machine.execSevPresetWrite v s
  | .cameraLinkUp p => Sys2Proof.Machine.execCameraLinkUp p s
  | .ethLinkUp p => Sys2Proof.Machine.execEthLinkUp p s
  | .pdFaultChange p on => Sys2Proof.Machine.execPdFaultChange p on s
  | .lockstepPairMismatch => Sys2Proof.Machine.execLockstepPairMismatch s
  | .dramUncorrectableWord => Sys2Proof.Machine.execDramUncorrectableWord s
  | .extSolutionTimeout => Sys2Proof.Machine.execExtSolutionTimeout s
  | .antOpenClear n => Sys2Proof.Machine.execAntOpenClear n s
  | .shortToBatClear n => Sys2Proof.Machine.execShortToBatClear n s
  | .boostOvEnd v => Sys2Proof.Machine.execBoostOvEnd v s
  | .ppsHoldoverEdge => Sys2Proof.Machine.execPpsHoldoverEdge s
  | .pdelayReq p => Sys2Proof.Machine.execPdelayReq p s

end Sys2Proof.Machine
end

