-- ==== Sys2Proof/WellFormed.lean ====
section
/-! DEFINITION. WellFormed.lean: the commands whose operands lie in the ranges the spec gives them: a channel that exists, a value that
fits its field, bytes that are bytes. -/

namespace Sys2Proof

open Machine

/-- Bytes. -/
def bytesOk (l : List Nat) : Bool := l.all fun b => decide (b < 256)

/-- A channel of R21. -/
def chanOk (c : Chan) : Bool :=
  match c with
  | .ls n => decide (n < 64) | .vd n => decide (n < 32) | .io n => decide (n < 64) | .bl n => decide (n < 4) | .fc n => decide (n < 16)

/-- A CAN identifier: 11 bits, or 29 bits under bit 31 (R349). -/
def canIdOk (id : Nat) : Bool := decide (id < 2048) || (decide (2147483648 ≤ id) && decide (id < 2684354560))

/-- A word of the configuration bus, or of DRAM, of a width the access has (R4, R38). -/
def widthOk (width w : Nat) : Bool := decide (width = 8 ∨ width = 16 ∨ width = 32 ∨ width = 64) && decide (w < 2 ^ width)

/-- The operands of a command are in range. -/
def Instr.wf (i : Instr) : Bool :=
  match i with
  | .registerWrite _ _ width w _ => widthOk width w
  | .shadowedWriteApply b _ => decide (b < 21)
  | .pointValueWrite _ width w => widthOk width w
  | .freshnessExpiry n => decide (n < 131072)
  | .gateWrite c _ => chanOk c
  | .modeRequest v => decide (v < 16)
  | .transitionComplete => true
  | .stationaryChange => true
  | .moveInService => true
  | .wakeRise _ => true
  | .wakeFall => true
  | .powerOn _ _ => true
  | .rtcAlarm _ => true
  | .dormantDaysExpiry => true
  | .supplyBandChange input _ _ _ => decide (input < 3)
  | .crankStart => true
  | .crankEnd _ => true
  | .brownOut => true
  | .resetRequest kind key => decide (kind < 16) && decide (key < 65536)
  | .fcwdKick v => decide (v < 256)
  | .fcwdExpiry => true
  | .islandReset => true
  | .shutdownStart => true
  | .shutdownAck v _ _ _ => decide (v < 2)
  | .afterrunExpiry _ _ _ => true
  | .shutdownPresetWrite v => decide (v < 4)
  | .loadCmd _ => true
  | .loadAndPersist _ => true
  | .staticBuildComplete _ => true
  | .liveRegionSwap r _ => decide (r < 16)
  | .liveSwapTimeout r => decide (r < 16)
  | .pregWrite _ n w _ _ => decide (n < 4096) && decide (w < 4294967296)
  | .mdPresetWrite v => decide (v < 4)
  | .mdFusionTick => true
  | .ppsEdgeMeasure source _ => decide (source < 3)
  | .mtLockTimeout => true
  | .raPulse _ => true
  | .raPulseTimeout => true
  | .fileEvent c => decide (c < 32)
  | .eventIssue => true
  | .cancelEvent handle => decide (handle < 65536)
  | .reversalConfirm => true
  | .forwardConfirm => true
  | .historyEntry => true
  | .historyQuery _ => true
  | .snapshotLatch => true
  | .predictionCycle _ => true
  | .flood => true
  | .panEntryRake => true
  | .poseLostTimeout => true
  | .floodRequest mask => decide (mask < 256)
  | .masterWrite v => decide (v < 256)
  | .lahDisable => true
  | .overlapPresetWrite v => decide (v < 4)
  | .mapOriginWrite _ v => decide (v < 4294967296)
  | .importGo => true
  | .rateFile imp => decide (imp < 8)
  | .sluiceArm t => decide (t < 256)
  | .sluicePrepare t => decide (t < 256)
  | .carsilWindow _ => true
  | .voteMsg bs => bytesOk bs
  | .sluiceDecide t => decide (t < 256)
  | .sluiceCommit t => decide (t < 256)
  | .outcomeMsg bs => bytesOk bs
  | .sluiceCancel t => decide (t < 256)
  | .sluiceDisable => true
  | .carsilPresetWrite v => decide (v < 4)
  | .prepareMsg bs => bytesOk bs
  | .commitMsg bs => bytesOk bs
  | .abortMsg bs => bytesOk bs
  | .graceExpiry src group _ => decide (src < 256) && decide (group < 256)
  | .compMsg bs => bytesOk bs
  | .queryMsg bs => bytesOk bs
  | .loopTick => true
  | .loopOverrun _ => true
  | .feActionFire => true
  | .ctlTrip mask => decide (mask < 32768)
  | .resume n => decide (n < 256)
  | .slotEnableWrite n _ => decide (n < 256)
  | .loopEngineDisable => true
  | .supPresetWrite n v => decide (n < 256) && decide (v < 4)
  | .fusionInstant => true
  | .frameBuildComplete _ => true
  | .fusePresetWrite v => decide (v < 4)
  | .frameStart port vc pkt => decide (port < 2) && decide (vc < 16) && decide (pkt.hdr < 3)
  | .lineMsg port vc dt hdr _ _ _ => decide (port < 2) && decide (vc < 16) && decide (2 ≤ dt ∧ dt < 64) && decide (hdr < 3)
  | .frameEnd port vc hdr => decide (port < 2) && decide (vc < 16) && decide (hdr < 3)
  | .linkDown p => decide (p < 2)
  | .camLinkLost p => decide (p < 2)
  | .pocTrip p => decide (p < 2)
  | .pocEnWrite p _ => decide (p < 2)
  | .fsyncTrigger p => decide (p < 2)
  | .i2cGo p => decide (p < 2)
  | .i2cDone p _ byte => decide (p < 2) && decide (byte < 256)
  | .dpcPresetWrite c v => decide (c < 8) && decide (v < 4)
  | .tonePresetWrite c v => decide (c < 8) && decide (v < 4)
  | .cameraEnWrite c _ => decide (c.getD 0 < 8)
  | .gnssEpoch _ _ => true
  | .ppsQerrPublish _ q _ => decide (-2000 ≤ q ∧ q ≤ 2000)
  | .ppsEdge => true
  | .antShort n => decide (n < 2)
  | .antBiasRetry n _ => decide (n < 2)
  | .antOpen n => decide (n < 2)
  | .extGo => true
  | .hotStartStoreWrite _ _ _ => true
  | .gnssPresetWrite v => decide (v < 4)
  | .switchCommand n _ => decide (n < 64)
  | .lswRearm n => decide (n < 64)
  | .slewDone n => decide (n < 64)
  | .wireModelUpdate n _ => decide (n < 64)
  | .instantaneousTrip n => decide (n < 64)
  | .retryWaitEnd n => decide (n < 64)
  | .junctionOvertemp n _ => decide (n < 64)
  | .thermalResume n _ => decide (n < 64)
  | .clampPulse n _ _ => decide (n < 64)
  | .clampCoolEnd n _ => decide (n < 64)
  | .governorPeriod _ _ _ => true
  | .loadShed limit => decide (limit < 3)
  | .governorRestore => true
  | .lswDiagnosticPeriod n _ _ _ => decide (n < 64)
  | .inputUndervolt input => decide (input < 2)
  | .undervoltRecover input => decide (input < 2)
  | .deferredSwitchOff n => decide (n < 64)
  | .openLoad n _ => decide (n < 64)
  | .shortToBat n => decide (n < 64)
  | .loadPresetWrite n v => decide (n < 64) && decide (v < 4)
  | .startCmd n slot => decide (n < 32) && decide (slot < 32)
  | .stopCmd n => decide (n < 32)
  | .phaseEnd n _ _ _ _ => decide (n < 32)
  | .currentLoopTick n _ _ _ => decide (n < 32)
  | .starveTimeout n => decide (n < 32)
  | .closingDetectionDone n _ _ _ _ => decide (n < 32)
  | .valveOvercurrent n => decide (n < 32)
  | .valveOpen n => decide (n < 32)
  | .valveOvertemp n _ => decide (n < 32)
  | .boostCharge _ => true
  | .boostLow _ => true
  | .boostOv _ => true
  | .vdrDisable => true
  | .valvePresetWrite n v => decide (n < 32) && decide (v < 4)
  | .downstreamFrame g _ => decide (g < 8)
  | .upstreamFrame g _ _ _ _ => decide (g < 8)
  | .fioRearm g => decide (g < 8)
  | .ioOutputCommand n _ => decide (n < 64)
  | .ioOutputFault n => decide (n < 64)
  | .aiPublish a _ _ => decide (a < 32)
  | .aiRange a _ => decide (a < 32)
  | .aiOvercurrent a => decide (a < 32)
  | .shuntReclose a => decide (a < 32)
  | .aiSupplyTrip k => decide (k < 2)
  | .aiSupplyRetry k => decide (k < 2)
  | .impactPeriod a _ => decide (a < 32)
  | .fiEdge f _ _ _ => decide (f < 16)
  | .fiPublish f => decide (f < 16)
  | .blowerPeriod _ _ _ => true
  | .kickTimeout c _ => decide (c < 4)
  | .blockWaitEnd c => decide (c < 4)
  | .tachTimeout c _ => decide (c < 4)
  | .blowerShort c => decide (c < 4)
  | .blwWdKick v => decide (v < 256)
  | .blowerWatchdogExpiry => true
  | .blowerRearm c => decide (c < 4)
  | .commission c => decide (c < 4)
  | .commissionDone c => decide (c < 4)
  | .ageingCheck c => decide (c < 4)
  | .blwPresetWrite c v => decide (c < 4) && decide (v < 4)
  | .canFrameRx p id bs => decide (p < 8) && canIdOk id && bytesOk (bs.getD [])
  | .canWindow p _ _ _ => decide (p < 8)
  | .busOff p => decide (p < 8)
  | .busOffRecovery p => decide (p < 8)
  | .referenceMessage p prio bs => decide (p < 8) && decide (prio < 8) && bytesOk bs
  | .backupReferenceSend p => decide (p < 8)
  | .syncLost p => decide (p < 8)
  | .canPresetWrite p v => decide (p < 8) && decide (v < 4)
  | .syncMsg p _ _ => decide (p < 6)
  | .syncSend => true
  | .announceMsg p => decide (p < 6)
  | .udpDatagram p dst _ _ bs => decide (p < 7) && decide (dst < 65536) && bytesOk bs
  | .arpRequest p ip => decide (p < 7) && decide (ip < 4294967296)
  | .ethLinkDown p => decide (p < 7)
  | .addressClaim p _ => decide (p < 8)
  | .transportProtocol p id bs => decide (p < 8) && canIdOk id && bytesOk bs
  | .processData g => decide (g < 128)
  | .nodeTimeout n => decide (n < 2048)
  | .statusSend => true
  | .statusMsg bs => bytesOk bs
  | .peerLoss e => decide (e < 16)
  | .joinWaitEnd => true
  | .mirrorSend => true
  | .mirrorMsg bs => bytesOk bs
  | .safeMsg bs => bytesOk bs
  | .safeMessageRepeat => true
  | .wrStart q w => decide (q < 64) && decide (w < 4294967296)
  | .wrCont q w => decide (q < 64) && decide (w < 4294967296)
  | .wrEnd q w => decide (q < 64) && decide (w < 4294967296)
  | .wrOne q w => decide (q < 64) && decide (w < 4294967296)
  | .queueWordWrite q _ w => decide (q < 64) && decide (w < 4294967296)
  | .tailWaitTimeout q => decide (q < 64)
  | .brineSpill q n => decide (q < 64) && decide (n < 9)
  | .brineRefill q n => decide (q < 64) && decide (n < 9)
  | .entryPresentation q _ => decide (q < 64)
  | .popEntry q fgen => decide (q < 64) && decide (fgen < 8)
  | .popItem q fgen => decide (q < 64) && decide (fgen < 8)
  | .dataPathTake q => decide (q < 64)
  | .flush q => decide (q < 64)
  | .wmPresetWrite q v => decide (q < 64) && decide (v < 4)
  | .queueStale q => decide (q < 64)
  | .recordStore => true
  | .operatingSecond => true
  | .recCursorWrite no => decide (no < 4294967296)
  | .recWin7Read => true
  | .challenge => true
  | .clearTide key _ => decide (key < 16)
  | .clearAll key _ => decide (key < 16)
  | .clearEraseDone => true
  | .userRecord code => decide (code < 65536)
  | .thermalSample g _ _ => decide (g < 4)
  | .thmPresetWrite v => decide (v < 4)
  | .stageCmd _ _ => true
  | .stageComplete => true
  | .stageGateCheck _ _ => true
  | .activateCmd _ => true
  | .activateWithReboot _ => true
  | .abandonCmd => true
  | .confirmCmd => true
  | .updChallenge => true
  | .lockCmd key _ _ => decide (key < 16)
  | .unlockCmd key _ _ => decide (key < 16)
  | .trialBootTimeout => true
  | .helloMsg => true
  | .openMsg transport _ _ _ => decide (transport < 2)
  | .dataMsg transport _ _ _ chunk _ => decide (transport < 2) && bytesOk chunk
  | .endMsg transport _ _ _ _ _ => decide (transport < 2)
  | .opdofyAbort transport _ _ => decide (transport < 2)
  | .leaveMsg transport _ _ => decide (transport < 2)
  | .sessionTimeout => true
  | .reactionWindowEnd => true
  | .swSet mask => decide (mask < 4294967296)
  | .safeAck v => decide (v < 65536)
  | .sevPresetWrite v => decide (v < 4)
  | .cameraLinkUp p => decide (p < 2)
  | .ethLinkUp p => decide (p < 7)
  | .pdFaultChange p _ => decide (p < 10)
  | .lockstepPairMismatch => true
  | .dramUncorrectableWord => true
  | .extSolutionTimeout => true
  | .antOpenClear n => decide (n < 2)
  | .shortToBatClear n => decide (n < 64)
  | .boostOvEnd _ => true
  | .ppsHoldoverEdge => true
  | .pdelayReq p => decide (p < 6)

end Sys2Proof
end

