-- ==== Sys2Proof/Safety.lean ====
section
/-! DEFINITION. Safety.lean: what a safe run is, and what a frame is, in the terms the statements use. -/

namespace Sys2Proof.Machine

/-- DRAM is in its canonical form. -/
def State.dramOk (s : State) : Prop := s.dram.wf = true

/-- Nothing is left to the fault manager between commands. -/
def State.quiet (s : State) : Prop := s.dev.raised = []

/-- A step that ends neither in a fault nor in a refusal. -/
def stepsOn (s : State) : Prop := ∃ t, step s = .next t

/-- Every register field outside the named keys reads as before: its entry is the same. -/
def onlyKeys (ks : List Nat) (b d : Dev) : Prop := ∀ k, k ∉ ks → tget? k d.regs = tget? k b.regs

/-- Every register field outside the window of the blocks named (Table 1.10) reads as before. -/
def onlyBlocks (bs : List Nat) (b d : Dev) : Prop := ∀ k, keyBlock k ∉ bs → tget? k d.regs = tget? k b.regs

/-- Every byte of DRAM outside `n` bytes from an address reads as before. -/
def onlyBytes (a n : Nat) (m m' : Memory) : Prop := ∀ x, (x < a ∨ a + n ≤ x) → memRead m' x = memRead m x

/-- The block is fed and no static build keeps it disabled: its registers take writes and its happenings have effect (R37, R471). -/
def Dev.live (d : Dev) (b : Nat) : Prop := d.powered b = true ∧ d.shutBlocks.contains b = false

/-- Fields that a limit of R89 bears on, or whose write brings a sum up to date. -/
def limitedFields : List Fld :=
  [CTL.S_OUT_MAX, CTL.G_BOUND, FUS.EGO_ROW0, ISP.C_TAP_POINT, ISP.C_T_EVEN, ISP.C_T_ODD, GNS.CONST_EN, GNS.BAND_EN,
   VDR.CH_CLOSE_WIN_HI_US, VDR.BOOST_SET, BLW.CH_TEMP_HI, QUE.Q_HIGH_WM, QUE.Q_LOW_WM, FLT.F_SEV, LAH.ON_UNCOV_PCT, LAH.OFF_COV_PCT]

/-- A field whose write does nothing beyond what its access code says: no command stands behind it, it is no preset selector, no
part of another field's command, and no limit of R89 bears on it. -/
def plainField (f : Fld) : Bool :=
  (hookOf selectorHooks f).isNone && (hookOf hooks f).isNone && (memHookOf f).isNone && !partFields.any (fun g => g.is f)
    && !limitedFields.any (fun g => f.is g) && !(decide (0x400B2000 ≤ f.base) && decide (f.base < 0x400B3000))

/-- An address of the configuration bus whose register takes writes by the access codes of its fields alone: aligned, no
P-register, no port of the queue fabric, no register of the coverage map, every field plain, no two fields in one place. -/
def plainRegister (addr : Nat) : Prop :=
  0x40000000 ≤ addr ∧ addr < 0x40150000 ∧ addr % 4 = 0
    ∧ ¬ ((addr - 0x40000000) / 0x10000 = 2 ∧ addr % 0x10000 < 0x4000)
    ∧ ¬ ((addr - 0x40000000) / 0x10000 = 16 ∧ 0x1000 ≤ addr % 0x10000 ∧ addr % 0x10000 < 0x2000)
    ∧ isMapReg addr = false
    ∧ (∀ p ∈ fieldsAt addr, plainField p.1 = true)
    ∧ ((fieldsAt addr).map fun p => p.1.key p.2.1 p.2.2).Nodup

end Sys2Proof.Machine
end

