-- ==== Sys2Proof/Certificates/Slice0/Obligations.lean ====
section
/-! DEFINITION. Certificates/Slice0/Obligations.lean: the statements for the provers. In each of them `s.dev.begin` is the device
as every command finds it, and `Dev.finish` is what every command ends with; `BeginKeepsRegisters` and `FinishCalm` say what those
two do of themselves. -/

open Sys2Proof Sys2Proof.Machine

/-! The queue, time, reset. -/

/-- A step takes the command at the front of the queue and runs it with the queue's rest. Every command ends in a next state that
leaves the queue alone, but a supply voltage outside the ratings, for which the spec describes no behaviour (R461). -/
def Obligations.StepRunsTheFrontCommand : Prop :=
  (∀ (c : Instr) (rest : List Instr) (s : State), s.pending = c :: rest → step s = exec c { s with pending := rest })
  ∧ (∀ (c : Instr) (s : State), (∀ input v avg long, c = .supplyBandChange input v avg long → outsideRatings v long = false) →
      ∃ t : State, exec c s = .next t ∧ t.pending = s.pending)
  ∧ (∀ (input avg : Nat) (v : Int) (long : Bool) (s : State), outsideRatings v long = true →
      exec (.supplyBandChange input v avg long) s = .fault .outsideRatings)

/-- On an empty queue one data-path clock cycle of 4 ns passes and no register changes before the command's end; while the timebase
runs without a rate correction MT advances by 4 ns. That a step on an empty queue is one cycle is the model's choice (assumption 35);
the cycle is R22's. -/
def Obligations.EmptyQueuePassesOneCycle : Prop :=
  ∀ s : State, s.pending = [] → ∃ d : Dev, step s = .next { s with dev := d.finish }
    ∧ d.now = s.dev.begin.now + 4 ∧ d.regs = s.dev.begin.regs
    ∧ (s.dev.begin.running = true → s.dev.begin.slew = 0 → 0 ≤ s.dev.begin.tmb.mtFrac → s.dev.begin.tmb.mtFrac < 1000000000 → d.tmb.mt = s.dev.begin.tmb.mt + 4)

/-- What a command finds: with no reaction window whose 50 µs are over, no recovery that time has brought, no record waiting to be stored, no
clear being erased and no image being checked, only the two clocks SYS_RTC and REC_OPS are brought up to date, and nothing is left over from the
last command. -/
def Obligations.BeginKeepsRegisters : Prop :=
  ∀ d : Dev, d.flt.window = none → (∀ p ∈ d.flt.due, d.now < p.1) → d.recd.backlog = [] → d.flag REC.CLR_BUSY = false → d.cfg.checking = none →
    onlyKeys [SYS.RTC_S.key 0 0, REC.REC_OPS.key 0 0] d d.begin ∧ d.begin.raised = [] ∧ d.begin.out = [] ∧ d.begin.now = d.now
      ∧ d.begin.points = d.points ∧ d.begin.built = d.built ∧ d.begin.wait = d.wait

/-- What every command ends with, where it has left nothing to the fault manager, no Shadowed write waits, no class L queue has a void entry in
front and the network blocks' domain is off: the update gate and the CFG sums are shown, and no other register changes. -/
def Obligations.FinishCalm : Prop :=
  ∀ d : Dev, d.raised = [] → d.wait = [] → d.powered 14 = false → d.powered 15 = false →
    (∀ q ∈ [60, 61, 62, 63], ∀ e ∈ (d.queue q).head.head?, e.void = false) →
    onlyKeys [UPD.GATE_OPEN.key 0 0, CFG.SHADOW.key 0 0, CFG.LOCKED.key 0 0] d d.finish
      ∧ d.finish.raised = [] ∧ d.finish.out = d.out ∧ d.finish.points = d.points ∧ d.finish.now = d.now

/-- The state after reset: every register field at the reset value its register map gives, in BOOT, with PD0, PD1 and PD2 on, no command
waiting, nothing in DRAM, no point, no structure. Where the map gives no value the reset value is the model's (assumption 1). -/
def Obligations.ResetHoldsResetValues : Prop :=
  (∀ (f : Fld) (i j : Nat), State.reset.dev.rd f i j = f.resetAt i j) ∧ State.reset.dev.mode = 2 ∧ State.reset.pending = []
    ∧ State.reset.dram = [] ∧ State.reset.dev.points = [] ∧ State.reset.dev.built = [] ∧ State.reset.dev.now = 0

/-! DRAM. -/

/-- DRAM is in canonical form at reset. -/
def Obligations.ResetDramCanonical : Prop := State.reset.dramOk

/-- Every step keeps DRAM in canonical form, from every state in which it is so: addresses rise strictly and no byte is listed that reads
as an unlisted one. -/
def Obligations.StepKeepsDramCanonical : Prop := ∀ s t : State, s.dramOk → step s = .next t → t.dramOk

/-! The configuration bus. -/

/-- R37, with R4's width and alignment: an access from 0x4015_0000 to 0x4FFF_FFFF and an access to a block whose domain is off receive a
bus error and change nothing; a reserved address inside a window of a powered block reads as 0 and takes a write without effect (R5). -/
def Obligations.BusErrorAccesses : Prop :=
  ∀ (mst : Master) (addr width w : Nat) (x : Aux) (s : State), let b := s.dev.begin
    ((0x40000000 ≤ addr ∧ addr < 0x40150000 ∧ (width ≠ 32 ∨ addr % 4 ≠ 0))
      ∨ (0x40150000 ≤ addr ∧ addr < 0x50000000)
      ∨ (0x40000000 ≤ addr ∧ addr < 0x40150000 ∧ b.powered ((addr - 0x40000000) / 0x10000) = false) →
      exec (.registerWrite mst addr width w x) s = .next { s with dev := (b.emit (.busResponse 1)).finish })
    ∧ ((0x40150000 ≤ addr ∧ addr < 0x50000000)
      ∨ (0x40000000 ≤ addr ∧ addr < 0x40150000 ∧ b.powered ((addr - 0x40000000) / 0x10000) = false) → b.busRead addr width = none)
    ∧ (0x40000000 ≤ addr → addr < 0x40150000 → width ≠ 32 ∨ addr % 4 ≠ 0 → b.busRead addr width = none)
    ∧ (0x40000000 ≤ addr → addr < 0x40150000 → addr % 4 = 0 → b.live ((addr - 0x40000000) / 0x10000) → fieldsAt addr = [] →
        ¬ ((addr - 0x40000000) / 0x10000 = 2 ∧ addr % 0x10000 < 0x4000) → ¬ ((addr - 0x40000000) / 0x10000 = 16 ∧ 0x1000 ≤ addr % 0x10000 ∧ addr % 0x10000 < 0x2000) →
      exec (.registerWrite mst addr 32 w x) s = .next { s with dev := (b.emit (.busResponse 0)).finish } ∧ b.busRead addr 32 = some 0)

/-- R18: a master outside the writer set of one field of the register that is not read-only changes nothing; a bus error is answered and one
access violation is left to the fault manager. -/
def Obligations.WriterSetRefuses : Prop :=
  ∀ (mst : Master) (addr w : Nat) (x : Aux) (s : State) (p : Fld × Nat × Nat),
    0x40000000 ≤ addr → addr < 0x40150000 → addr % 4 = 0 → s.dev.begin.powered ((addr - 0x40000000) / 0x10000) = true →
    ¬ ((addr - 0x40000000) / 0x10000 = 2 ∧ addr % 0x10000 < 0x4000) →
    p ∈ fieldsAt addr → p.1.acc ≠ .ro → p.1.wset.admits mst = false →
    ∃ d : Dev, exec (.registerWrite mst addr 32 w x) s = .next { s with dev := d.finish }
      ∧ d = { s.dev.begin with raised := s.dev.begin.raised ++ [.fault Flt.FLT_ACCESS 0], out := s.dev.begin.out ++ [.busResponse 1] }

/-- R7 and R87 for every register whose fields have no command behind them: each field takes its part of the word by its access code. -/
def Obligations.RegisterWriteByAccessCode : Prop :=
  ∀ (mst : Master) (addr w : Nat) (x : Aux) (s : State), let b := s.dev.begin
    plainRegister addr → addr % 0x10000 ≠ 4 → b.live ((addr - 0x40000000) / 0x10000) → busAdmits (fieldsAt addr) mst = true →
    ∃ d : Dev, exec (.registerWrite mst addr 32 w x) s = .next { s with dev := d.finish }
      ∧ onlyKeys ((lockedFld ((addr - 0x40000000) / 0x10000)).key 0 0 :: (fieldsAt addr).map (fun p => p.1.key p.2.1 p.2.2)) b d
      ∧ d.out = b.out ++ [.busResponse 0]
      ∧ ∀ p ∈ fieldsAt addr, if b.queueUnbuilt p.1 p.2.1 then d.lastWritten p.1 p.2.1 p.2.2 = b.lastWritten p.1 p.2.1 p.2.2 else
        match p.1.acc with
        | .ro | .wo => d.rd p.1 p.2.1 p.2.2 = b.rd p.1 p.2.1 p.2.2
        | .rw | .pw => d.rd p.1 p.2.1 p.2.2 = fieldPart (w % 2 ^ 32) p.1
        | .w1c => d.rd p.1 p.2.1 p.2.2 = (b.rd p.1 p.2.1 p.2.2 - Nat.land (b.rd p.1 p.2.1 p.2.2) (fieldPart (w % 2 ^ 32) p.1)) % 2 ^ p.1.w
        | .rws => d.lastWritten p.1 p.2.1 p.2.2 = fieldPart (w % 2 ^ 32) p.1
        | .rwl => if b.enabled ((addr - 0x40000000) / 0x10000) (elemOf ((addr - 0x40000000) / 0x10000) addr) then
              d.rd p.1 p.2.1 p.2.2 = b.rd p.1 p.2.1 p.2.2 ∧ d.rd (lockedFld ((addr - 0x40000000) / 0x10000)) = 1
            else d.rd p.1 p.2.1 p.2.2 = fieldPart (w % 2 ^ 32) p.1

/-- A Shadowed write waits until the block's safe boundary and takes effect at once where the boundary stands (R87). -/
def Obligations.ShadowedWriteWaits : Prop :=
  ∀ (d : Dev) (f : Fld) (v i j : Nat), (d.shadow f v i j).lastWritten f i j = v % 2 ^ f.w
    ∧ onlyKeys [f.key i j] d (d.shadow f v i j)
    ∧ if d.boundaryNow (keyBlock (f.key i j)) (elemOf (keyBlock (f.key i j)) (f.addr i j)) then (d.shadow f v i j).rd f i j = v % 2 ^ f.w
      else (d.shadow f v i j).rd f i j = d.rd f i j ∧ tget? (f.key i j) (d.shadow f v i j).wait = some (v % 2 ^ f.w)

/-- SHADOWED_WRITE_APPLY: at the safe boundary of an element the writes that wait for it take effect together, and none of them waits
any more; writes that wait elsewhere keep waiting (R87). -/
def Obligations.BoundaryAppliesWaiting : Prop :=
  ∀ (n e : Nat) (s : State), let b := s.dev.begin
    b.live n → ∃ d : Dev, exec (.shadowedWriteApply n e) s = .next { s with dev := d.finish }
      ∧ d.wait = b.wait.filter (fun p => !decide (keyBlock p.1 = n ∧ elemOf n (p.1 / 32) = e))
      ∧ (∀ k, (∀ p ∈ b.wait, keyBlock p.1 = n → elemOf n (p.1 / 32) = e → ∀ q, fieldOfKey p.1 = some q → k ≠ q.1.key q.2.1 q.2.2) →
          tget? k d.regs = tget? k b.regs)
      ∧ d.points = b.points ∧ d.out = b.out

/-- R30: the one write the window permits, every other write, and what a read of a point that is not built returns. -/
def Obligations.ProcessImageWindow : Prop :=
  ∀ (n v : Nat) (s : State), let b := s.dev.begin
    n < 131072 →
    (∀ ty us, b.running = true → b.pointRow n = some (ty, .cores, us) →
      ∃ d : Dev, exec (.pointValueWrite (0x50000000 + 16 * n) 32 v) s = .next { s with dev := d.finish }
        ∧ (d.point n).value = layoutValue ty v ∧ (d.point n).status = 1 ∧ (d.point n).seq = ((b.point n).seq + 1) % 65536
        ∧ (d.point n).stamp = b.tmb.mt ∧ (∀ m, m ≠ n → d.point m = b.point m) ∧ d.regs = b.regs ∧ d.out = b.out ++ [.busResponse 0])
    ∧ (∀ addr width, (width ≠ 32 ∨ addr % 16 ≠ 0) →
      exec (.pointValueWrite addr width v) s = .next { s with dev := (b.emit (.busResponse 1)).finish })
    ∧ ((∀ ty us, b.pointRow n ≠ some (ty, .cores, us)) → ∀ width,
      exec (.pointValueWrite (0x50000000 + 16 * n) width v) s = .next { s with dev := (b.emit (.busResponse 1)).finish })
    ∧ (b.pointRow n = none → ∀ o, o < 16 → (o % 4 = 0 → b.pointRead (0x50000000 + 16 * n + o) 32 = some 0)
      ∧ (o % 8 = 0 → b.pointRead (0x50000000 + 16 * n + o) 64 = some 0))
    ∧ (b.pointRow n ≠ none → let p := b.point n
      p.value < 2 ^ 32 → p.status < 2 ^ 16 → p.seq < 2 ^ 16 → p.stamp < 2 ^ 64 →
      b.pointRead (0x50000000 + 16 * n) 64 = some (p.value + p.status * 2 ^ 32 + p.seq * 2 ^ 48) ∧ b.pointRead (0x50000000 + 16 * n) 32 = some p.value
      ∧ b.pointRead (0x50000000 + 16 * n + 8) 64 = some p.stamp)
    ∧ layoutValue .q15 v = (if v % 65536 < 32768 then v % 65536 else v % 65536 + 0xFFFF0000) ∧ layoutValue .u16 v = v % 65536
    ∧ layoutValue .bool v = v % 2 ∧ layoutValue .s32 v = v % 2 ^ 32

/-- R29: a built point that is not updated within its limit becomes STALE and keeps everything else. -/
def Obligations.FreshnessExpirySetsStale : Prop :=
  ∀ (n : Nat) (row : PtType × Producer × Nat) (s : State), let b := s.dev.begin
    b.pointRow n = some row → ∃ d : Dev, exec (.freshnessExpiry n) s = .next { s with dev := d.finish }
      ∧ (d.point n).status / 2 % 2 = 1 ∧ (d.point n).value = (b.point n).value ∧ (d.point n).seq = (b.point n).seq
      ∧ (d.point n).stamp = (b.point n).stamp ∧ (d.point n).status % 2 = (b.point n).status % 2
      ∧ (d.point n).status / 4 = (b.point n).status / 4
      ∧ (∀ m, m ≠ n → d.point m = b.point m) ∧ d.regs = b.regs ∧ (b.point n).since + 1000 * row.2.2 ≤ d.now

/-! Modes, power, supply (chapter 2). -/

/-- R43 and R44: the answer to every mode request. `Dev.transition` is Table 2.2's row for a request (stated in the second part), the gates of a granted
request then go to the new mode's state, and a request for SAFE is handled as SAFE entry. -/
def Obligations.ModeRequestAnswers : Prop :=
  (∀ (v : Nat) (s : State), let b := s.dev.begin
    v < 16 → b.powered 0 = true → ∃ d : Dev, exec (.modeRequest v) s = .next { s with dev := d.busOk.finish } ∧
      let answered (r c : Nat) : Prop := d.rd SYS.REQ_RESULT = r ∧ d.rd SYS.REFUSE_CAUSE = c
        ∧ onlyKeys [SYS.REQ_RESULT.key 0 0, SYS.REFUSE_CAUSE.key 0 0] b d ∧ d.out = b.out
      if v = 7 then
        if b.mode = 7 then answered 1 0
        else if b.safeNow then d = (b.safeEntry 1 0).answer 1 0
        else if b.mode = 2 then answered 2 0 ∧ d.flt.safeWaits = some (b.flt.safeWaits.getD 1)
        else answered 5 0
      else if b.follows then answered 6 0
      else if b.flag SYS.TRANS_BUSY then answered 4 0
      else if v = b.mode then answered 1 0
      else match b.transition v with
        | none => answered 5 0
        | some (some c) => answered 3 (c % 16)
        | some none => ∃ e : Dev, d = e.refreshGates ∧ e.sys.target = some v ∧ e.rd SYS.TRANS_BUSY = 1 ∧ e.rd SYS.REQ_RESULT = 1
            ∧ e.mode = b.mode ∧ onlyKeys [SYS.TRANS_BUSY.key 0 0, SYS.REQ_RESULT.key 0 0, SYS.REFUSE_CAUSE.key 0 0] b e)
  ∧ (∀ (d : Dev) (v : Nat), d.transition v ≠ none ↔
      (d.mode = 4 ∧ v = 5) ∨ ((d.mode = 4 ∨ d.mode = 5) ∧ v = 6) ∨ ((d.mode = 5 ∨ d.mode = 6) ∧ v = 4) ∨ (d.mode = 6 ∧ v = 5)
        ∨ (d.mode = 7 ∧ (v = 4 ∨ v = 5)))
  ∧ (∀ d : Dev, d.mode = 4 → d.transition 5 = some (if d.cfg.building.isSome then some 5 else none))
  ∧ (∀ d : Dev, d.mode = 4 ∨ d.mode = 5 → d.transition 6 = some d.fieldRefusal)
  ∧ (∀ d : Dev, d.mode = 5 ∨ d.mode = 6 → d.transition 4 = some (if d.flag SYS.STATIONARY then none else some 1))
  ∧ (∀ d : Dev, d.mode = 6 → d.transition 5 = some none)
  ∧ (∀ (d : Dev) (v : Nat), d.mode = 7 → v = 4 ∨ v = 5 → d.transition v = some (d.unsafeRefusal v))
  ∧ (∀ d : Dev, d.fieldRefusal = none ↔ BuildItem.admitsField ∈ d.itemsOf 0 ∧ d.rd FLT.MAX_SEV < 2
      ∧ 900 ≤ d.rd SYS.VLOG_NOW ∧ ∀ n, BuildItem.fieldRequired n ∈ d.itemsOf 0 → d.blockReady n = true)

/-- R45 and R472: the transition granted ends; MODE and PREV_MODE change, TRANS_BUSY returns to 0, a MODE record is formed, the Sluice unit
sees the mode it is in, and the gates take the state of the mode. R41, R46: STATIONARY, and MOVE-IN-SERVICE. -/
def Obligations.TransitionsComplete : Prop :=
  (∀ (v : Nat) (s : State), let b := s.dev.begin
    v < 8 → b.sys.target = some v → ∃ e : Dev,
      exec .transitionComplete s = .next { s with dev := (e.modeRecord b.mode v 1).sluMode.refreshGates.safeIfDue.finish }
      ∧ e.mode = v ∧ e.rd SYS.PREV_MODE = b.mode % 16 ∧ e.rd SYS.TRANS_BUSY = 0 ∧ e.sys.target = none
      ∧ e.sys.wakeFell = (if b.sys.fellBusy then some b.now else b.sys.wakeFell) ∧ e.now = b.now
      ∧ (e.rd FLT.EVT).testBit 3 = (b.rd FLT.EVT).testBit 3 ∧ (b.mode = 7 → (e.rd FLT.EVT).testBit 4 = true) ∧ (b.mode ≠ 7 → e.rd FLT.EVT = b.rd FLT.EVT)
      ∧ onlyKeys [SYS.MODE.key 0 0, SYS.PREV_MODE.key 0 0, SYS.TRANS_BUSY.key 0 0, FLT.EVT.key 0 0] b e)
  ∧ (∀ s : State, let b := s.dev.begin
    ∃ d : Dev, exec .stationaryChange s = .next { s with dev := d.finish }
      ∧ d.rd SYS.STATIONARY = (if b.tmb.slowFrom.isSome ∧ b.flag TMB.MD_VALID = true then 1 else 0) ∧ onlyKeys [SYS.STATIONARY.key 0 0] b d
      ∧ (b.tmb.slowFrom = none ∨ b.flag TMB.MD_VALID = false → d.now = b.now)
      ∧ ∀ t, b.tmb.slowFrom = some t → b.flag TMB.MD_VALID = true → b.running = true → 0 ≤ b.tmb.mtFrac → t + 2000000000 ≤ d.mt)
  ∧ (∀ (t : Nat) (s : State), let b := s.dev.begin
    b.mode = 4 → b.flag TMB.MD_VALID = true → b.tmb.fastFrom = some t → ∃ e : Dev,
      exec .moveInService s = .next { s with dev := (e.raise Flt.MOVE_IN_SERVICE).settle.loadAbandon.finish }
      ∧ e.regs = b.regs ∧ e = b.waitMt (t + 1000000000) ∧ (b.running = true → 0 ≤ b.tmb.mtFrac → t + 1000000000 ≤ e.mt))

/-- Table 2.8: which happening is which reset (R58, R59). A reset that brings up PD2 is `Dev.islandStart` with the cause's bit, its WAKE_SRC and
whether it counts; the statement says what it begins with, and that it goes on with the start-up of Table 2.7; `ResetClears` says what the
loss of PD2 to PD9 clears. -/
def Obligations.ResetsOfTable28 : Prop :=
  (∀ s : State, let b := s.dev.begin
    let ends (r : Dev × Memory) : Host.Outcome State Fault Refusal := .next { s with dram := r.2, dev := r.1.finish }
    let woken : Dev := { b with sys := { b.sys with wake := true, wakeFell := none, shutdown := false, fellBusy := false } }
    (∀ v, b.mode ≤ 1 → b.sys.brownOut = false → exec (.wakeRise v) s = ends (woken.islandStart 2 1 true v))
    ∧ (∀ v, 1 < b.mode → exec (.wakeRise v) s = .next { s with dev := woken.finish })
    ∧ (∀ v, b.mode = 1 → b.rd SYS.ALARM_S ≠ 0 → ∃ e : Dev, exec (.rtcAlarm v) s = ends (e.islandStart 2 2 true v)
      ∧ e = (b.waitUntil (b.sys.rtcAt + (b.rd SYS.ALARM_S - b.rd SYS.RTC_S) * 1000000000)).rtcShow
      ∧ b.sys.rtcAt + (b.rd SYS.ALARM_S - b.rd SYS.RTC_S) * 1000000000 ≤ e.now ∧ onlyKeys [SYS.RTC_S.key 0 0] b e)
    ∧ (b.pdOn 2 = true → exec .islandReset s = ends ((if b.onTrial then b.trialFail else b).islandStart 6 5 false (b.rd SYS.VLOG_NOW)))
    ∧ (b.pdOn 2 = true → b.sys.pairs = 2 → ∃ d : Dev, exec .lockstepPairMismatch s = .next { s with dev := d.finish }
      ∧ d.sys.pairs = 1 ∧ d.raised = b.raised ++ [.fault Flt.SHOIT_PAIR_LOST 0] ∧ d.regs = b.regs)
    ∧ (b.pdOn 2 = true → b.sys.pairs ≠ 2 →
        exec .lockstepPairMismatch s = ends ((if b.onTrial then b.trialFail else b).islandStart 6 5 false (b.rd SYS.VLOG_NOW)))
    ∧ (b.powered 0 = true → exec (.resetRequest 1 0x5A3C) s = .next { s with dev := b.coresReset.busOk.finish })
    ∧ (b.powered 0 = true → b.mode = 4 ∨ b.mode = 7 → exec (.resetRequest 2 0x5A3C) s = ends (b.moduleReset.1.busOk, b.moduleReset.2))
    ∧ (b.powered 0 = true → b.mode = 4 ∨ b.mode = 7 → exec (.resetRequest 3 0x5A3C) s
        = ends ((b.wr UPD.LATCH 1).slotKeep.moduleReset.1.busOk, (b.wr UPD.LATCH 1).slotKeep.moduleReset.2))
    ∧ (∀ kind key, b.powered 0 = true → key % 65536 ≠ 0x5A3C ∨ (kind % 16 ≠ 1 ∧ b.mode ≠ 4 ∧ b.mode ≠ 7) ∨ ¬ (1 ≤ kind % 16 ∧ kind % 16 ≤ 3) →
        exec (.resetRequest kind key) s = .next { s with dev := b.busOk.finish })
    ∧ (b.mode = 2 → b.onTrial = true → ∃ e : Dev, exec .trialBootTimeout s = ends e.trialFail.moduleReset
      ∧ e = b.waitUntil (b.sys.bootAt + 2000000000) ∧ e.regs = b.regs ∧ b.sys.bootAt + 2000000000 ≤ e.now))
  ∧ (∀ (d : Dev) (cause src : Nat) (counted : Bool) (v : Nat), cause < 7 → src < 16 → ∃ e : Dev, d.islandStart cause src counted v = e.startUp v []
      ∧ (e.rd SYS.CAUSE).testBit cause = true ∧ e.rd SYS.WAKE_SRC = src ∧ e.rd SYS.PD_ON = 3 ∧ e.mode = d.mode % 16
      ∧ e.rd SYS.PWR_CYCLES = (if counted then (d.rd SYS.PWR_CYCLES + 1) % 2 ^ 24 else d.rd SYS.PWR_CYCLES)
      ∧ e.built = [] ∧ e.points = [] ∧ e.que = [] ∧ e.recd.backlog = [])
  ∧ (∀ (d : Dev) (v : Nat) (m : Memory), d.startUp v m
      = if (d.bootEnter v).slotSelect.2 then ((d.bootEnter v).slotSelect.1.warmStart.1.startModeIn, (d.bootEnter v).slotSelect.1.warmStart.2)
        else ((d.bootEnter v).slotSelect.1.toRecovery, m))
  ∧ (∀ d : Dev, d.toRecovery.mode = 3 ∧ d.toRecovery.rd SYS.PD_ON = 0x87 ∧ d.toRecovery.rd SYS.PREV_MODE = d.mode % 16)
  ∧ (∀ d : Dev, d.moduleReset = (storeAll 130 d).islandStart 5 4 false (d.rd SYS.VLOG_NOW))
  ∧ (∀ d : Dev, d.coresReset = ((d.wrBit SYS.CAUSE 4 true).emit .coreReset
      |>.record 3 0 0xFF 0 noRef [(d.wrBit SYS.CAUSE 4 true).rd SYS.CAUSE, d.rd SYS.WAKE_SRC]).fcwdStart)

/-- What every reset of PD2 to PD9 begins with (Table 2.8, R6, R48): the registers of every block but PREG are at their reset values except
those that MRAM, PD1 or the managed flash hold, nothing is built, DRAM and every queue, point and event are lost, and only PD0 and PD1 are on. -/
def Obligations.ResetClears : Prop :=
  ∀ (d : Dev), let e := d.dropDomains true
    e.rd SYS.PD_ON = 3 ∧ e.built = [] ∧ e.points = [] ∧ e.que = [] ∧ e.tmb = default ∧ e.lah = default ∧ e.slu = default ∧ e.ctl = default
      ∧ e.fus = default ∧ e.isp = default ∧ e.net = default ∧ e.lsw = default ∧ e.vdr = [] ∧ e.fio = default ∧ e.blw = default
      ∧ e.thm = default ∧ e.flt = default ∧ e.recd.backlog = []
      ∧ (∀ k, keyBlock k < 21 → keptKey k = false → k ≠ SYS.PD_ON.key 0 0 → k ≠ SYS.STATIONARY.key 0 0 →
          k ≠ UPD.STATE_A.key 0 0 → k ≠ UPD.STATE_B.key 0 0 → tget? k e.regs = none)
      ∧ (∀ k, keyBlock k = 2 → tget? k e.regs = tget? k d.regs)

/-- Power-on, brown-out, and the ways to STANDBY and DORMANT (Table 2.2, R42, R53, R55, R58, R61, R62). -/
def Obligations.PowerOnAndSleep : Prop :=
  ∀ s : State, let b := s.dev.begin
    (∀ v, ∃ d : Dev, exec (.powerOn false v) s = .next { s with dram := [], dev := d.finish }
      ∧ (∀ e : Dev, e = { d with sys := { d.sys with wake := true } } →
          exec (.powerOn true v) s = .next { s with dram := (e.startUp v []).2, dev := (e.startUp v []).1.finish })
      ∧ d.mode = 0 ∧ d.rd SYS.PREV_MODE = 0 ∧ d.rd SYS.PD_ON = 1 ∧ d.rd SYS.RTC_VALID = 0 ∧ d.rd PREG.WORN_WRITE = 0 ∧ d.rd SYS.WAKE_SRC = 0 ∧ (d.rd SYS.CAUSE).testBit 0 = true
      ∧ d.rd SYS.PWR_CYCLES = (b.rd SYS.PWR_CYCLES + 1) % 2 ^ 24)
    ∧ (∃ d : Dev, exec .brownOut s = .next { s with dram := [], dev := d.finish }
      ∧ d.mode = 0 ∧ d.rd SYS.PD_ON = 1 ∧ d.rd SYS.RTC_VALID = 0 ∧ d.rd PREG.WORN_WRITE = 0 ∧ (d.rd SYS.CAUSE).testBit 1 = true ∧ d.sys.brownOut = true
      ∧ d.rd SYS.PWR_CYCLES = (b.rd SYS.PWR_CYCLES + 1) % 2 ^ 24)
    ∧ (b.mode = 3 → ∃ d : Dev, exec .wakeFall s = .next { s with dram := [], dev := d.finish }
      ∧ d.mode = 0 ∧ d.rd SYS.PREV_MODE = 3 ∧ d.rd SYS.PD_ON = 1 ∧ b.now + 10000000 ≤ d.now ∧ d.sys.wake = false)
    ∧ (b.mode ≠ 3 → ∃ d : Dev, exec .wakeFall s = .next { s with dev := d.finish }
      ∧ d.sys.wake = false ∧ d.sys.wakeFell = some (b.sys.wakeFell.getD b.now) ∧ d.regs = b.regs ∧ d.now = b.now)
    ∧ (b.mode = 1 → ∃ d : Dev, exec .dormantDaysExpiry s = .next { s with dram := [], dev := d.finish }
      ∧ d.mode = 0 ∧ d.rd SYS.PREV_MODE = 1 ∧ d.rd SYS.PD_ON = 1 ∧ d.rd SYS.RTC_VALID = 0
      ∧ b.sys.dormantAt + b.sys.dormantDays * 86400000000000 ≤ d.now)

/-- Shutdown, Table 2.9 (R61). -/
def Obligations.Shutdown : Prop :=
  ∀ s : State, let b := s.dev.begin
    (∀ t, b.sys.wakeFell = some t → b.sys.shutdown = false → b.flag SYS.RIDE_THROUGH = false → b.flag SYS.TRANS_BUSY = false →
      b.mode = 2 ∨ 4 ≤ b.mode → ∃ d : Dev, exec .shutdownStart s = .next { s with dev := d.finish }
      ∧ d.sys.shutdown = true ∧ t + Nat.max 1 (b.rd SYS.WAKE_OFF_DELAY) * 100000000 ≤ d.now ∧ d.sys.afterRunFrom = d.now
      ∧ d.sys.afterRun = Nat.max 1 (b.rd SYS.AFTERRUN_MAX) ∧ d.sys.dormantEn = b.flag SYS.DORMANT_EN
      ∧ 1 ≤ d.sys.dormantDays ∧ d.sys.dormantDays ≤ 30 ∧ d.regs = b.regs)
    ∧ (∀ v eph almanac osc, b.sys.shutdown = true → b.powered 0 = true → v % 2 = 1 →
      exec (.shutdownAck v eph almanac osc) s = .next { s with dram := [], dev := (b.shutDown eph almanac osc).busOk.finish })
    ∧ (∀ eph almanac osc, b.sys.shutdown = true → ∃ e : Dev, exec (.afterrunExpiry eph almanac osc) s
        = .next { s with dram := [], dev := (e.shutDown eph almanac osc).finish }
      ∧ e.regs = b.regs ∧ b.sys.afterRunFrom + b.sys.afterRun * 1000000000 ≤ e.now)
    ∧ (∀ (d : Dev) eph almanac osc, ∃ g : Dev,
        d.shutDown eph almanac osc = (storeAll 130 g.settle).sleep (if g.sys.dormantEn = true ∧ g.flag SYS.RTC_VALID = true then 1 else 0) 0x87
        ∧ ∀ h : Dev, h = { d with sys := { d.sys with gatesShut := true } }.refreshGates → g = if h.powered 9 then h.storeWrite eph almanac osc else h)
    ∧ (∀ (d : Dev) (why : Nat), (d.sleep 0 why).mode = 0 ∧ (d.sleep 0 why).rd SYS.PD_ON = 1 ∧ (d.sleep 0 why).rd SYS.RTC_VALID = 0
        ∧ (d.sleep 1 why).mode = 1 ∧ (d.sleep 1 why).rd SYS.PD_ON = 3 ∧ (d.sleep 1 why).sys.dormantAt = d.now)
    ∧ (∀ (d : Dev) (c : Chan), d.sys.gatesShut = true → d.gateWanted c = false)

/-- Crank ride-through (R52, R44), and the field-core watchdog (R60). -/
def Obligations.CrankAndWatchdog : Prop :=
  (∀ s : State, let b := s.dev.begin
    (b.mode = 2 ∨ 4 ≤ b.mode → b.flag SYS.RIDE_THROUGH = false → ∃ e : Dev, ∃ g : Dev,
      exec .crankStart s = .next { s with dram := [], dev := (g.settle.loadAbandon.loaderStops.dropDomains false).finish }
      ∧ e = { b.preempt with sys := { b.preempt.sys with shutdown := false, gatesShut := true } } ∧ e.mode = b.mode
      ∧ (b.flag SYS.TRANS_BUSY = true → e.rd SYS.TRANS_BUSY = 0 ∧ e.rd SYS.REQ_RESULT = 7 ∧ e.sys.target = none)
      ∧ g = ((e.refreshGates.wr SYS.RIDE_THROUGH 1).wr SYS.BAND_LOG 1).cause SYS.SUPEVT_CRANK
      ∧ g.flag SYS.RIDE_THROUGH = true ∧ g.rd SYS.BAND_LOG = 1 ∧ g.flag SYS.SUPEVT_CRANK = true)
    ∧ (¬ (b.mode = 2 ∨ 4 ≤ b.mode) ∨ b.flag SYS.RIDE_THROUGH = true → exec .crankStart s = .next { s with dev := b.finish })
    ∧ (∀ v, b.flag SYS.RIDE_THROUGH = true → ∃ e : Dev, ∃ g : Dev,
      exec (.crankEnd v) s = .next { s with dram := e.warmStart.2, dev := ((g.formOwed fun _ => true).crankRestore).finish }
      ∧ e = (b.resetMark 3 3).wr SYS.VLOG_NOW v ∧ (e.rd SYS.CAUSE).testBit 3 = true ∧ e.rd SYS.WAKE_SRC = 3 ∧ e.mode = b.mode
      ∧ g = { e.warmStart.1 with sys := { e.warmStart.1.sys with gatesShut := false } }.wr SYS.RIDE_THROUGH 0 ∧ g.flag SYS.RIDE_THROUGH = false)
    ∧ (∀ v, b.flag SYS.RIDE_THROUGH = false → exec (.crankEnd v) s = .next { s with dev := b.finish })
    ∧ (∀ v, b.powered 0 = true → exec (.fcwdKick v) s = .next { s with dev := (if v % 256 = 0xA5 then b.fcwdStart.recover Flt.FCWD_EXPIRED else b).busOk.finish })
    ∧ (∀ t, b.sys.fcwdFrom = some t → ∃ e : Dev, e = b.waitUntil (t + b.rd SYS.TIMEOUT_MS * 1000000) ∧ e.regs = b.regs
      ∧ t + b.rd SYS.TIMEOUT_MS * 1000000 ≤ e.now
      ∧ let g := (e.raise Flt.FCWD_EXPIRED).settle.coresReset
        (g.onTrial = false → exec .fcwdExpiry s = .next { s with dev := g.finish })
        ∧ (g.onTrial = true → exec .fcwdExpiry s = .next { s with dram := g.trialFail.moduleReset.2, dev := g.trialFail.moduleReset.1.finish })))
  ∧ (∀ (d : Dev) (c : Chan), d.sys.gatesShut = true → d.gateWanted c = false)
  ∧ (∀ d : Dev, let e := d.dropDomains false
      e.rd SYS.PD_ON = 7 ∧ e.points = [] ∧ e.que = [] ∧ e.tmb = default ∧ e.lah = default ∧ e.slu = default ∧ e.ctl = default ∧ e.fus = default
        ∧ e.isp = default ∧ e.net = default ∧ e.lsw = default ∧ e.vdr = [] ∧ e.fio = default ∧ e.blw = default)
  ∧ (∀ d : Dev, (d.mode = 2 → d.crankRestore = d.startModeIn)
      ∧ (d.mode = 6 → d.crankRestore = (((d.wr SYS.MODE 5).wr SYS.PREV_MODE 6).modeRecord 6 5 0x84).refreshGates.safeIfDue)
      ∧ (d.mode ≠ 2 → d.mode ≠ 6 → d.crankRestore = d.refreshGates.safeIfDue))
  ∧ (∀ d : Dev, d.fcwdStart = { d with sys := { d.sys with fcwdFrom := if d.rd SYS.TIMEOUT_MS = 0 then none else some d.now } })

/-- Supply bands (R50, Table 2.4), regulator faults (R48), gates (R21) and the shutdown preset (R64). -/
def Obligations.SupplyGatesAndPreset : Prop :=
  ∀ s : State, let b := s.dev.begin
    (∀ (input v avg : Nat), input < 3 → v ≤ 5800 → b.pdOn 2 = true → b.sys.brownOut = false →
      let band := b.bandAfter (b.rd (bandField input)) v
      (input = 0 → band ≠ 0) → ∃ d : Dev,
      exec (.supplyBandChange input v avg false) s = .next { s with dev :=
        (if input = 0 ∧ band ≠ b.rd SYS.BAND_LOG ∧ band = 5 then d.record 4 0 0xFF 0 noRef (5 :: leBytes 2 v) else d).finish }
      ∧ d.rd (bandField input) = band
      ∧ d.rd (if input = 0 then SYS.VLOG_NOW else if input = 1 then SYS.VPWRA else SYS.VPWRB) = v
      ∧ (input = 0 → band ≠ b.rd SYS.BAND_LOG →
          (band = 2 → d.flag SYS.SUPEVT_LOW = true) ∧ (band = 4 → d.flag SYS.SUPEVT_HIGH = true) ∧ (band = 5 → d.flag SYS.SUPEVT_DUMP = true)))
    ∧ (∀ (v avg : Nat), v ≤ 5800 → b.pdOn 2 = true → b.sys.brownOut = false → b.bandAfter (b.rd SYS.BAND_LOG) v = 0 → b.rd SYS.BAND_LOG ≠ 0 →
        ∃ e : Dev, exec (.supplyBandChange 0 v avg false) s = .next { s with dram := [], dev := (brownOut e).1.finish } ∧ e.rd SYS.VLOG_NOW = v)
    ∧ (∀ (v avg : Nat), 900 < v → v ≤ 5800 → b.sys.brownOut = true →
        exec (.supplyBandChange 0 v avg false) s = .next { s with dram := (b.brownOutEnds v s.dram).2, dev := (b.brownOutEnds v s.dram).1.finish })
    ∧ (∀ (k w v : Nat), k ≤ 5 → v ≤ 5800 → w ≤ 5 → b.bandLimits = [600, 900, 1600, 3200, 3600] →
        (b.bandAfter k v = w ↔ (w = 0 ∧ v < 600) ∨ (w = 1 ∧ 600 ≤ v ∧ v < 900)
          ∨ (w = 2 ∧ 900 ≤ v ∧ (if 3 ≤ k then v ≤ 1550 else v < 1600))
          ∨ (w = 3 ∧ (if 3 ≤ k then 1550 < v else 1600 ≤ v) ∧ (if 4 ≤ k then v ≤ 3150 else v < 3200))
          ∨ (w = 4 ∧ (if 4 ≤ k then 3150 < v else 3200 ≤ v) ∧ (if 5 ≤ k then v ≤ 3550 else v < 3600))
          ∨ (w = 5 ∧ (if 5 ≤ k then 3550 < v else 3600 ≤ v))))
    ∧ (∀ (input avg : Nat) (v : Int), v < -3200 ∨ 5800 < v → ∀ over36, exec (.supplyBandChange input v avg over36) s = .fault .outsideRatings)
    ∧ (∀ p, p < 10 → b.pdOn 2 = true → ∀ on, ∃ d : Dev, exec (.pdFaultChange p on) s = .next { s with dev := d.finish }
      ∧ (d.rd SYS.PD_FAULT).testBit p = on ∧ onlyKeys [SYS.PD_FAULT.key 0 0] b d
      ∧ d.raised = b.raised ++ [if on then .fault Flt.PD_FAULT p else .recover Flt.PD_FAULT p])
    ∧ (∀ c, b.live c.block → exec (.gateWrite c false) s = .next { s with dev := (b.setGate c false).busOk.finish }
      ∧ exec (.gateWrite c true) s = .next { s with dev := (if b.gateWanted c then b.setGate c true else b).busOk.finish })
    ∧ (∀ n o, n < 64 → (b.setGate (.io n) o).gateOpen (.io n) = o ∧ ∀ m, m < 64 → m ≠ n → (b.setGate (.io n) o).gateOpen (.io m) = b.gateOpen (.io m))
    ∧ (∀ n o, n < 16 → (b.setGate (.fc n) o).gateOpen (.fc n) = o
        ∧ (∀ m, m < 16 → m ≠ n → (b.setGate (.fc n) o).gateOpen (.fc m) = b.gateOpen (.fc m))
        ∧ (b.flag QUE.FC_BUILT n = true → b.powered 10 = true →
            (b.setGate (.fc n) o).flag QUE.FC_ASSERTED n = (if o then b.flag QUE.Q_BACKP (b.rd QUE.FC_QUEUE n) else b.flag QUE.FC_SAFE n)))
    ∧ (∀ v, v < 3 → b.powered 0 = true → b.itemsOf 15 = [] → ∃ d : Dev, exec (.shutdownPresetWrite v) s = .next { s with dev := d.finish }
      ∧ d.rd SYS.SHUTDOWN_PRESET = v ∧ d.rd SYS.WAKE_OFF_DELAY = [10, 50, 255].getD v 0 ∧ d.rd SYS.AFTERRUN_MAX = [5, 10, 120].getD v 0
      ∧ d.rd SYS.DORMANT_EN = [0, 1, 1].getD v 0 ∧ d.rd SYS.DORMANT_DAYS = [30, 30, 7].getD v 0
      ∧ onlyKeys [SYS.SHUTDOWN_PRESET.key 0 0, SYS.WAKE_OFF_DELAY.key 0 0, SYS.AFTERRUN_MAX.key 0 0, SYS.DORMANT_EN.key 0 0, SYS.DORMANT_DAYS.key 0 0] b d)

/-! The image loader and the P-registers (chapter 3). -/

/-- Table 3.4, R77, R82: a load command begins the checks, or answers BUSY; once the checks' time has passed, the refusal or the acceptance
follows. The image is what stands in DRAM at CFG_LOAD_ADDR (`Dev.imageAt`). The check time is the model's (assumption 18). -/
def Obligations.LoadChecks : Prop :=
  (∀ (x : Reading) (s : State), let b := s.dev.begin
    let img := b.imageAt s.dram x
    b.powered 1 = true →
    (b.rd CFG.LOAD_STATE ≠ 0 → ∃ d : Dev,
      exec (.loadCmd x) s = .next { s with dev := (d.loadRecords img false 2).busOk.finish }
      ∧ exec (.loadAndPersist x) s = .next { s with dev := (d.loadRecords img false 2).busOk.finish }
      ∧ d.rd CFG.LOAD_RESULT = 2 ∧ d.rd CFG.FAIL_OFFSET = 0 ∧ onlyKeys [CFG.LOAD_RESULT.key 0 0, CFG.FAIL_OFFSET.key 0 0] b d
      ∧ d.built = b.built ∧ d.cfg = b.cfg)
    ∧ (b.rd CFG.LOAD_STATE = 0 → ∀ persist, ∃ d : Dev,
      exec (if persist then .loadAndPersist x else .loadCmd x) s = .next { s with dev := d.busOk.finish }
      ∧ d.rd CFG.LOAD_STATE = 1 ∧ onlyKeys [CFG.LOAD_STATE.key 0 0] b d ∧ d.built = b.built
      ∧ d.cfg = { b.cfg with checking := some ⟨img, persist, b.now + b.checkTime img⟩ }))
  ∧ (∀ (d : Dev) (c : Checking), d.cfg.checking = some c → ∃ e : Dev,
      e.rd CFG.LOAD_STATE = 0 ∧ onlyKeys [CFG.LOAD_STATE.key 0 0] d e ∧ e.built = d.built ∧ e.cfg = { d.cfg with checking := none }
      ∧ (d.now < c.doneAt → d.loadDue = d)
      ∧ (c.doneAt ≤ d.now → e.loadFault c.image = none → d.loadDue = e.loadAccept c.image c.persist)
      ∧ (c.doneAt ≤ d.now → ∀ r o, e.loadFault c.image = some (r, o) → ∃ f : Dev, d.loadDue = f.loadRecords c.image false r
        ∧ f.rd CFG.LOAD_RESULT = r % 16 ∧ f.rd CFG.FAIL_OFFSET = o % 65536
        ∧ onlyKeys [CFG.LOAD_STATE.key 0 0, CFG.LOAD_RESULT.key 0 0, CFG.FAIL_OFFSET.key 0 0] d f ∧ f.built = d.built ∧ f.cfg = e.cfg))
  ∧ (∀ (d : Dev) (i : Image), (i.headerOk (d.rd CFG.LEN) = false → d.loadFault i = some (3, 0))
      ∧ (i.headerOk (d.rd CFG.LEN) = true → d.imageFault i false = none → (∃ r ∈ i.numbers, (d.rd CFG.PEND).testBit r = true) → d.loadFault i = some (2, 0)))

/-- An accepted partial image of live regions alone waits in its shadow copies, its bits in CFG_RGN_PEND set and the running structure as it
was (R78); the swap of a region clears its bit and puts the copy in place, a timeout clears it and sets CFG_RGN_TMO (R81). `c` is the device
with the checks in progress, if there are any, at their end. -/
def Obligations.LiveRegions : Prop :=
  (∀ (img : Image) (d : Dev) (persist : Bool), img.kind ≠ 0 → (∀ r ∈ img.regions, regionLive r.no = true) → img.regions ≠ [] →
    let e := d.loadAccept img persist
    e.built = d.built ∧ e.rd CFG.LOAD_RESULT = 1 ∧ e.rd CFG.ID = img.imageId % 2 ^ 32 ∧ e.rd CFG.VER = img.imageVer % 2 ^ 32
      ∧ (persist = true → e.recd = d.recd ∧ (⟨img, img.numbers, 1⟩ : Unrecorded) ∈ e.cfg.unrecorded)
      ∧ (∀ r ∈ img.regions, (e.rd CFG.PEND).testBit r.no = true ∧ tget? r.no e.cfg.swaps ≠ none))
  ∧ (∀ (r : Nat) (flashOk : Bool) (s : State), let c := s.dev.begin.loadWait
    (tget? r c.cfg.swaps = none → exec (.liveRegionSwap r flashOk) s = .next { s with dev := c.finish }
      ∧ exec (.liveSwapTimeout r) s = .next { s with dev := c.finish })
    ∧ ∀ w, r < 16 → tget? r c.cfg.swaps = some w →
    (c.swapHeld w.content = false → exec (.liveSwapTimeout r) s = .next { s with dev := c.finish } ∧ ∃ e : Dev,
      exec (.liveRegionSwap r flashOk) s = .next { s with
        dram := (e.swapAll w.content s.dram).2
        dev := ((((e.swapAll w.content s.dram).1.rehash).storePatch r w flashOk).note .gates).finish }
      ∧ e = (if r = 8 ∨ c.running = false then c else c.waitMt c.tmb.nextTick).swapGone r
      ∧ (e.rd CFG.PEND).testBit r = false ∧ tget? r e.cfg.swaps = none ∧ onlyKeys [CFG.PEND.key 0 0] c e)
    ∧ (c.swapHeld w.content = true → exec (.liveRegionSwap r flashOk) s = .next { s with dev := c.finish } ∧ ∃ e : Dev,
      exec (.liveSwapTimeout r) s = .next { s with dev := ((e.imageRecord w.image.imageId w.image.imageVer 0xF0 r).loadPart r none).finish }
      ∧ (e.rd CFG.PEND).testBit r = false ∧ (e.rd CFG.TMO).testBit r = true ∧ tget? r e.cfg.swaps = none ∧ e.built = c.built
      ∧ onlyKeys [CFG.PEND.key 0 0, CFG.TMO.key 0 0] c e ∧ w.since + clampN 1 60 (c.rd CFG.TMO_S) * 1000000000 ≤ e.now))

/-- A static load (R79, R471): LOAD_STATE reads BUILDING until the end of stage 4, which puts the new structure in place whole. -/
def Obligations.StaticBuildEnds : Prop :=
  ∀ (flashOk : Bool) (s : State), let c := s.dev.begin.loadWait
    (c.cfg.building = none → exec (.staticBuildComplete flashOk) s = .next { s with dev := c.finish })
    ∧ ∀ w, c.cfg.building = some w → ∃ d : Dev, ∃ e : Dev,
      let res := if w.persist = false then 1 else if w.image.kind = 1 then 12 else if flashOk then 1 else 11
      let now := (c.rebuildAll w.contents s.dram).1.builtNow w.contents
      let full := ((now.headerIn w.image).enrolKeys w.image).recLatch
      exec (.staticBuildComplete flashOk) s
        = .next { s with dram := (c.rebuildAll w.contents s.dram).2, dev := ((d.loadPart 16 (some res)).note .gates).finish }
      ∧ d.rd CFG.LOAD_STATE = 0 ∧ d.rd CFG.LOAD_RESULT = res ∧ d.cfg = e.cfg
      ∧ onlyKeys [CFG.LOAD_STATE.key 0 0, CFG.LOAD_RESULT.key 0 0] e d
      ∧ now.cfg.building = none ∧ (∀ x ∈ w.contents, x.no ∉ now.cfg.unbuilt)
      ∧ (w.image.kind ≠ 0 → e = now)
      ∧ (w.image.kind = 0 → w.persist = false ∨ flashOk = false → e = full)
      ∧ (w.image.kind = 0 → w.persist = true → flashOk = true →
          e = { full with cfg := { full.cfg with full := w.image :: full.cfg.full.take 1, patches := [] } })

/-- P-registers (R92 to R95). -/
def Obligations.PregWrites : Prop :=
  ∀ (mst : Master) (n w : Nat) (c1 c2 : Option Nat) (s : State), let b := s.dev.begin
    n < 4096 → b.powered 2 = true →
    (b.pregMay n mst = true → n < 4032 → b.flag PREG.WORN n = false → c1 = none → ∃ d : Dev,
      exec (.pregWrite mst n w c1 c2) s = .next { s with dev := d.finish }
      ∧ d.rd PREG.P n = w % 2 ^ 32
      ∧ d.rd PREG.CNT_LO n + d.rd PREG.CNT_HI n * 2 ^ 32 = (b.rd PREG.CNT_LO n + b.rd PREG.CNT_HI n * 2 ^ 32 + 1) % 2 ^ 40
      ∧ (d.flag PREG.WORN n = decide (10000000000 ≤ (b.rd PREG.CNT_LO n + b.rd PREG.CNT_HI n * 2 ^ 32 + 1) % 2 ^ 40))
      ∧ onlyKeys [PREG.P.key n 0, PREG.CNT_LO.key n 0, PREG.CNT_HI.key n 0, PREG.WORN.key n 0, PREG.ANY_WORN.key 0 0, PREG.LAST_WORN.key 0 0] b d
      ∧ d.out = b.out ++ [.busResponse 0] ∧ d.raised = b.raised)
    ∧ (b.pregMay n mst = true → b.flag PREG.WORN n = true → ∃ d : Dev,
      exec (.pregWrite mst n w c1 c2) s = .next { s with dev := d.finish }
      ∧ d.rd PREG.WORN_WRITE = 1 ∧ onlyKeys [PREG.WORN_WRITE.key 0 0] b d ∧ d.raised = b.raised ++ [.fault Flt.PREG_WORN n])
    ∧ (b.pregMay n mst = false → exec (.pregWrite mst n w c1 c2) s = .next { s with dev := b.violation.finish })
    ∧ (4032 ≤ n → b.pregMay n mst = decide (mst = .shoit))
    ∧ (n < 4032 → (∀ w, BuildItem.pregOwner n w ∉ b.itemsOf 14) → b.pregMay n mst = decide (mst ≠ .loader))

/-! The Machine Timebase and the Distance Scheduler (chapter 4). -/

/-- Machine Time: discipline at reference edges (R104), loss of the reference, and the snapshot (R126). -/
def Obligations.MachineTime : Prop :=
  (∀ d : Dev, -(1000 * d.slewPpm) ≤ d.slew ∧ d.slew ≤ 1000 * d.slewPpm ∧ 1 ≤ d.slewPpm ∧ d.slewPpm ≤ 200)
  ∧ ∀ s : State, let b := s.dev.begin
    b.live 3 →
    (∀ ref : Int, b.running = true → b.mtDisc = 1 → b.tmb.ofsSet = false → -(2 ^ 63) ≤ ref - b.mt → ref - b.mt < 2 ^ 63 → ∃ d : Dev,
      exec (.ppsEdgeMeasure 1 ref) s = .next { s with dev := d.finish }
      ∧ d.gpsOfs = ref - b.mt ∧ d.rd TMB.MT_ERR = 0 ∧ d.tmb.ofsSet = true ∧ d.mt = b.mt ∧ d.md = b.md
      ∧ onlyKeys [TMB.GPS_OFS_LO.key 0 0, TMB.GPS_OFS_HI.key 0 0, TMB.MT_ERR.key 0 0, ETH.NT_GNSS.key 0 0] b d)
    ∧ (∀ ref : Int, b.running = true → b.mtDisc = 1 → b.tmb.ofsSet = true → let err := b.mt + b.gpsOfs - ref
      ∃ d : Dev, exec (.ppsEdgeMeasure 1 ref) s = .next { s with dev := d.finish }
      ∧ d.rdS TMB.MT_ERR = clampI (-(2 ^ 31)) (2 ^ 31 - 1) err
      ∧ (err.natAbs ≤ 1000000 ∨ b.tmb.bigRun < 9 → d.gpsOfs = b.gpsOfs ∧ d.tmb.mtRate = clampI (-(1000 * b.slewPpm)) (1000 * b.slewPpm) (-err))
      ∧ (1000000 < err.natAbs → 9 ≤ b.tmb.bigRun → -(2 ^ 63) ≤ ref - b.mt → ref - b.mt < 2 ^ 63 → d.gpsOfs = ref - b.mt ∧ d.tmb.mtRate = b.tmb.mtRate)
      ∧ (b.flag TMB.MT_LOCKED = false → (d.flag TMB.MT_LOCKED = true ↔ err.natAbs < 1000 ∧ 9 ≤ b.tmb.goodRun))
      ∧ (b.flag TMB.MT_LOCKED = true → (d.flag TMB.MT_LOCKED = false ↔ 1000 < err.natAbs ∧ 2 ≤ b.tmb.badRun))
      ∧ (b.flag TMB.MT_LOCKED = true → d.flag TMB.MT_LOCKED = false → d.flag TMB.EVT_MT_UNLOCK = true)
      ∧ d.mt = b.mt ∧ d.md = b.md
      ∧ onlyKeys [TMB.MT_ERR.key 0 0, TMB.GPS_OFS_LO.key 0 0, TMB.GPS_OFS_HI.key 0 0, TMB.MT_LOCKED.key 0 0, TMB.EVT_MT_UNLOCK.key 0 0] b d)
    ∧ (∃ d : Dev, exec .mtLockTimeout s = .next { s with dev := d.finish }
      ∧ d.flag TMB.MT_LOCKED = false ∧ (b.running = true → b.tmb.lastEdge + 3000000000 ≤ d.mt) ∧ d.tmb.mtRate = b.tmb.mtRate
      ∧ (b.flag TMB.MT_LOCKED = true → d.flag TMB.EVT_MT_UNLOCK = true)
      ∧ onlyKeys [TMB.MT_LOCKED.key 0 0, TMB.EVT_MT_UNLOCK.key 0 0] b d)
    ∧ (∃ d : Dev, exec .snapshotLatch s = .next { s with dev := d.busOk.finish }
      ∧ d.rd TMB.SNAP_MT_LO = b.mt % 2 ^ 32 ∧ d.rd TMB.SNAP_MT_HI = b.mt / 2 ^ 32 % 2 ^ 32
      ∧ d.rd TMB.SNAP_MD_LO + d.rd TMB.SNAP_MD_HI * 2 ^ 32 = enc 64 b.md
      ∧ d.rd TMB.SNAP_RA_FRAC + d.rd TMB.SNAP_RA_REV * 65536 = b.ra % 2 ^ 40
      ∧ d.rdS TMB.SNAP_SPEED = (if b.flag TMB.MD_VALID then sgn 32 (enc 32 (mmps b.tmb.fused)) else sgn 32 (enc 32 (b.free : Int)))
      ∧ d.rd TMB.SEQ = (b.rd TMB.SEQ + 1) % 2 ^ 16 ∧ d.freeSeq = b.freeSeq + 1
      ∧ onlyKeys [TMB.SNAP_MT_LO.key 0 0, TMB.SNAP_MT_HI.key 0 0, TMB.SNAP_MD_LO.key 0 0, TMB.SNAP_MD_HI.key 0 0, TMB.SNAP_RA_FRAC.key 0 0,
          TMB.SNAP_RA_REV.key 0 0, TMB.SNAP_SPEED.key 0 0, TMB.SEQ.key 0 0] b d)

/-- Machine Distance: the gate of a source and the states of Table 4.3 (R107 to R111). -/
def Obligations.MachineDistance : Prop :=
  (∀ s : State, let b := s.dev.begin
    b.live 3 → b.running = true → ∃ e : Dev, exec .mdFusionTick s = .next { s with dev := (e.tickTo e.nextMdState).finish }
      ∧ b.tmb.nextTick ≤ e.mt ∧ e = b.toTick.gateAll)
  ∧ (∀ (mt stale ga gr re : Nat) (vref : Int) (x : MdSrc), let n := gateSource mt stale ga gr re vref x
      (n.pass = false → n.admitted = false ∧ n.passrun = 0)
      ∧ (n.pass = true → n.fresh = true ∧ n.passrun = x.passrun + 50 ∧ (re * 10000 ≤ x.passrun + 50 → n.admitted = true)
        ∧ (x.admitted = true → n.admitted = true))
      ∧ n.v = x.v ∧ n.validAt = x.validAt)
  ∧ (∀ (d : Dev) (i : Nat), i < 4 → d.flag TMB.SRC_USE i = true → (d.mdPairs i).isSome = true → let e := d.gateOne i
      ((d.mdSrc i).pass = true → (e.mdSrc i).pass = false → e.rd TMB.REJECTS i = satInc 16 (d.rd TMB.REJECTS i) ∧ e.flag TMB.EVT_SRC_REJECT = true)
      ∧ ((d.mdSrc i).fresh = true → (e.mdSrc i).fresh = false → e.rd TMB.STALES i = satInc 16 (d.rd TMB.STALES i))
      ∧ onlyKeys [TMB.REJECTS.key i 0, TMB.STALES.key i 0, TMB.EVT_SRC_REJECT.key 0 0] d e)
  ∧ (∀ (d : Dev) (i : Nat), d.flag TMB.SRC_USE i = false ∨ d.mdPairs i = none →
      ((d.gateOne i).mdSrc i).admitted = false ∧ ((d.gateOne i).mdSrc i).fresh = false ∧ (d.gateOne i).regs = d.regs)
  ∧ (∀ d : Dev, let st := d.rd TMB.MD_STATE
      let anchorFresh := (d.mdSrc d.tmb.anchor).fresh
      (st ≠ 2 → d.admittedWeighted ≠ [] → d.nextMdState = 0)
      ∧ (st = 2 → 2 ≤ d.admittedWeighted.length → d.nextMdState = 0)
      ∧ (st = 2 → d.admittedWeighted.length < 2 → anchorFresh = true → (mdSources.filter fun i => (d.mdSrc i).fresh) ≠ [d.tmb.anchor] → d.tmb.anchor < 4 → d.nextMdState = 2)
      ∧ (st = 0 ∨ (st = 2 ∧ anchorFresh = false) → (∀ i < 4, (d.mdSrc i).admitted = false) → d.nextMdState = 1)
      ∧ (st = 1 ∨ st = 3 → d.admittedWeighted = [] → d.tmb.lastAdmitted + d.rd TMB.HOLD_MS * ms ≤ d.mt → d.bestAnchor ≠ none → d.nextMdState = 2)
      ∧ (st = 1 → d.admittedWeighted = [] → d.tmb.lastAdmitted + d.rd TMB.HOLD_MS * ms ≤ d.mt → (∀ i < 4, (d.mdSrc i).fresh = false) → d.nextMdState = 3)
      ∧ (st = 1 ∨ st = 3 → d.admittedWeighted = [] → d.mt < d.tmb.lastAdmitted + d.rd TMB.HOLD_MS * ms → d.nextMdState = st))
  ∧ (∀ (d : Dev) (st : Nat), st < 4 → let e := d.tickTo st
      e.rd TMB.MD_STATE = st ∧ e.tmb.mdAcc = d.tmb.mdAcc ∧ e.mt = d.mt
      ∧ (st = 3 → e.tmb.rate = 0) ∧ (e.tmb.fused.natAbs < d.rd TMB.STILL_MMS * 256 → e.tmb.rate = 0)
      ∧ (st ≠ d.rd TMB.MD_STATE → e.flag TMB.MD_VALID = decide (st ≠ 3) ∧ e.flag TMB.EVT_STATE_CHANGE = true
        ∧ (∀ c, mdFault st = some c → .fault c 0 ∈ e.raised) ∧ (∀ c, mdFault (d.rd TMB.MD_STATE) = some c → .recover c 0 ∈ e.raised)
        ∧ (st = 3 → e.rd SYS.STATIONARY = 0 ∧ (d.flag LAH.EN = true → ⟨7, allImpls, []⟩ ∈ e.lah.triggers)))
      ∧ onlyKeys [TMB.MD_STATE.key 0 0, TMB.MD_VALID.key 0 0, TMB.EVT_STATE_CHANGE.key 0 0, TMB.ADMITTED.key 0 0, TMB.FRESH.key 0 0, SYS.STATIONARY.key 0 0] d e)

/-- Filing, cancelling and issuing scheduled events, and reversal (R115 to R121, R126). -/
def Obligations.ScheduledEvents : Prop :=
  ∀ s : State, let b := s.dev.begin
    b.live 3 →
    (∀ c, c < 32 → (b.classRow c = none ∨ ∃ w f q n, b.classRow c = some (w, f, q, n) ∧ f.testBit 2 = false) →
      exec (.fileEvent c) s = .next { s with dev := (b.wr TMB.FILE_RESULT 5).busOk.finish })
    ∧ (∀ c w f q n, c < 32 → b.classRow c = some (w, f, q, n) → f.testBit 2 = true →
      (b.slotFree c = false → ∃ d : Dev, exec (.fileEvent c) s = .next { s with dev := d.busOk.finish }
        ∧ d.rd TMB.FILE_RESULT = 2 ∧ d.flag TMB.FULL_SEEN = true ∧ d.flag TMB.EVT_FULL = true ∧ d.tmb = b.tmb
        ∧ onlyKeys [TMB.FILE_RESULT.key 0 0, TMB.FULL_SEEN.key 0 0, TMB.EVT_FULL.key 0 0] b d)
      ∧ (b.slotFree c = true → b.lateAt c (b.fileTarget c) = false → (∃ k < 4096, tget? k b.tmb.slots = none) → ∃ d : Dev, ∃ k < 4096, ∃ ev,
        exec (.fileEvent c) s = .next { s with dev := d.busOk.finish }
        ∧ d.rd TMB.FILE_RESULT = 1 ∧ d.rd TMB.HANDLE % 4096 = k ∧ tget? k b.tmb.slots = none ∧ tget? k d.tmb.slots = some ev
        ∧ ev.cls = c ∧ ev.target = b.fileTarget c ∧ ev.arg = b.rd TMB.FILE_ARG ∧ ev.crossed = none
        ∧ (∀ j, j ≠ k → tget? j d.tmb.slots = tget? j b.tmb.slots) ∧ d.rd TMB.PENDING = (b.tmb.slots.length + 1) % 2 ^ 13
        ∧ onlyKeys [TMB.FILE_RESULT.key 0 0, TMB.HANDLE.key 0 0, TMB.PENDING.key 0 0, TMB.PEAK.key 0 0] b d))
    ∧ (∀ h, let k := h % 4096
      (b.handleOf k ≠ h → exec (.cancelEvent h) s = .next { s with dev := (b.wr TMB.CANCEL_RESULT 2).busOk.finish })
      ∧ (b.handleOf k = h → tget? k b.tmb.slots = none → (tget? k b.tmb.issued).isSome = true →
          exec (.cancelEvent h) s = .next { s with dev := (b.wr TMB.CANCEL_RESULT 1).busOk.finish })
      ∧ (b.handleOf k = h → tget? k b.tmb.slots = none → tget? k b.tmb.issued = none →
          exec (.cancelEvent h) s = .next { s with dev := (b.wr TMB.CANCEL_RESULT 2).busOk.finish })
      ∧ (∀ ev, b.handleOf k = h → tget? k b.tmb.slots = some ev → b.mayIssue ev = true →
          exec (.cancelEvent h) s = .next { s with dev := (b.wr TMB.CANCEL_RESULT 1).busOk.finish })
      ∧ (∀ ev, b.handleOf k = h → tget? k b.tmb.slots = some ev → b.mayIssue ev = false → ∃ e : Dev,
          exec (.cancelEvent h) s = .next { s with dev := ((e.issueRecord h ev 16).wr TMB.CANCEL_RESULT 0).busOk.finish }
          ∧ tget? k e.tmb.slots = none ∧ (∀ j, j ≠ k → tget? j e.tmb.slots = tget? j b.tmb.slots)
          ∧ onlyKeys [TMB.PENDING.key 0 0, TMB.PEAK.key 0 0] b e))
    ∧ (b.running = true → b.nextIssue ≠ none → ∃ k ev, (k, ev) ∈ b.tmb.slots ∧ b.mayIssue ev = true
      ∧ (∀ p ∈ b.tmb.slots, b.mayIssue p.2 = true → b.ahead p.2 ev = false)
      ∧ (ev.drop = false → exec .eventIssue s = .next { s with dev := ((b.issueSlot k ev ev.late).sluDue (ev.crossed.getD b.now)).finish })
      ∧ (ev.drop = true → exec .eventIssue s = .next { s with dev :=
          (((((if ev.late then b.cause TMB.EVT_LATE else b).dropEvent k ev 32).sluOrphans 9).panOrphans).sluDue (ev.crossed.getD b.now)).finish }))
    ∧ (∀ at_, b.running = true → b.nextIssue = none → b.nextMtTarget = some at_ →
      exec .eventIssue s = .next { s with dev := (b.waitMt at_).issueFirst.finish } ∧ at_ ≤ (b.waitMt at_).mt)
    ∧ (b.running = false ∨ (b.nextIssue = none ∧ b.nextMtTarget = none) → exec .eventIssue s = .next { s with dev := b.finish })
    ∧ (∀ (e : Dev) (k : Nat) (ev : Event), let f := e.afterIssue k ev false
      let g := e.afterIssue k ev true
      tget? k f.tmb.slots = none ∧ tget? k f.tmb.issued = some e.mt
        ∧ tget? k g.tmb.slots = some { ev with target := (ev.target + 65536) % 2 ^ 40, crossed := none, held := false, late := false }
        ∧ g.regs = e.regs ∧ ∀ j, j ≠ k → tget? j f.tmb.slots = tget? j e.tmb.slots ∧ tget? j g.tmb.slots = tget? j e.tmb.slots)
    ∧ (∀ n, b.flag TMB.REVERSE = false → b.turnDue = some n → ∃ e : Dev,
      exec .reversalConfirm s = .next { s with dev := ((e.eachEvent (fun ev => b.flag TMB.CLASS_REV_POLICY ev.cls) fun k ev d =>
        if d.mayIssue ev then d else d.dropEvent k ev 16).sluOrphans 8).panOrphans.finish }
      ∧ e.rd TMB.REVERSE = 1 ∧ e.rd TMB.EVT_REVERSAL = 1 ∧ (b.flag LAH.EN = true → ⟨3, allImpls, []⟩ ∈ e.lah.triggers) ∧ e.tmb.slots = (b.cycles n).tmb.slots
      ∧ e.now = b.now + 4 * n ∧ onlyKeys [TMB.REVERSE.key 0 0, TMB.EVT_REVERSAL.key 0 0] b e
      ∧ ∀ m, b.tmb.turn = some m → 10 * Nat.max 1 (b.rd TMB.REV_CONFIRM_MM) * 2 ^ 24 ≤ (e.tmb.mdAcc - m).natAbs)
    ∧ (b.flag TMB.REVERSE = true ∨ b.turnDue = none → exec .reversalConfirm s = .next { s with dev := (b.sluOrphans 8).panOrphans.finish })
    ∧ (∀ n, b.flag TMB.REVERSE = true → b.turnDue = some n → ∃ d : Dev, exec .forwardConfirm s = .next { s with dev := d.finish }
      ∧ d.rd TMB.REVERSE = 0 ∧ d.rd TMB.EVT_REVERSAL = 1 ∧ d.tmb.slots = (b.cycles n).tmb.slots ∧ d.lah = b.lah ∧ d.now = b.now + 4 * n
      ∧ onlyKeys [TMB.REVERSE.key 0 0, TMB.EVT_REVERSAL.key 0 0] b d
      ∧ ∀ m, b.tmb.turn = some m → 10 * Nat.max 1 (b.rd TMB.REV_CONFIRM_MM) * 2 ^ 24 ≤ (d.tmb.mdAcc - m).natAbs)
    ∧ (b.flag TMB.REVERSE = false ∨ b.turnDue = none → exec .forwardConfirm s = .next { s with dev := b.finish })

/-- Rotor Angle (R105) and the position history (R124, R125). -/
def Obligations.RotorAndHistory : Prop :=
  (∀ s : State, let b := s.dev.begin
    b.live 3 →
    (∀ back, b.running = true → b.raPpr ≠ 0 → ∃ d : Dev, exec (.raPulse back) s = .next { s with dev := d.finish }
      ∧ d.flag TMB.RA_VALID = (b.tmb.raSeen || b.flag TMB.RA_VALID) ∧ d.tmb.raInterval = (if b.tmb.raSeen then b.mt - b.tmb.raPulse else 0)
      ∧ d.tmb.raPulse = b.mt ∧ d.tmb.raSeen = true
      ∧ ((∀ fi, b.raInput ≠ some (fi, true)) → d.tmb.raBack = false) ∧ (∀ fi, b.raInput = some (fi, true) → d.tmb.raBack = back)
      ∧ (b.tmb.raSeen = false → d.tmb.raBase = b.tmb.raBase)
      ∧ (b.tmb.raSeen = true → b.raPpr = 1 → back = false → d.tmb.raBase = (b.tmb.raBase / 65536 + 1) * 65536 % 2 ^ 40)
      ∧ onlyKeys [TMB.RA_VALID.key 0 0] b d)
    ∧ (let c := if b.tmb.raSeen then b.waitMt (b.tmb.raPulse + 1000000000) else b
      ∃ d : Dev, exec .raPulseTimeout s = .next { s with dev := d.finish }
      ∧ d.flag TMB.RA_VALID = false ∧ d.ra = c.ra ∧ d.mt = c.mt ∧ (b.running = true → b.tmb.raSeen = true → b.tmb.raPulse + 1000000000 ≤ d.mt)
      ∧ onlyKeys [TMB.RA_VALID.key 0 0] b d)
    ∧ (b.running = true → let c := b.cycles b.historyDue
      ∃ d : Dev, exec .historyEntry s = .next { s with dev := d.finish }
      ∧ d.regs = b.regs ∧ ∃ h, d.tmb.hist = (h :: b.tmb.hist).take 16384 ∧ h.mt = c.mt ∧ h.md = c.md ∧ h.state = b.rd TMB.MD_STATE
        ∧ h.east = b.rdS LAH.POSE_E ∧ h.north = b.rdS LAH.POSE_N ∧ h.heading = b.rd LAH.POSE_HDG
        ∧ (b.flag TMB.MD_VALID = true → h.speed = mmps b.tmb.fused))
    ∧ (∀ last older, b.tmb.hist = last :: older →
        (10 * clampN 50 1000 (b.rd TMB.HIST_STEP_MM) ≤ (b.md - last.md).natAbs ∨ last.mt + Nat.max 1 (b.rd TMB.HIST_MAXT_MS) * 1000000 ≤ b.mt) →
        b.historyDue = 0)
    ∧ ∀ byMd, let key := b.queryKey byMd
      let of := fun e : HistEntry => if byMd then e.md else (e.mt : Int)
      let hits := allBrackets of key b.tmb.hist
      let c := (b.wr TMB.Q_AMBIGUOUS 0).wr TMB.Q_BUSY 0
      (∀ o n more, hits = (o, n) :: more →
        exec (.historyQuery byMd) s = .next { s with dev :=
          (((c.queryAnswer o n (if of n < of o then of o - key else key - of o) (of n - of o).natAbs).wr TMB.Q_RESULT 1).wr TMB.Q_AMBIGUOUS
            (bit (byMd ∧ more ≠ []))).busOk.finish })
      ∧ (hits = [] →
        exec (.historyQuery byMd) s = .next { s with dev := (c.wr TMB.Q_RESULT (if beyondNewest of key b.tmb.hist then 3 else 2)).busOk.finish }))
  ∧ (∀ (x y : Int) (n : Nat), 0 < n → lerp x y 0 n = x ∧ lerp x y n n = y)
  ∧ (∀ (of : HistEntry → Int) (k : Int) (h : List HistEntry), ∀ p ∈ allBrackets of k h, p.1 ∈ h ∧ p.2 ∈ h
      ∧ ((of p.1 ≤ k ∧ k ≤ of p.2) ∨ (of p.2 ≤ k ∧ k ≤ of p.1)))
  ∧ (∀ (of : HistEntry → Int) (n : HistEntry) (older : List HistEntry), ∃ more, allBrackets of (of n) (n :: older) = (n, n) :: more)
  ∧ (∀ (of : HistEntry → Int) (k : Int), beyondNewest of k [] = false ∧ ∀ (n o : HistEntry), of o ≤ of n → (beyondNewest of k [n, o] = true ↔ of n < k))

/-! The look-ahead unit (chapter 5). -/

/-- What the field cores ask of the look-ahead unit by a register (R146, R147, R153, R156), and the loss of the pose (R129). -/
def Obligations.LookAheadCommands : Prop :=
  ∀ s : State, let b := s.dev.begin
    b.live 4 →
    (∀ mask, b.flag LAH.EN = true → mask % 256 ≠ 0 → ∃ d : Dev, exec (.floodRequest mask) s = .next { s with dev := d.busOk.finish }
      ∧ d.lah.triggers = b.lah.triggers ++ [⟨10, maskBits 8 mask, []⟩] ∧ d.lah.pan = b.lah.pan ∧ d.regs = b.regs)
    ∧ (∀ mask, b.flag LAH.EN = false ∨ mask % 256 = 0 → exec (.floodRequest mask) s = .next { s with dev := b.busOk.finish })
    ∧ (∀ v, ∃ d : Dev, exec (.masterWrite v) s = .next { s with dev := d.busOk.finish }
      ∧ d.rd LAH.MASTER = v % 256 ∧ onlyKeys [LAH.MASTER.key 0 0] b d
      ∧ ∀ i < 8, b.flag LAH.EN = true → (b.rd LAH.MASTER).testBit i = true → v.testBit i = false → ∃ t ∈ d.lah.triggers, t.cause = 9 ∧ i ∈ t.impls)
    ∧ (b.flag LAH.EN = true → ∃ e : Dev, exec .lahDisable s = .next { s with dev := ((lahFlood s.dram e).wr LAH.EN 0).busOk.finish }
      ∧ e.lah.triggers = b.lah.triggers ++ [⟨9, allImpls, []⟩] ∧ e.lah.pan = b.lah.pan ∧ e.regs = b.regs)
    ∧ (b.flag LAH.EN = false → exec .lahDisable s = .next { s with dev := b.busOk.finish })
    ∧ (∃ d : Dev, exec .poseLostTimeout s = .next { s with dev := d.finish }
      ∧ d.rd LAH.POSE_STATE = 2 ∧ (∀ t, b.lah.epochAt = some t → t + Nat.max 1 (b.rd LAH.DR_LIMIT_MS) * 1000000 ≤ d.now)
      ∧ (b.rd LAH.POSE_STATE ≠ 2 → d.rd LAH.EVT_POSE_LOST = 1 ∧ (b.flag LAH.EN = true → ⟨8, allImpls, []⟩ ∈ d.lah.triggers))
      ∧ onlyKeys [LAH.POSE_STATE.key 0 0, LAH.EVT_POSE_LOST.key 0 0] b d)
    ∧ (let at_ := 16 * b.rd LAH.IMP_ADDR16
       let n := clampN 1 65536 (b.rd LAH.IMP_CNT)
      (b.flag LAH.IMP_STATE = true → exec .importGo s = .next { s with dev := (b.wr LAH.IMP_RESULT 2).busOk.finish })
      ∧ (b.flag LAH.IMP_STATE = false → b.coreMayWrite at_ (16 * n) = false → exec .importGo s = .next { s with dev := (b.wr LAH.IMP_RESULT 3).busOk.finish })
      ∧ (b.flag LAH.IMP_STATE = false → b.coreMayWrite at_ (16 * n) = true → ∃ d : Dev, exec .importGo s = .next { s with dev := d.busOk.finish }
        ∧ d.rd LAH.IMP_STATE = 1 ∧ d.rd LAH.IMP_RESULT = 0 ∧ d.rd LAH.IMP_APPLIED = 0 ∧ d.lah.impAt = at_ ∧ d.lah.impLeft = n
        ∧ onlyKeys [LAH.IMP_STATE.key 0 0, LAH.IMP_RESULT.key 0 0, LAH.IMP_APPLIED.key 0 0] b d))
    ∧ (∀ r v, b.flag LAH.EN = true → ∃ d : Dev, exec (.mapOriginWrite r v) s = .next { s with dev := d.busOk.finish }
      ∧ d.rd LAH.LOCKED_WRITE = 1 ∧ onlyKeys [LAH.LOCKED_WRITE.key 0 0] b d)
    ∧ (∀ r v, b.flag LAH.EN = false → b.rd LAH.MAP_W < 1024 → b.rd LAH.MAP_H < 1024 → ∃ d : Dev, ∃ m : Memory,
      exec (.mapOriginWrite r v) s = .next { s with dram := m, dev := d.busOk.finish }
      ∧ (r = .lat0 ∨ r = .lon0 ∨ r = .width ∨ r = .base → d.rd r.fld = v % 2 ^ r.fld.w) ∧ d.mapW * d.mapH ≤ 62500 ∧ (∀ x, d.mapArea.1 ≤ x → x < d.mapArea.1 + d.mapArea.2 → memRead m x = 0) ∧ onlyBytes d.mapArea.1 d.mapArea.2 s.dram m
      ∧ onlyKeys [r.fld.key 0 0, LAH.MAP_ORG_E.key 0 0, LAH.MAP_ORG_N.key 0 0, LAH.MAP_H.key 0 0, LAH.CLAMPED.key 0 0] b d)
    ∧ (∀ i, b.lahMay i = false → exec (.rateFile i) s = .next { s with dev := b.busOk.finish })
    ∧ (∀ i c, i < 8 → b.rd LAH.IMP_TYPE i ≠ 0 → b.lahMay i = true → b.lahClass = some c → b.lah.pan.length < 2048 →
        (let target := sgn 48 (b.rd LAH.IMP_RATE_MD_LO i + b.rd LAH.IMP_RATE_MD_HI i * 2 ^ 32)
         let point := target - travel (Nat.min 4000 (b.rd LAH.IMP_DELAY_RATE_MS i)) b.tmb.fused
        b.lateAt c point = false → b.slotFree c = true → (∃ k < 4096, tget? k b.tmb.slots = none) → ∃ d : Dev, ∃ k e,
        exec (.rateFile i) s = .next { s with dev := d.busOk.finish }
        ∧ tget? k b.lah.pan = none ∧ tget? k d.lah.pan = some e ∧ e.isRate = true ∧ e.who = i ∧ e.value = b.rd LAH.IMP_RATE_VAL i
        ∧ e.target = target ∧ e.issueMd = point ∧ e.issued = false ∧ tget? (e.handle % 4096) b.tmb.slots = none
        ∧ (∃ ev, tget? (e.handle % 4096) d.tmb.slots = some ev ∧ ev.target = point ∧ ev.arg = k ∧ ev.cls = c)
        ∧ ∀ j, j ≠ k → tget? j d.lah.pan = tget? j b.lah.pan))

/-- Floods (R147 to R151), raking (R145) and the prediction cycle (R135, R139, R154). -/
def Obligations.Floods : Prop :=
  (∀ s : State, let b := s.dev.begin
    b.live 4 →
    (b.lah.triggers = [] → exec .flood s = .next { s with dev := b.finish })
    ∧ (b.lah.triggers ≠ [] →
      let a := (orderTriggers b.lah.triggers).foldl FloodAcc.trigger ⟨{ b with lah := { b.lah with triggers := [] } }.rakeDue, [], []⟩
      exec .flood s = .next { s with dev := (forAll a.gone (fun p d => d.retire p.1 p.2.1 p.2.2) (forAll a.secs (fun p d => d.compensate s.dram p.1 p.2.1 p.2.2) a.d)).finish }
      ∧ (a.secs.map fun p => p.1).Pairwise (· < ·))
    ∧ ((orderTriggers b.lah.triggers).map fun t => t.cause).Pairwise (· ≤ ·)
    ∧ (b.nextRake = none → exec .panEntryRake s = .next { s with dev := b.finish })
    ∧ (∀ k e, b.nextRake = some (k, e) → ∃ d : Dev, exec .panEntryRake s = .next { s with dev := (d.rake k e).finish }
      ∧ (k, e) ∈ b.lah.pan ∧ e.issued = true ∧ (∀ p ∈ b.lah.pan, p.2.issued = true → e.effective ≤ p.2.effective)
      ∧ d = b.waitMt e.effective ∧ (b.running = true → e.effective ≤ d.mt) ∧ tget? k (d.rake k e).lah.pan = none)
    ∧ (∀ l, b.flag LAH.EN = false ∨ b.running = false → exec (.predictionCycle l) s = .next { s with dev := b.finish })
    ∧ (∀ l, b.flag LAH.EN = true → b.running = true →
      let r := ((((b.boundary 4 0).fetchTiles l s.dram).rakeDue)).importSlice s.dram
      let c := (lahFlood r.2 r.1.takeRefile).carryPose
      let p := c.poseTo c.poseState
      let q := forAll p.impls (fun i d => d.checkImpl i) p
      let f := (forAll (q.lah.pan.filter fun x => !x.2.issued) (fun x d => d.reissue x.1 x.2) q).fileAll r.2
      let d := forAll f.sections (fun n d => d.writeRate n) f
      exec (.predictionCycle l) s = .next { s with dram := (d.markAll r.2).2, dev := (d.markAll r.2).1.finish }
      ∧ onlyBytes (b.boundary 4 0).mapArea.1 (b.boundary 4 0).mapArea.2 s.dram r.2
      ∧ onlyBytes d.mapArea.1 d.mapArea.2 r.2 (d.markAll r.2).2))
  ∧ (∀ (a : FloodAcc) (t : Trigger),
      (∀ p ∈ a.d.lah.pan, t.covers p.2 = true → p.2.issued = false → ∀ v, a.d.pendingEvent p.2.handle = some v → a.d.mayIssue v = false) →
      let x := (a.trigger t).d
      x.out = a.d.out ∧ x.que = a.d.que ∧ x.points = a.d.points
      ∧ ∀ p ∈ x.lah.pan, t.covers p.2 = true → a.d.md < p.2.target → p.2.issued = true)
  ∧ (∀ (d : Dev) (m : Memory) s cause r e, causeOff cause = true → (d.compValue m s cause r e).1 = false)

/-- The rules of R137 in order, the issue point of a RIGID section (R141), rate classes (R127), marking (R139) and imports (Table 5.6). -/
def Obligations.CoverageRules : Prop :=
  (∀ (stall st : Bool) (x : Shares) (on off bnd : Nat), (coverRule false stall x on off bnd st).1 = false)
  ∧ (∀ (stall st : Bool) (x : Shares) (on off bnd : Nat), bnd * x.n ≤ 100 * x.excl → (coverRule true stall x on off bnd st).1 = false)
  ∧ (∀ (st : Bool) (x : Shares) (on off bnd : Nat), (coverRule true true x on off bnd st).1 = false)
  ∧ (∀ (x : Shares) (on off bnd : Nat), 100 * x.excl < bnd * x.n →
      ((coverRule true false x on off bnd false).1 = true ↔ on * x.n ≤ 100 * x.free)
      ∧ ((coverRule true false x on off bnd true).1 = false ↔ off * x.n ≤ 100 * x.cov))
  ∧ (∀ (d : Dev) (r : SecRec) (p : Path) (target : Int) (delay : Nat), d.trailed r.impl = false →
      d.issuePoint r p target delay = target - travel delay d.tmb.fused)
  ∧ (∀ (d : Dev) (i rate : Nat), d.rd LAH.IMP_RC_T1 i ≤ d.rd LAH.IMP_RC_T2 i → d.rd LAH.IMP_RC_T2 i ≤ d.rd LAH.IMP_RC_T3 i →
      (d.rateClass i rate = 0 ↔ rate < d.rd LAH.IMP_RC_T1 i) ∧ (d.rateClass i rate = 3 ↔ d.rd LAH.IMP_RC_T3 i ≤ rate))
  ∧ (∀ v < 16, ∀ c < 4, (markCell v c).testBit 0 = true ∧ (markCell v c).testBit 3 = v.testBit 3 ∧ markCell v c / 2 % 4 = Nat.max (v / 2 % 4) c
      ∧ importCell 0 c v = markCell v c ∧ importCell 1 c v = v % 8 + 8 ∧ importCell 2 c v = v % 8 ∧ importCell 3 c v = v / 8 * 8)

/-! Sluice transactions (chapter 6). -/

/-- Arming, preparing, committing and cancelling a group (R161 to R166, R173, R174, R178). -/
def Obligations.SluiceGroups : Prop :=
  ∀ s : State, let b := s.dev.begin
    b.live 5 → ∀ t, t < 256 → let g := b.grp t
    let loc := (b.tplEntries t false).filter fun a => decide (a.node = nodeLocal)
    (∀ c, b.armRefusal t = some c → ∃ d : Dev, exec (.sluiceArm t) s = .next { s with dev := d.busOk.finish }
      ∧ d.rd SLU.ARM_RESULT = c % 16 ∧ d.rd SLU.REFUSALS = satInc 16 (b.rd SLU.REFUSALS) ∧ d.flag SLU.EVT_REFUSED = true ∧ d.slu = b.slu
      ∧ onlyKeys [SLU.ARM_RESULT.key 0 0, SLU.REFUSALS.key 0 0, SLU.EVT_REFUSED.key 0 0] b d)
    ∧ (b.flag SLU.EN = false → b.armRefusal t = some 7)
    ∧ (b.flag SLU.EN = true → b.flag SLU.T_BUILT t = false → b.armRefusal t = some 5)
    ∧ (b.flag SLU.EN = true → b.flag SLU.T_BUILT t = true → b.flag SLU.T_COORD t = false →
        (b.tplMode t = false → b.armRefusal t = some 6)
        ∧ (b.tplMode t = true → tget? t b.slu.groups ≠ none → b.armRefusal t = some 2)
        ∧ (b.tplMode t = true → tget? t b.slu.groups = none → 32 ≤ b.slu.groups.length → b.armRefusal t = some 3)
        ∧ (b.tplMode t = true → tget? t b.slu.groups = none → b.slu.groups.length < 32 → remoteNodes (b.tplEntries t false) = [] →
            b.armRefusal t = none
            ∧ (b.armTarget false < b.mt + 20000 → exec (.sluiceArm t) s = .next { s with dev := (b.armRefuse 4).busOk.finish })
            ∧ (b.mt + 20000 ≤ b.armTarget false → ∃ d : Dev, exec (.sluiceArm t) s = .next { s with dev := d.busOk.finish }
              ∧ d.rd SLU.ARM_RESULT = 1 ∧ d.rd SLU.ARM_INSTANCE = (b.rd SLU.ARM_INSTANCE + 1) % 65536 ∧ d.rd SLU.T_STATE t = slArmed
              ∧ d.rd SLU.OPEN = b.slu.groups.length + 1 ∧ (d.grp t).commitMt = some (b.armTarget false).toNat ∧ (d.grp t).remote = false
              ∧ (d.grp t).prepMt = some (Nat.max b.mt ((b.armTarget false).toNat - 1000 * b.prepLead t))
              ∧ (∀ u, u ≠ t → tget? u d.slu.groups = tget? u b.slu.groups)
              ∧ onlyKeys [SLU.ARM_RESULT.key 0 0, SLU.ARM_INSTANCE.key 0 0, SLU.T_INSTANCE.key t 0, SLU.T_STATE.key t 0, SLU.OPEN.key 0 0] b d)))
    ∧ (∀ p, b.rd SLU.T_STATE t = slArmed → g.remote = false → g.prepFail = none → g.prepMt = some p →
      let e := (b.waitMt p).slState t slPreparing
      let f := e.localPrepare t
      (b.running = true → p ≤ f.mt) ∧ f.regs = e.regs ∧ (f.grp t).acts = b.tplEntries t false ∧ (f.grp t).comps = b.tplEntries t true
      ∧ (e.prepReason t loc = none → exec (.sluicePrepare t) s = .next { s with dev := f.finish } ∧ (f.grp t).staged = loc ∧ f.rd SLU.T_STATE t = slPreparing)
      ∧ ∀ r, e.prepReason t loc = some r → exec (.sluicePrepare t) s = .next { s with dev := (f.grpAbort t r).finish } ∧ (f.grp t).staged = g.staged)
    ∧ (∀ c, b.rd SLU.T_STATE t = slCommit ∨ (b.rd SLU.T_STATE t = slPreparing ∧ g.remote = false) → g.commitMt = some c →
      exec (.sluiceCommit t) s = .next { s with dev := (sluiceCommit t (Dev.issueAll (b.waitMt c).tmb.slots.length (b.waitMt c))).finish })
    ∧ (∀ c, b.rd SLU.T_STATE t = slPreparing → g.remote = false → g.commitMt = some c → (b.waitMt c).nextIssue = none → let e := b.waitMt c
      (b.running = true → c ≤ e.mt)
      ∧ (g.staged.all e.actPasses = true →
        exec (.sluiceCommit t) s = .next { s with dev := (((e.setGrp t { g with commitMt := some c }).actsDeliver g.staged).grpEnd t 1 0).finish })
      ∧ (g.staged.all e.actPasses = false → exec (.sluiceCommit t) s = .next { s with dev := (e.grpAbort t 12).finish }
        ∧ let d := e.grpAbort t 12
          d.lsw = b.lsw ∧ d.vdr = b.vdr ∧ d.fio = b.fio ∧ d.points = b.points))
    ∧ (∀ c, b.rd SLU.T_STATE t = slCommit → g.commitMt = some c → (b.waitMt c).nextIssue = none → let e := b.waitMt c
      let shut := g.staged.filter e.actGated
      let f := ((e.actsDeliver g.staged).setGrp t { g with
        flags := (if shut = [] then g.flags else putBit 3 true g.flags)
        staged := []
        gated := shut.map SlAct.key }).slState t slOutcome
      exec (.sluiceCommit t) s = .next { s with dev := f.finish } ∧ f.rd SLU.T_STATE t = slOutcome ∧ (f.grp t).staged = [])
    ∧ (tget? t b.slu.groups = none → exec (.sluiceCancel t) s = .next { s with dev := (b.wr SLU.CANCEL_RESULT 2).busOk.finish })
    ∧ (tget? t b.slu.groups ≠ none → b.slUndecided t = false → exec (.sluiceCancel t) s = .next { s with dev := (b.wr SLU.CANCEL_RESULT 1).busOk.finish })
    ∧ (tget? t b.slu.groups ≠ none → b.slUndecided t = true → exec (.sluiceCancel t) s = .next { s with dev := ((b.grpAbort t 5).wr SLU.CANCEL_RESULT 0).busOk.finish })
    ∧ exec .sluiceDisable s = .next { s with dev := ((b.wr SLU.EN 0).grpAbortAll (fun _ _ => true) 5).busOk.finish }

/-- The Carsil exchange as coordinator: votes, the decision, outcomes and windows (R169, R172, R173, R175, R176). -/
def Obligations.CarsilCoordinator : Prop :=
  (∀ s : State, let b := s.dev.begin
    b.live 5 →
    (∀ bs, b.carsilFor 2 bs = false → exec (.voteMsg bs) s = .next { s with dev := b.finish })
    ∧ (∀ bs, b.carsilFor 5 bs = false → exec (.outcomeMsg bs) s = .next { s with dev := b.finish })
    ∧ (∀ bs t g, b.carsilFor 2 bs = true → b.msgGroup bs = some (t, g) → ∃ d : Dev, exec (.voteMsg bs) s = .next { s with dev := d.finish }
      ∧ d.regs = b.regs
      ∧ (b.rd SLU.T_STATE t = slVoting → b.mt ≤ g.voteEnd → tget? t d.slu.groups = some (g.onNode (bs.getD 4 0) fun n => { n with vote := some (decide (bs.getD 8 0 = 1)) })
        ∧ ∀ u, u ≠ t → tget? u d.slu.groups = tget? u b.slu.groups)
      ∧ (b.rd SLU.T_STATE t ≠ slVoting ∨ g.voteEnd < b.mt → d.slu.groups = b.slu.groups))
    ∧ (∀ t, b.rd SLU.T_STATE t = slVoting → let e := b.waitMt (b.grp t).voteEnd
      (b.running = true → (b.grp t).voteEnd ≤ e.mt)
      ∧ ((b.grp t).against = none → exec (.sluiceDecide t) s = .next { s with dev := (e.slState t slCommit).finish })
      ∧ ∀ r n, (b.grp t).against = some (r, n) → exec (.sluiceDecide t) s = .next { s with dev := (e.grpAbort t r n).finish })
    ∧ (∀ bs t g n, b.carsilFor 5 bs = true → b.msgGroup bs = some (t, g) → b.rd SLU.T_STATE t = slOutcome ∨ b.rd SLU.T_STATE t = slComp →
      g.nodes.find? (fun n => decide (n.addr = bs.getD 4 0)) = some n →
      n.res = 0 → bs.getD 8 0 = 3 → ∃ d : Dev, exec (.outcomeMsg bs) s = .next { s with dev := d.finish }
      ∧ (d.grp t).nLate = g.nLate + 1 ∧ (d.grp t).blame = some (g.blame.getD (bs.getD 4 0)) ∧ d.rd SLU.T_STATE t = slComp
      ∧ d.rd SLU.LATE_NODES = satInc 16 (b.rd SLU.LATE_NODES) ∧ onlyKeys [SLU.LATE_NODES.key 0 0, SLU.T_STATE.key t 0] b d)
    ∧ (b.running = false → ∀ ends, exec (.carsilWindow ends) s = .next { s with dev := b.finish })
    ∧ (let t0 : Nat := match b.slu.window with | some w => Nat.max b.mt (w.1 + 1) | none => b.mt
      b.running = true →
      (b.carsilWindows t0 1 = [] → exec (.carsilWindow false) s = .next { s with dev := b.finish })
      ∧ (∀ w l, b.carsilWindows t0 1 = w :: l → t0 ≤ w.1 ∧ exec (.carsilWindow false) s = .next { s with dev := (b.windowStart w).finish })
      ∧ (b.slu.window = none ∨ b.slu.opened = false → exec (.carsilWindow true) s = .next { s with dev := b.finish })
      ∧ (∀ w, b.slu.window = some w → b.slu.opened = true → w.2 ≤ (b.waitMt w.2).mt
        ∧ exec (.carsilWindow true) s = .next { s with dev := (forAll (b.slu.groups.map fun (p : Nat × SlGroup) => p.1) (fun (t : Nat) (d : Dev) => d.groupWindowEnd t w.1)
            { b.waitMt w.2 with slu := { b.slu with opened := false } }).finish })))
  ∧ (∀ g : SlGroup, g.against = none ↔ g.prepFail = none ∧ ∀ n ∈ g.nodes, n.vote = some true)
  ∧ (∀ g : SlGroup, g.prepFail = none → (∀ n ∈ g.nodes, n.vote ≠ some false) → (∃ n ∈ g.nodes, n.vote = none) → ∃ n ∈ g.nodes, n.vote = none ∧ g.against = some (4, n.addr))

/-- The module as a participant (R170). -/
def Obligations.CarsilParticipant : Prop :=
  ∀ s : State, let b := s.dev.begin
    b.live 5 → ∀ bs,
    (b.carsilFor 1 bs = false → exec (.prepareMsg bs) s = .next { s with dev := b.finish })
    ∧ (b.carsilFor 3 bs = false → exec (.commitMsg bs) s = .next { s with dev := b.finish })
    ∧ (b.carsilFor 4 bs = false → exec (.abortMsg bs) s = .next { s with dev := b.finish })
    ∧ (b.carsilFor 6 bs = false → exec (.compMsg bs) s = .next { s with dev := b.finish })
    ∧ (b.carsilFor 7 bs = false → exec (.queryMsg bs) s = .next { s with dev := b.finish })
    ∧ (b.carsilFor 1 bs = true → b.partOf bs = none → bs.getD 18 0 = 128 → ∃ d : Dev, ∃ p : SlPart, exec (.prepareMsg bs) s = .next { s with dev := d.finish }
      ∧ d.partOf bs = some { p with vote := some (b.partAble p) } ∧ p.acts = actsOf (Nat.min 5 (bs.getD 19 0)) (bs.drop 24)
      ∧ p.time = leVal ((bs.drop 8).take 8) ∧ p.grace = leVal ((bs.drop 16).take 2) ∧ p.res = 0 ∧ d.regs = b.regs ∧ d.points = b.points ∧ d.out = b.out
      ∧ d.slu.tx = b.slu.tx ++ (b.carsilLinks p.src).map (fun k =>
          ⟨k, none, b.carsilHead 2 p.group p.inst p.src ++ padTo 8 [bit (b.partAble p), bit (!b.partAble p)]⟩))
    ∧ (∀ p, b.carsilFor 3 bs = true → b.partOf bs = some p → p.vote = some true → p.res = 0 → let at_ := b.mtOfNet p.time
      (b.mt ≤ at_ → (b.running = true → at_ ≤ (b.waitMt at_).mt) ∧ exec (.commitMsg bs) s = .next { s with dev := ((b.waitMt at_).partApply bs p 1).finish })
      ∧ (at_ < b.mt → b.mt < at_ + 1000 * p.grace → exec (.commitMsg bs) s = .next { s with dev := (b.partApply bs p 4).finish })
      ∧ (at_ < b.mt → at_ + 1000 * p.grace ≤ b.mt → exec (.commitMsg bs) s = .next { s with dev := b.finish }))
    ∧ (∀ p, b.carsilFor 3 bs = true → b.partOf bs = some p → p.vote ≠ some true ∨ p.res ≠ 0 → exec (.commitMsg bs) s = .next { s with dev := b.finish })
    ∧ (∀ p, b.carsilFor 4 bs = true → b.partOf bs = some p → p.res = 0 → ∃ d : Dev, exec (.abortMsg bs) s = .next { s with dev := d.finish }
      ∧ d.partOf bs = some { p with res := 2, applied := 0 } ∧ d.regs = b.regs ∧ d.points = b.points ∧ d.lsw = b.lsw ∧ d.vdr = b.vdr ∧ d.fio = b.fio)
    ∧ (b.carsilFor 6 bs = true → let e := b.actsDeliver (actsOf (Nat.min 5 (bs.getD 19 0)) (bs.drop 24))
      (∀ p, e.partOf bs = some p → 128 ≤ bs.getD 18 0 → exec (.compMsg bs) s
        = .next { s with dev := ((e.setPart bs { p with res := 5, sent := true }).carsilQueue none p.src [e.partFrame { p with res := 5, sent := true } 5]).finish })
      ∧ (e.partOf bs = none ∨ bs.getD 18 0 < 128 → exec (.compMsg bs) s = .next { s with dev := e.finish }))
    ∧ (∀ p, b.carsilFor 7 bs = true → b.partOf bs = some p → p.res ≠ 0 → ∃ d : Dev, exec (.queryMsg bs) s = .next { s with dev := d.finish }
      ∧ d.slu.tx = b.slu.tx ++ (b.carsilLinks p.src).map (fun k => ⟨k, none, b.partFrame p p.res⟩) ∧ d.regs = b.regs ∧ d.slu.parts = b.slu.parts)
    ∧ (∀ src group inst p, group < 256 → inst < 65536 → b.partOf ([0, group] ++ leBytes 2 inst ++ [src]) = some p → p.vote = some true → p.res = 0 →
      ∃ d : Dev, exec (.graceExpiry src group inst) s = .next { s with dev := d.finish }
      ∧ d.partOf ([0, group] ++ leBytes 2 inst ++ [src]) = some { p with res := 3, applied := 0 } ∧ d.regs = b.regs ∧ d.points = b.points
      ∧ d.lsw = b.lsw ∧ d.vdr = b.vdr ∧ d.fio = b.fio ∧ (b.running = true → b.mtOfNet p.time + 1000 * p.grace ≤ d.mt))

/-! The loop engine (chapter 7). -/

/-- Slot states, following-error actions, trips, resume, enables and the tick (R187, R188, R202 to R206). -/
def Obligations.LoopSlots : Prop :=
  (∀ s : State, let b := s.dev.begin
    b.live 6 →
    let sums := [CTL.RUNNING.key 0 0, CTL.NOT_RUN.key 0 0, CTL.TRIPPED.key 0 0]
    let shown : Nat → List Nat := fun n => [CTL.S_STATE.key n 0, CTL.S_REGION.key n 0, CTL.S_BLENDING.key n 0, CTL.S_I_LO.key n 0, CTL.S_I_HI.key n 0, CTL.S_GATED.key n 0]
    (∀ n < 256, b.flag CTL.EN = true → b.flag CTL.S_BUILT n = true → b.flag CTL.S_EN n = false → ∃ d : Dev,
      exec (.slotEnableWrite n true) s = .next { s with dev := d.busOk.finish }
      ∧ d.flag CTL.S_EN n = true ∧ d.lp n = { b.lp n with start := true } ∧ (∀ k, k ≠ n → d.lp k = b.lp k) ∧ onlyKeys (CTL.S_EN.key n 0 :: sums) b d)
    ∧ (∀ n < 256, (b.lp n).st ≠ lpOff → ∃ d : Dev, exec (.slotEnableWrite n false) s = .next { s with dev := d.busOk.finish }
      ∧ d.flag CTL.S_EN n = false ∧ (d.lp n).st = lpOff ∧ d.rd CTL.S_STATE n = 0 ∧ (d.lp n).out = some (b.rdS CTL.S_SAFE_VAL n, stValid)
      ∧ (∀ k, k ≠ n → d.lp k = b.lp k) ∧ onlyKeys (CTL.S_EN.key n 0 :: CTL.EVT_RELOAD.key 0 0 :: shown n ++ sums) b d)
    ∧ (∃ d : Dev, exec .loopEngineDisable s = .next { s with dev := d.busOk.finish }
      ∧ d = (forAll (b.ctl.slots.map fun p => p.1) (fun n d => d.loopToOff n) (b.wr CTL.EN 0)).loopCounts
      ∧ d.flag CTL.EN = false ∧ ∀ p ∈ b.ctl.slots, (d.lp p.1).st = lpOff)
    ∧ (∀ mask, ∃ d : Dev, exec (.ctlTrip mask) s = .next { s with dev := d.busOk.finish }
      ∧ d.regs = b.regs ∧ d.ctl.slots = b.ctl.slots ∧ ∀ g, d.ctl.trips.testBit g = (b.ctl.trips.testBit g || (decide (g < 15) && mask.testBit g)))
    ∧ (∀ n, (b.lp n).st < lpHold → exec (.resume n) s = .next { s with dev := b.busOk.finish })
    ∧ (∀ n, lpHold ≤ (b.lp n).st → b.pointLost (b.rd CTL.PV_SRC n) = true → exec (.resume n) s = .next { s with dev := (b.wr CTL.S_RESUME_REFUSED 1 n).busOk.finish })
    ∧ (∀ n, lpHold ≤ (b.lp n).st → b.pointLost (b.rd CTL.PV_SRC n) = false → ∃ d : Dev, exec (.resume n) s = .next { s with dev := d.busOk.finish }
      ∧ d.lp n = { b.lp n with start := true } ∧ d.regs = b.regs)
    ∧ (b.firing = [] → exec .feActionFire s = .next { s with dev := b.finish })
    ∧ (∀ n (l : List Nat), b.firing = n :: l → exec .feActionFire s = .next { s with dev := (b.fireAction n).loopCounts.finish })
    ∧ (∀ slots, let undone := b.ctl.before.filter fun p => slots.contains p.1
      let done := b.ctl.before.filter fun p => !slots.contains p.1
      let e := forAll undone (fun p d => d.loopUndo p.1 p.2) { b with ctl := { b.ctl with before := done } }
      ∃ g : Dev, exec (.loopOverrun slots) s = .next { s with dev := (((g.loopCounts.count CTL.OVERRUNS).cause CTL.EVT_OVERRUN).raise Flt.CTL_OVERRUN).finish }
      ∧ g.ctl = e.ctl ∧ g.raised = e.raised ∧ onlyKeys (loopCauseFields.map fun f => f.key 0 0) e g
      ∧ (∀ p ∈ (List.range 3).zip loopCauseFields, g.flag p.2 = (e.flag p.2 && (b.ctl.causesWere.testBit p.1
          || done.any (fun q => q.2.causes.testBit p.1) || !undone.any (fun q => q.2.causes.testBit p.1))))
      ∧ ((b.ctl.before.map fun p => p.1).Nodup → ∀ n ∈ slots, ∀ w, tget? n b.ctl.before = some w →
          g.lp n = { w.ch with out := some (w.ch.outPrev, if w.ch.gated then stValid + stGated else stValid) }))
    ∧ (b.running = true → exec .loopTick s = .next { s with dev := ((b.loopTickBegin.1.loopPublishAll b.loopTickBegin.2).loopRuns b.loopTickBegin.2).finish }
      ∧ (b.firing = [] → b.ctl.tick * 50000 ≤ b.loopTickBegin.1.mt ∧ b.loopTickBegin.1.regs = b.regs ∧ b.loopTickBegin.1.ctl.slots = b.ctl.slots))
    ∧ (b.running = false → exec .loopTick s = .next { s with dev := b.finish }))
  ∧ (∀ (d : Dev) (k : Nat), ∀ p ∈ d.ctl.slots, ((d.loopPublishAll k).lp p.1).out = none)
  ∧ (∀ (d : Dev) (k n : Nat) (v : Int) (st : Nat), (d.lp n).out = some (v, st) →
      ((d.loopPublish k n).lp n).out = none ∧ (d.loopPublish k n).rd CTL.S_OUT n = enc 16 v % 2 ^ 16)
  ∧ (∀ (d : Dev) (n : Nat), (d.lp n).st ≠ lpTripped → let e := d.fireAction n
      .fault Flt.CTL_FOLLOWING n ∈ e.raised
      ∧ (d.rd CTL.S_FE_ACTION n = 0 → (e.lp n).st = lpHold ∧ e.rd CTL.S_FE_COUNT n = satInc 16 (d.rd CTL.S_FE_COUNT n))
      ∧ (d.rd CTL.S_FE_ACTION n = 1 → (e.lp n).st = lpRamp ∧ e.rd CTL.S_FE_COUNT n = satInc 16 (d.rd CTL.S_FE_COUNT n))
      ∧ (d.rd CTL.S_FE_ACTION n = 2 → d.rd CTL.S_TRIP_GROUP n = 15 → (e.lp n).st = lpRamp)
      ∧ (d.rd CTL.S_FE_ACTION n = 2 → d.rd CTL.S_TRIP_GROUP n ≠ 15 → ∀ k < 256, d.flag CTL.S_BUILT k = true → d.rd CTL.S_TRIP_GROUP k = d.rd CTL.S_TRIP_GROUP n →
          (d.lp k).st = lpRun ∨ (d.lp k).st = lpHold → (e.lp k).st = lpTripped)
      ∧ (d.rd CTL.S_FE_ACTION n = 3 → (e.lp n).st = lpRamp ∧ .fault Flt.CTL_FE_SAFE n ∈ e.raised))

/-- The arithmetic and the computation of a run (R185, R191 to R202). -/
def Obligations.LoopComputation : Prop :=
  (∀ (d : Dev) (n k : Nat), 1 ≤ d.rd CTL.S_DIV n → d.rd CTL.S_PHASE n < d.rd CTL.S_DIV n →
      (d.loopDue n k = true ↔ ((d.rd CTL.S_DIV n : Nat) : Int) ∣ (k : Int) - (d.rd CTL.S_PHASE n : Nat)))
  ∧ (∀ x : Int, -(2 ^ 39) ≤ (sat40 x).1 ∧ (sat40 x).1 < 2 ^ 39 ∧ (-(2 ^ 39) ≤ x → x < 2 ^ 39 → sat40 x = (x, false)))
  ∧ (∀ a : Int, -32768 ≤ round15 a ∧ round15 a ≤ 32767 ∧ (-(2 ^ 30) + 2 ^ 14 ≤ a → a < 2 ^ 30 - 2 ^ 14 → 2 * (round15 a * 32768 - a).natAbs ≤ 32768))
  ∧ ((gmul 16384 0 (-1639)).1 = -26853376 ∧ (gmul 131 0 (-1639)).1 = -214709 ∧ (limitF 12288 (gmul (-16384) 0 20480)).1 = -335544320
      ∧ round15 (sat40 (-26853376 + 751404568 + 0 - 335544320)).1 = 11872 ∧ (limitF 12288 (gmul (-16384) 0 32767)).1 = -402653184
      ∧ (blendTerm (-26853376, false) (-16111370, false) 4 16).1 = -24167874)
  ∧ (∀ (x y : Int) (r : Nat), 0 < r → (moveToward x y r - x).natAbs ≤ r ∧ ((y - x).natAbs ≤ r → moveToward x y r = y) ∧ moveToward x y 0 = y)
  ∧ (∀ (d d0 : Dev) (n : Nat) (start gated : Bool), let o := d.loopCompute d0 n start gated
      o.e ≤ 32767 ∧ -32768 ≤ o.e ∧ o.c.outPrev = o.ul ∧ (start = false → gated = true → o.c.i = (d.lp n).i)
      ∧ (d.rd CTL.S_OUT_RATE n = 0 → d.rdS CTL.S_OUT_MIN n ≤ o.ul ∧ o.ul ≤ d.outMax n))
  ∧ (∀ (d : Dev) (n st : Nat) (gated lost : Bool) (c : LoopCh) (o : LoopOut), let r := d.loopAfter n st gated lost c o
      (st ≠ lpRun → r.i = c.i) ∧ (st = lpRun → r.i = o.c.i) ∧ r.st = st
      ∧ (st = lpRun → r.out = some (o.ul, if gated then stValid + stGated else stValid))
      ∧ (st = lpHold → r.out = some (c.outPrev, if gated then stValid + stGated else stValid)))
  ∧ (∀ (d : Dev) (n fe : Nat) (e : Int), d.rd CTL.S_FE_LIMIT n = 0 ∨ e.natAbs ≤ d.rd CTL.S_FE_LIMIT n → d.loopFe n fe e = (0, false))
  ∧ (∀ (x y : Q30) (n : Nat), 0 < n → (blendTerm x y n n).1 = (sat40 y.1).1)
  ∧ (∀ (bound : Nat → Int) (h v : Int) (r : Nat), r ≤ 7 → targetRegion bound h v r ≤ 7
      ∧ (0 ≤ h → r < targetRegion bound h v r → bound (targetRegion bound h v r) + h ≤ v))

/-! The fusion engine (chapter 8). -/

/-- Fusion instants: windows close, frames are built, dropped or skipped (R214 to R219). -/
def Obligations.FusionInstants : Prop :=
  (∀ t : Nat, t < fusInstant (nextInstant t) ∧ ∀ n, n < nextInstant t → fusInstant n ≤ t)
  ∧ (∀ s : State, s.dev.begin.live 7 → s.dev.begin.running = false → exec .fusionInstant s = .next { s with dev := s.dev.begin.finish })
  ∧ (∀ s : State, let b := s.dev.begin
      b.live 7 → b.running = true →
      let n := Nat.max (nextInstant b.mt) (b.fus.last + 1)
      let a := (b.waitMt (fusInstant n)).boundary 7 0
      let p := (a.readSensors n).2
      ∃ d : Dev, exec .fusionInstant s = .next { s with dev := d.finish }
        ∧ d.fus.last = n ∧ d.points = b.points ∧ onlyBlocks [7] b d
        ∧ (a.flag FUS.EN = false ∨ a.fusBuilt = false → d.fus.build = b.fus.build ∧ d.raised = b.raised)
        ∧ (a.flag FUS.EN = true → a.fusBuilt = true → b.fus.build ≠ none →
            d.fus.build = b.fus.build ∧ d.rd FUS.CNT_SKIPPED = satInc 16 (a.rd FUS.CNT_SKIPPED) ∧ d.flag FUS.EVT_SKIPPED = true
            ∧ d.fus.prevLost = true ∧ .fault Flt.FUS_FRAME_LOST 0 ∈ d.raised)
        ∧ (a.flag FUS.EN = true → a.fusBuilt = true → b.fus.build = none → (a.presentFrames n).length < a.minCameras →
            d.fus.build = none ∧ d.rd FUS.CNT_DROPPED = satInc 16 (a.rd FUS.CNT_DROPPED) ∧ d.flag FUS.EVT_DROPPED = true
            ∧ d.fus.prevLost = true ∧ .fault Flt.FUS_FRAME_LOST 0 ∈ d.raised)
        ∧ (a.flag FUS.EN = true → a.fusBuilt = true → b.fus.build = none → a.minCameras ≤ (a.presentFrames n).length →
            (∃ x : FusBuild, d.fus.build = some x ∧ x.n = n ∧ x.cams = a.presentFrames n ∧ x.prevLost = b.fus.prevLost)
            ∧ d.flag FUS.BUILDING = true ∧ d.rd FUS.CNT_DROPPED = a.rd FUS.CNT_DROPPED ∧ d.fus.prevLost = false)
        ∧ p.length ≤ 16 ∧ fusInstant n ≤ a.mt)
  ∧ (∀ (d : Dev) (c n : Nat) (f : CamFrame), d.presentFrame c n = some f →
      f ∈ d.fus.frames ∧ f.cam = c ∧ d.frameOf f.capture = n
      ∧ ∀ g ∈ d.fus.frames, g.cam = c → d.frameOf g.capture = n → g.capture ≤ f.capture)
  ∧ (∀ (d : Dev) (c n : Nat), d.presentFrame c n = none → ∀ g ∈ d.fus.frames, g.cam = c → d.frameOf g.capture ≠ n)
  ∧ (∀ (d : Dev) (f : CamFrame), d.powered 7 = true → d.flag FUS.CAM_BUILT f.cam = true → d.flag FUS.EN = true →
      (d.frameOf f.capture ≤ d.fus.last → (d.fusFrame f).fus = d.fus
        ∧ (d.fusFrame f).rd FUS.CNT_FUS_LATE = satInc 32 (d.rd FUS.CNT_FUS_LATE) ∧ (d.fusFrame f).flag FUS.EVT_LATE = true)
      ∧ (d.fus.last < d.frameOf f.capture → (d.fusFrame f).fus.frames = d.fus.frames ++ [f] ∧ (d.fusFrame f).regs = d.regs))

/-- Publication: output item, head maps, registers, taps (R218, R226, R228, R233). -/
def Obligations.FramePublication : Prop :=
  (∀ (s : State) (busy : List Nat), let b := s.dev.begin
    b.live 7 →
    (b.fus.build = none → exec (.frameBuildComplete busy) s = .next { s with dev := b.finish })
    ∧ (∀ x, b.fus.build = some x → ∃ d : Dev, ∃ m : Memory,
        exec (.frameBuildComplete busy) s = .next { s with dram := m, dev := d.finish }
        ∧ d.fus.build = none ∧ d.fus.seq = (b.fus.seq + 1) % 65536 ∧ d.rd FUS.SEQ = (b.fus.seq + 1) % 65536
        ∧ d.fus.buf = (b.fus.buf + 1) % 4 ∧ d.flag FUS.EVT_PUBLISHED = true ∧ d.flag FUS.BUILDING = false
        ∧ d.rd FUS.CAM_PRESENT = maskOf (x.cams.map fun f => f.cam) % 256
        ∧ d.rd FUS.OUT_MT_LO = b.mt % 2 ^ 32
        ∧ (∃ r, d.fus.ref = some (x.n, r) ∧ r.length = 176 * 144 * 8)
        ∧ ((∀ f ∈ x.cams, b.rd FUS.CAM_TAP_KIND f.cam = 0) → let base := b.rd FUS.OUT_BASE * 4096 + b.fus.buf * 0x81000
            onlyBytes base (64 + 4 * 131072) s.dram m
              ∧ (memRead m base).toNat = (b.fus.seq + 1) % 65536 % 256 ∧ (b.fus.buf < 256 → (memRead m (base + 2)).toNat = b.fus.buf))))
  ∧ (∀ (d : Dev) (grid : List Int) (n : Nat), d.flag FUS.EGO_EN = false → d.ego grid n = ⟨4, 0, 0, 0⟩)
  ∧ (∀ (d : Dev) (grid : List Int) (n : Nat), d.flag FUS.EGO_EN = true → d.fus.ref = none → d.ego grid n = ⟨5, 0, 0, 0⟩)
  ∧ (∀ seq buf flags cams pts mt e, (outputItem seq buf flags cams pts mt e).length = 32)
  ∧ (∀ d : Dev, ∀ v : Nat, ∀ maps, (d.rd FUS.BAND_REDUCE v ≠ 3 → d.bandValue v maps ≤ 32767 ∧ -32768 ≤ d.bandValue v maps))

/-- The arithmetic of the grid and of ego-motion (R221 to R223, R230, R231). -/
def Obligations.GridAndEgoArithmetic : Prop :=
  (∀ (bias : List Int) (cams : List CamPart) (pts : List PtPart) (g k : Nat), -32768 ≤ bias.getD k 0 → bias.getD k 0 ≤ 32767 →
      let a := accCell bias cams pts g k
      a.1 ≤ 32767 ∧ -32768 ≤ a.1
      ∧ ((∀ c ∈ cams, c.table.getD g 0 < 2 ^ 24) → (∀ p ∈ pts, g / 256 < p.row0 ∨ p.row1 < g / 256 ∨ g % 256 < p.col0 ∨ p.col1 < g % 256) →
          a = (bias.getD k 0, false)))
  ∧ (∀ (qm : List Nat) (acc : Int) (k : Nat), gridByte qm acc k ≤ 127 ∧ -128 ≤ gridByte qm acc k)
  ∧ (divAway (96 * 80 * 64) 8192 = 60 ∧ divAway (-40 * 48 * 64) 8192 = -15 ∧ gridByte [49152] 35 0 = 26 ∧ gridByte [49152] 50 0 = 38
      ∧ gridByte [49152] (-10) 0 = -8)
  ∧ (∀ s : List Int, egoPeak s < 49 * 17 ∧ (∀ a < 49 * 17, s.getD a 0 ≤ s.getD (egoPeak s) 0) ∧ ∀ a < egoPeak s, s.getD a 0 < s.getD (egoPeak s) 0)
  ∧ (∀ s1 s2 : Int, (s1 ≤ 0 → egoQuality s1 s2 = 0) ∧ (0 ≤ s2 → egoQuality s1 s2 ≤ 255) ∧ (0 < s1 → s2 = 0 → egoQuality s1 s2 = 255)
      ∧ (s1 = s2 → egoQuality s1 s2 = 0))
  ∧ (∀ q o : Nat, egoShown q o ≤ 255 ∧ (q ≤ 255 → egoShown q o = q))
  ∧ (∀ a b c : Int, egoRefine a b c ≤ 32 ∧ -32 ≤ egoRefine a b c)
  ∧ (∀ (s : List Int) (dt minQ o : Nat), (egoFrom s dt minQ o).cause = 0 →
      minQ ≤ egoQuality (scoreAt s (egoPeak s / 17) (egoPeak s % 17)) (egoSecond s (egoPeak s / 17) (egoPeak s % 17)) ∧ dt ≤ 100000000 ∧ 1 ≤ egoPeak s / 17 ∧ egoPeak s / 17 ≤ 47 ∧ 1 ≤ egoPeak s % 17 ∧ egoPeak s % 17 ≤ 15)
  ∧ (∀ (s : List Int) (dt minQ o : Nat), (egoFrom s dt minQ o).cause ≠ 0 → (egoFrom s dt minQ o).speed = 0)

/-! The image pipeline (chapter 9). -/

/-- Frames: start, lines, end, enables (R236, R239, R241, R242, R244, R253, R257). -/
def Obligations.CameraFrames : Prop :=
  (∀ (c status feMt : Nat) (f : IspFrame), (f.descriptor c status feMt).length = 64 ∧ (f.descriptor c status feMt).getD 5 0 = status)
  ∧ ∀ (s : State) (port vc : Nat), let b := s.dev.begin
    let c := 4 * port + vc
    b.live 8 → port < 2 → vc < 16 →
    (b.flag ISP.P_LINK_UP port = false →
      (∀ fn hdr, exec (.frameStart port vc ⟨fn, hdr⟩) s = .next { s with dev := b.finish })
      ∧ (∀ hdr, exec (.frameEnd port vc hdr) s = .next { s with dev := b.finish })
      ∧ (∀ dt hdr after crcOk px, exec (.lineMsg port vc dt hdr after crcOk px) s = .next { s with dev := b.finish }))
    ∧ (b.flag ISP.P_LINK_UP port = true →
      (∀ fn, exec (.frameStart port vc ⟨fn, 2⟩) s = .next { s with dev := (b.count ISP.P_ECC_UNCORR port).finish })
      ∧ exec (.frameEnd port vc 2) s = .next { s with dev := (b.count ISP.P_ECC_UNCORR port).finish }
      ∧ (∀ hdr, hdr < 2 → let h := b.headerEcc port hdr
        h.rd ISP.P_ECC_CORR port = (if hdr = 1 then satInc 16 (b.rd ISP.P_ECC_CORR port) else b.rd ISP.P_ECC_CORR port)
        ∧ onlyKeys [ISP.P_ECC_CORR.key port 0] b h
        ∧ (4 ≤ vc → (∀ fn, exec (.frameStart port vc ⟨fn, hdr⟩) s = .next { s with dev := (h.discardPacket port).finish })
          ∧ exec (.frameEnd port vc hdr) s = .next { s with dev := (h.discardPacket port).finish }
          ∧ (h.discardPacket port).rd ISP.P_DISCARDED port = satInc 16 (b.rd ISP.P_DISCARDED port)
          ∧ onlyKeys [ISP.P_DISCARDED.key port 0] h (h.discardPacket port)
          ∧ ∀ dt after crcOk px, let q := ((b.packet port after (px.length * (10 + 2 * b.rd ISP.C_DT c))).headerEcc port hdr).ispDrain
            exec (.lineMsg port vc dt hdr after crcOk px) s = .next { s with dev := (q.discardPacket port).finish }
            ∧ (q.discardPacket port).rd ISP.P_DISCARDED port = satInc 16 (b.rd ISP.P_DISCARDED port))
        ∧ (vc < 4 → b.flag ISP.EN = true → b.flag ISP.C_EN c = true → b.flag ISP.C_BUILT c = true →
          (∀ fn, fn < 65536 → b.tooFast c = true →
            let d := ((h.setCam c { h.cam c with discarding := true }).count ISP.C_TOO_FAST c).cause ISP.EVT_TOO_FAST
            exec (.frameStart port vc ⟨fn, hdr⟩) s = .next { s with dev := d.finish }
            ∧ d.rd ISP.C_FRAME_NO c = b.rd ISP.C_FRAME_NO c ∧ (d.cam c).frame = (b.cam c).frame
            ∧ d.rd ISP.C_TOO_FAST c = satInc 16 (b.rd ISP.C_TOO_FAST c) ∧ d.flag ISP.EVT_TOO_FAST = true)
          ∧ (∀ fn, fn < 65536 → b.tooFast c = false → let a := h.closeIncomplete c s.dram
            let g := h.frameStart c fn s.dram
            exec (.frameStart port vc ⟨fn, hdr⟩) s = .next { s with dram := g.2, dev := g.1.finish }
            ∧ ((b.cam c).frame = none → a = (h, s.dram))
            ∧ (∀ f, (b.cam c).frame = some f → a.1.rd ISP.C_INCOMPLETE c = satInc 16 (b.rd ISP.C_INCOMPLETE c) ∧ a.1.flag ISP.EVT_INCOMPLETE = true
              ∧ a.2 = f.tapDescriptor c 2 0 (memWriteBytes s.dram f.addr (f.descriptor c 2 0)))
            ∧ ∃ f : IspFrame, (g.1.cam c).frame = some f
              ∧ f.no = (((a.1.boundary 8 0).boundary 8 (c + 1)).rd ISP.C_FRAME_NO c + 1) % 2 ^ 32 ∧ f.fsMt = b.mt ∧ f.lines = []
              ∧ f.missing = false ∧ f.replaced = 0 ∧ f.set = ((a.1.boundary 8 0).boundary 8 (c + 1)).camSet c
              ∧ g.2 = f.tapDescriptor c 0 0 (memWriteBytes a.2 f.addr (f.descriptor c 0 0))
              ∧ (g.1.cam c).lastFs = some b.now ∧ g.1.rd ISP.C_FRAME_NO c = f.no ∧ g.1.rd ISP.C_SENSOR_FN c = fn
              ∧ g.1.flag ISP.EVT_FRAME_START = true ∧ onlyBlocks [8] b g.1)
          ∧ (∀ dt after crcOk px f, b.typeOk c dt = true → (b.cam c).frame = some f → (b.cam c).discarding = false →
            let g := lineReceived port vc dt hdr after crcOk px s.dram b
            let q := ((b.packet port after (px.length * (10 + 2 * b.rd ISP.C_DT c))).headerEcc port hdr).ispDrain
            exec (.lineMsg port vc dt hdr after crcOk px) s = .next { s with dram := g.2, dev := g.1.finish }
            ∧ (∀ t, tget? port b.isp.packetAt = some t → t + after ≤ g.1.now
              ∧ t + ceilDiv (px.length * (10 + 2 * b.rd ISP.C_DT c) * 1000) (gearRate (b.rd ISP.P_GEAR port)) ≤ g.1.now)
            ∧ (f.tap = none → g.2 = s.dram) ∧ (∀ a pt, f.tap = some (a, pt) → onlyBytes a 64 s.dram g.2)
            ∧ onlyKeys [ISP.P_ECC_CORR.key port 0, ISP.C_OVERFLOW.key c 0, ISP.C_DAMAGED.key c 0, ISP.C_LONG.key c 0, ISP.C_TAP_SKIPS.key c 0,
                ISP.EVT_OVERFLOW.key 0 0, ISP.EVT_DAMAGED.key 0 0, ISP.EVT_TAP_SKIPPED.key 0 0] b g.1
            ∧ ∃ k : IspFrame, (g.1.cam c).frame = some k ∧ k.no = f.no ∧ k.addr = f.addr ∧ k.set = f.set
              ∧ (f.set.h ≤ f.lines.length → k.long = true ∧ k.lines = f.lines
                ∧ g.1.rd ISP.C_LONG c = (if f.long then b.rd ISP.C_LONG c else satInc 16 (b.rd ISP.C_LONG c)))
              ∧ (f.lines.length < f.set.h → 16 ≤ linesOf c (tget port q.isp.stores) →
                k.missing = true ∧ k.lines = f.lines ∧ g.1.rd ISP.C_OVERFLOW c = satInc 16 (b.rd ISP.C_OVERFLOW c))
              ∧ (f.lines.length < f.set.h → linesOf c (tget port q.isp.stores) < 16 → crcOk = false ∨ px.length ≠ f.set.w →
                k.lines = none :: f.lines ∧ k.replaced = f.replaced + 1 ∧ g.1.rd ISP.C_DAMAGED c = satInc 16 (b.rd ISP.C_DAMAGED c))
              ∧ (f.lines.length < f.set.h → linesOf c (tget port q.isp.stores) < 16 → crcOk = true → px.length = f.set.w →
                k.lines = some px :: f.lines ∧ k.replaced = f.replaced ∧ k.missing = f.missing))
          ∧ ((b.cam c).discarding = true →
            exec (.frameEnd port vc hdr) s = .next { s with dev := (h.setCam c { h.cam c with discarding := false }).finish })
          ∧ ((b.cam c).discarding = false → (b.cam c).frame = none → exec (.frameEnd port vc hdr) s = .next { s with dev := h.finish })
          ∧ (∀ f, (b.cam c).discarding = false → (b.cam c).frame = some f → f.missing = true ∨ f.lines.length < f.set.h →
            let g := h.closeIncomplete c s.dram
            exec (.frameEnd port vc hdr) s = .next { s with dram := g.2, dev := g.1.finish }
            ∧ g.2 = f.tapDescriptor c 2 0 (memWriteBytes s.dram f.addr (f.descriptor c 2 0)) ∧ (g.1.cam c).frame = none
            ∧ g.1.rd ISP.C_INCOMPLETE c = satInc 16 (b.rd ISP.C_INCOMPLETE c) ∧ g.1.flag ISP.EVT_INCOMPLETE = true ∧ g.1.fus = b.fus
            ∧ onlyKeys [ISP.C_INCOMPLETE.key c 0, ISP.EVT_INCOMPLETE.key 0 0] h g.1)
          ∧ (∀ f, (b.cam c).discarding = false → (b.cam c).frame = some f → f.missing = false → f.set.h ≤ f.lines.length →
            let g := h.frameComplete c f s.dram
            exec (.frameEnd port vc hdr) s = .next { s with dram := g.2, dev := g.1.finish }
            ∧ (g.1.cam c).frame = none ∧ g.1.flag ISP.EVT_FRAME_DONE = true ∧ g.1.rd ISP.C_INCOMPLETE c = b.rd ISP.C_INCOMPLETE c))))
    ∧ (vc < 4 → let g := (b.wr ISP.C_EN 0 c).closeIncomplete c s.dram
      exec (.cameraEnWrite (some c) false) s = .next { s with dram := g.2, dev := g.1.busOk.finish }
      ∧ g.1.flag ISP.C_EN c = false ∧ (g.1.cam c).frame = none
      ∧ (∀ f, (b.cam c).frame = some f → g.1.rd ISP.C_INCOMPLETE c = satInc 16 (b.rd ISP.C_INCOMPLETE c))
      ∧ onlyKeys [ISP.C_EN.key c 0, ISP.C_INCOMPLETE.key c 0, ISP.EVT_INCOMPLETE.key 0 0] b g.1)
    ∧ (vc < 4 → b.flag ISP.C_EN c = false → let d := (b.wr ISP.C_EN 1 c).wr ISP.C_FRAME_NO 0 c
      exec (.cameraEnWrite (some c) true) s = .next { s with dev := d.busOk.finish } ∧ d.flag ISP.C_EN c = true ∧ d.rd ISP.C_FRAME_NO c = 0)
    ∧ (let g := (b.wr ISP.EN 0).closeAll (List.range 8) s.dram
      exec (.cameraEnWrite none false) s = .next { s with dram := g.2, dev := g.1.busOk.finish }
      ∧ g.1.flag ISP.EN = false ∧ ∀ k < 8, (g.1.cam k).frame = none)
    ∧ exec (.cameraEnWrite none true) s = .next { s with dev := (b.wr ISP.EN 1).busOk.finish }

/-- Camera ports: links, power over coax, frame sync, the I2C tunnel (R240, R243, R258). -/
def Obligations.CameraPorts : Prop :=
  ∀ (s : State) (p : Nat), let b := s.dev.begin
    b.live 8 → p < 2 →
    (b.flag ISP.P_LINK_UP p = true → ∃ d : Dev, ∃ m : Memory, exec (.linkDown p) s = .next { s with dram := m, dev := d.finish }
      ∧ d.flag ISP.P_LINK_UP p = false ∧ d.flag ISP.EVT_LINK_LOST = true ∧ (∀ c ∈ portCams p, (d.cam c).frame = none)
      ∧ tget? p d.isp.downAt = some b.now ∧ onlyBlocks [8] b d
      ∧ ((∀ c ∈ portCams p, (b.cam c).frame = none) → m = s.dram ∧ d.rd ISP.P_LINK_DROPS p = b.rd ISP.P_LINK_DROPS p)
      ∧ (∀ c ∈ portCams p, (b.cam c).frame ≠ none → d.rd ISP.P_LINK_DROPS p = satInc 16 (b.rd ISP.P_LINK_DROPS p)))
    ∧ (∀ t, b.flag ISP.P_LINK_UP p = false → tget? p b.isp.downAt = some t → ∃ d : Dev,
      exec (.camLinkLost p) s = .next { s with dev := d.finish } ∧ t + 100 * ms ≤ d.now ∧ d.raised = b.raised ++ [.fault Flt.CAM_LINK_LOST p] ∧ d.regs = b.regs)
    ∧ (∃ d : Dev, exec (.cameraLinkUp p) s = .next { s with dev := d.finish } ∧ d.flag ISP.P_LINK_UP p = true ∧ tget? p d.isp.downAt = none
      ∧ d.raised = b.raised ++ [.recover Flt.CAM_LINK_LOST p] ∧ onlyKeys [ISP.P_LINK_UP.key p 0, ISP.CP0_UP.key 0 0, ISP.CP1_UP.key 0 0] b d)
    ∧ (b.flag ISP.P_POC_EN p = true → b.flag ISP.P_POC_TRIP p = false → ∃ d : Dev, exec (.pocTrip p) s = .next { s with dev := d.finish }
      ∧ d.flag ISP.P_POC_TRIP p = true ∧ d.flag ISP.EVT_POC_TRIP = true ∧ d.out = b.out ++ [.pin 1 p 0] ∧ .fault Flt.CAM_POWER p ∈ d.raised
      ∧ onlyKeys [ISP.P_POC_TRIP.key p 0, ISP.EVT_POC_TRIP.key 0 0] b d)
    ∧ (b.flag ISP.P_POC_EN p = false → ∃ d : Dev, exec (.pocEnWrite p true) s = .next { s with dev := d.busOk.finish }
      ∧ d.flag ISP.P_POC_EN p = true ∧ d.flag ISP.P_POC_TRIP p = false ∧ d.out = b.out ++ [.pin 1 p 1]
      ∧ onlyKeys [ISP.P_POC_EN.key p 0, ISP.P_POC_TRIP.key p 0] b d)
    ∧ (b.flag ISP.P_POC_EN p = true → ∃ d : Dev, exec (.pocEnWrite p false) s = .next { s with dev := d.busOk.finish }
      ∧ d.flag ISP.P_POC_EN p = false ∧ d.out = b.out ++ [.pin 1 p 0] ∧ onlyKeys [ISP.P_POC_EN.key p 0] b d)
    ∧ (b.running = true → b.flag ISP.P_FSYNC_EN p = true → b.rd ISP.P_FSYNC_OFS_US p ≤ 33333 → ∃ d : Dev, ∃ n : Nat,
      exec (.fsyncTrigger p) s = .next { s with dev := d.finish } ∧ d.out = b.out ++ [.pin 2 p 1]
      ∧ b.mt < fusInstant n - 1000 * b.rd ISP.P_FSYNC_OFS_US p ∧ (∀ k < n, fusInstant k ≤ b.mt + 1000 * b.rd ISP.P_FSYNC_OFS_US p)
      ∧ d = (b.waitMt (fusInstant n - 1000 * b.rd ISP.P_FSYNC_OFS_US p)).emit (.pin 2 p 1)
      ∧ fusInstant n - 1000 * b.rd ISP.P_FSYNC_OFS_US p ≤ d.mt ∧ d.regs = b.regs)
    ∧ (b.rd ISP.P_I2C_STATE p ≠ 1 → ∃ d : Dev, exec (.i2cGo p) s = .next { s with dev := d.busOk.finish }
      ∧ d.rd ISP.P_I2C_STATE p = 1 ∧ onlyKeys [ISP.P_I2C_STATE.key p 0] b d
      ∧ d.out = b.out ++ [.i2c p (b.rd ISP.P_I2C_ADDR p) (b.flag ISP.P_I2C_READ p) (b.rd ISP.P_I2C_REG p) (b.rd ISP.P_I2C_DATA p)])
    ∧ (b.rd ISP.P_I2C_STATE p = 1 → exec (.i2cGo p) s = .next { s with dev := b.busOk.finish }
      ∧ (∀ byte, byte < 256 → ∃ d : Dev, exec (.i2cDone p true byte) s = .next { s with dev := d.finish } ∧ d.rd ISP.P_I2C_STATE p = 2
        ∧ d.rd ISP.P_I2C_DATA p = (if b.flag ISP.P_I2C_READ p then byte else b.rd ISP.P_I2C_DATA p)
        ∧ onlyKeys [ISP.P_I2C_STATE.key p 0, ISP.P_I2C_DATA.key p 0] b d)
      ∧ (∀ byte, ∃ d : Dev, exec (.i2cDone p false byte) s = .next { s with dev := d.finish } ∧ d.rd ISP.P_I2C_STATE p = 3
        ∧ onlyKeys [ISP.P_I2C_STATE.key p 0] b d))

/-- The processing chain (Table 9.3, R245 to R249, R255). -/
def Obligations.ImageProcessing : Prop :=
  (rdiv ((16384 - 4096) * 65535) (65535 - 4096) = 13107 ∧ rdiv (13107 * 5120) 4096 = 16384 ∧ rdiv (16384 * 7168) 4096 = 28672
    ∧ divAway (6144 * 28672 + -1536 * 30000 + -512 * 24000) 4096 = 28758
    ∧ toneOut ((List.range 257).map fun k => 255 * k) 28758 = 112)
  ∧ (∀ (s : CamSet) (p : Plane) (x y : Nat), Plane.at (stage2 s p) x y ≤ 65535 ∧ Plane.at (stage5 s p) x y ≤ 65535
      ∧ Plane.at (stage1 s p) x y < 65536 ∧ (s.shading = true → Plane.at (stage4 s p) x y ≤ 65535) ∧ (s.shading = false → stage4 s p = p))
  ∧ (∀ (s : CamSet) (l : List Plane) (k x y : Nat), rgbAt (stage7 s l) k x y ≤ 65535)
  ∧ (∀ (t : List Nat) (v : Nat), toneOut t v ≤ 255)
  ∧ (toneOut ((List.range 257).map fun k => 255 * k) 0 = 0 ∧ toneOut ((List.range 257).map fun k => 255 * k) 65535 = 255)
  ∧ (∀ n x : Nat, x < n → 5 ≤ n → lower x 2 < n ∧ upper n x 2 < n ∧ (2 ≤ x → lower x 2 = x - 2) ∧ (x < 2 → lower x 2 = x + 2)
      ∧ (x + 2 < n → upper n x 2 = x + 2) ∧ (n ≤ x + 2 → upper n x 2 = x - 2))
  ∧ (∀ (s : CamSet) (p : Plane) (x y : Nat), x < s.w → y < s.h → s.staticEn = false → s.dynEn = false → Plane.at (stage3 s p) x y = Plane.at p x y)
  ∧ (∀ a b c e : Nat, Nat.min (Nat.min a b) (Nat.min c e) ≤ midMean a b c e ∧ midMean a b c e ≤ Nat.max (Nat.max a b) (Nat.max c e))
  ∧ (∀ (n x : Nat), 2 ≤ n → x < n → (shadeAxis n x).1 ≤ 15 ∧ (shadeAxis n x).2 ≤ 4096)
  ∧ (∀ (d : Dev) (c : Nat), d.tapPoint c ≤ d.rd ISP.C_TAP_MAX c ∧ (5 ≤ d.rd ISP.C_TAP_POINT c → d.tapPoint c = 0)
      ∧ (d.rd ISP.C_TAP_POINT c ≤ 4 → d.rd ISP.C_TAP_POINT c ≤ d.rd ISP.C_TAP_MAX c → d.tapPoint c = d.rd ISP.C_TAP_POINT c))

/-! The GNSS baseband (chapter 10). -/

/-- Epochs and the external solution (R260, R263, R265, R266, R269, R270). -/
def Obligations.GnssEpochs : Prop :=
  (∀ was seen (l : List GnssSig) (a1 : Bool), (allocate was seen l a1).1.length ≤ 128
      ∧ (∀ t ∈ (allocate was seen l a1).1, t ∈ l ∧ t.category l < 3 ∧ (t.ant ≠ 0 → a1 = true ∧ onAnt0 (allocate was seen l a1).1 t = true)))
  ∧ (∀ (l : List GnssSig) (a1 : Bool), ∀ x ∈ l, x.category l < 2 → x ∉ (allocate [] none l a1).1 → ∀ t ∈ (allocate [] none l a1).1, t.ant = 0)
  ∧ (∀ l : List GnssSig, fixOf l ≤ 2 ∧ (fixOf l ≠ 0 → 3 + (l.map fun x => x.constel).eraseDups.length ≤ (l.map fun x => x.sat).eraseDups.length))
  ∧ (∀ s : State, let b := s.dev.begin
    b.live 9 →
    (∀ sigs sol, b.flag GNS.EN = true → b.running = true → let t := b.nextEpoch sol
      let e := (b.waitUntil (b.now + (t - b.receiverClock sol))).boundary 9 0
      let d := e.epoch sigs sol t
      let now := (allocate b.gns.tracked b.gns.seen sigs (e.flag GNS.ANT1_EN)).1
      let fix := fixOf (now.filter e.sigEnters)
      exec (.gnssEpoch sigs sol) s = .next { s with dev := d.finish }
        ∧ b.receiverClock sol ≤ t ∧ b.now + (t - b.receiverClock sol) ≤ d.now
        ∧ ((∀ l, b.gns.last = some l → l.clock % b.epochPeriod = 0) → t % b.epochPeriod = 0)
        ∧ d.gns.seq = (b.gns.seq + 1) % 65536
        ∧ (∃ f, d.gns.last = some f ∧ f.seq = d.gns.seq ∧ f.mt = e.mt ∧ f.fix = fix ∧ f.clock = t
          ∧ (e.flag GNS.POS_SRC = true → d.gns.awaiting = b.gns.awaiting ++ [f]))
        ∧ d.rd GNS.FIX = fix ∧ (d.flag GNS.TIME_VALID = true ↔ 0 < fix) ∧ d.rd GNS.TRACKING = now.length ∧ d.gns.tracked = now.map GnssSig.name
        ∧ (0 < e.rd GNS.FIX → fix = 0 → d.flag GNS.EVT_FIX_LOST = true ∧ d.rd GNS.FIX_LOSSES = satInc 16 (e.rd GNS.FIX_LOSSES)
            ∧ .fault Flt.GNSS_FIX_LOST 0 ∈ d.raised)
        ∧ (e.rd GNS.FIX = 0 → 0 < fix → d.flag GNS.EVT_FIX_GAINED = true)
        ∧ (0 < fix → .recover Flt.GNSS_FIX_LOST 0 ∈ d.raised))
    ∧ (∀ sigs sol, b.flag GNS.EN = false → ∃ d : Dev, exec (.gnssEpoch sigs sol) s = .next { s with dev := d.finish }
        ∧ d.gns.tracked = [] ∧ d.rd GNS.TRACKING = 0 ∧ d.rd GNS.FIX = 0 ∧ d.flag GNS.TIME_VALID = false ∧ d.gns.seq = b.gns.seq ∧ onlyBlocks [9] b d)
    ∧ (∀ sigs sol, b.flag GNS.EN = true → b.running = false → exec (.gnssEpoch sigs sol) s = .next { s with dev := (b.boundary 9 0).finish })
    ∧ (b.flag GNS.POS_SRC = false → exec .extGo s = .next { s with dev := b.busOk.finish })
    ∧ (∀ f l, b.flag GNS.POS_SRC = true → b.gns.awaiting.getLast? = some f → b.gns.last = some l → l.seq = f.seq → f.seq = b.rd GNS.EXT_SEQ →
        b.mt ≤ f.mt + b.extTmo → exec .extGo s = .next { s with dev := (b.extTake f).busOk.finish }
        ∧ (∀ g ∈ (b.extTake f).gns.awaiting, g.seq ≠ f.seq) ∧ (b.extTake f).flag GNS.EVT_EXT_LATE = b.flag GNS.EVT_EXT_LATE)
    ∧ (b.flag GNS.POS_SRC = true → (¬ ∃ f l, b.gns.awaiting.getLast? = some f ∧ b.gns.last = some l ∧ l.seq = f.seq ∧ f.seq = b.rd GNS.EXT_SEQ
          ∧ b.mt ≤ f.mt + b.extTmo) →
        exec .extGo s = .next { s with dev := (b.cause GNS.EVT_EXT_LATE).busOk.finish } ∧ (b.cause GNS.EVT_EXT_LATE).flag GNS.EVT_EXT_LATE = true)
    ∧ (b.gns.awaiting = [] → exec .extSolutionTimeout s = .next { s with dev := b.finish })
    ∧ (∀ f rest, b.gns.awaiting = f :: rest → let e := { b.waitMt (f.mt + b.extTmo) with gns := { b.gns with awaiting := rest } }
        (b.running = true → f.mt + b.extTmo ≤ e.mt)
        ∧ (b.flag GNS.EXT_FALLBACK = true → exec .extSolutionTimeout s = .next { s with dev := (e.internalPose f).finish })
        ∧ (b.flag GNS.EXT_FALLBACK = false → exec .extSolutionTimeout s = .next { s with dev := e.finish } ∧ e.lah = b.lah ∧ e.regs = b.regs)))

/-- PPS, antennas and the hot-start store (R262, R271 to R275). -/
def Obligations.PpsAndAntennas : Prop :=
  (∀ s : State, let b := s.dev.begin
    b.live 9 →
    (∀ sec q mt, b.mt + 100 * ms ≤ mt → b.flag GNS.EN = true → b.flag GNS.TIME_VALID = true → ∃ d : Dev, exec (.ppsQerrPublish sec q mt) s = .next { s with dev := d.finish }
      ∧ d.rd GNS.PPS_QERR = enc 32 q % 2 ^ 32 ∧ d.rd GNS.PPS_EDGE = sec % 2 ^ 32 ∧ d.gns = { b.gns with edge := some (sec, q, mt) })
    ∧ (∀ sec q mt, mt < b.mt + 100 * ms ∨ b.flag GNS.EN = false ∨ b.flag GNS.TIME_VALID = false →
      exec (.ppsQerrPublish sec q mt) s = .next { s with dev := b.finish })
    ∧ (b.gns.edge = none → exec .ppsEdge s = .next { s with dev := b.finish })
    ∧ (∀ sec q mt, b.gns.edge = some (sec, q, mt) → ∃ d : Dev, exec .ppsEdge s = .next { s with dev := d.finish }
      ∧ d.gns.edge = none ∧ (b.running = true → mt ≤ d.mt)
      ∧ (b.flag GNS.TIME_VALID = false → d.flag GNS.EVT_PPS_MISSED = true ∧ d.out = b.out ∧ onlyKeys [GNS.EVT_PPS_MISSED.key 0 0] b d)
      ∧ (b.flag GNS.TIME_VALID = true → d.gns.gap = false
          ∧ (b.rd GNS.PPS_MODE = 0 → d.out = b.out)
          ∧ (b.rd GNS.PPS_MODE ≠ 0 → d.out = b.out ++ [.pin 0 (clampN 1 500 (b.rd GNS.PPS_WIDTH_MS)) 1])))
    ∧ (∀ t, b.gns.lastPin = some t → b.rd GNS.PPS_MODE = 2 → b.flag GNS.TIME_VALID = false → b.gns.gap = true → ∃ d : Dev,
      exec .ppsHoldoverEdge s = .next { s with dev := d.finish } ∧ (b.running = true → t + second ≤ d.mt) ∧ d.gns.lastPin = some d.mt
      ∧ d.out = b.out ++ [.pin 0 (clampN 1 500 (b.rd GNS.PPS_WIDTH_MS)) 1] ∧ d.regs = b.regs)
    ∧ (b.gns.gap = false ∨ b.rd GNS.PPS_MODE ≠ 2 ∨ b.flag GNS.TIME_VALID = true ∨ b.gns.lastPin = none → exec .ppsHoldoverEdge s = .next { s with dev := b.finish })
    ∧ (∀ n < 2, b.biasOn n = true → b.rd (antState n) ≠ 2 → ∃ d : Dev, exec (.antShort n) s = .next { s with dev := d.finish }
      ∧ d.rd (antState n) = 2 ∧ d.rd GNS.ANT_TRIPS = satInc 16 (b.rd GNS.ANT_TRIPS) ∧ d.flag GNS.EVT_ANT_FAULT = true
      ∧ tget? n d.gns.shortAt = some b.now ∧ .fault Flt.GNSS_ANT n ∈ d.raised
      ∧ onlyKeys [(antState n).key 0 0, GNS.ANT_TRIPS.key 0 0, GNS.EVT_ANT_FAULT.key 0 0] b d)
    ∧ (∀ n t, n < 2 → tget? n b.gns.shortAt = some t → ∀ persists, ∃ d : Dev, exec (.antBiasRetry n persists) s = .next { s with dev := d.finish }
      ∧ t + 2 * second ≤ d.now
      ∧ (persists = true → d.rd (antState n) = b.rd (antState n) ∧ d.rd GNS.ANT_TRIPS = satInc 16 (b.rd GNS.ANT_TRIPS) ∧ tget? n d.gns.shortAt = some d.now)
      ∧ (persists = false → d.rd (antState n) = 0 ∧ tget? n d.gns.shortAt = none ∧ .recover Flt.GNSS_ANT n ∈ d.raised))
    ∧ (∀ n < 2, b.biasOn n = true → b.rd (antState n) = 0 → ∃ d : Dev, exec (.antOpen n) s = .next { s with dev := d.finish }
      ∧ d.rd (antState n) = 1 ∧ d.flag GNS.EVT_ANT_FAULT = true ∧ .fault Flt.GNSS_ANT n ∈ d.raised
      ∧ onlyKeys [(antState n).key 0 0, GNS.EVT_ANT_FAULT.key 0 0] b d)
    ∧ (∀ n < 2, b.rd (antState n) = 1 → ∃ d : Dev, exec (.antOpenClear n) s = .next { s with dev := d.finish }
      ∧ d.rd (antState n) = 0 ∧ .recover Flt.GNSS_ANT n ∈ d.raised ∧ onlyKeys [(antState n).key 0 0] b d)
    ∧ (∀ eph alm osc, b.rd GNS.FIX = 0 → exec (.hotStartStoreWrite eph alm osc) s = .next { s with dev := b.finish })
    ∧ (∀ eph alm osc p, b.rd GNS.FIX ≠ 0 → b.gns.fixPos = some p → ∃ d : Dev, ∃ x : GnsStore,
      exec (.hotStartStoreWrite eph alm osc) s = .next { s with dev := d.finish }
      ∧ d.gns.store = some x ∧ x.eph.length ≤ 64 ∧ x.almanac = alm ∧ x.osc = osc ∧ (x.lat, x.lon) = p ∧ x.rtc = d.rtc ∧ x.ok = true
      ∧ b.gns.storedAt + 600 * second ≤ d.now ∧ d.regs = b.regs))
  ∧ (∀ d : Dev, (d.gns.store = none ∨ (∃ x, d.gns.store = some x ∧ x.ok = false) ∨ d.flag SYS.RTC_VALID = false → d.startType = 3)
      ∧ (d.startType = 1 → ∃ x, d.gns.store = some x ∧ x.ok = true ∧ 5 ≤ (x.eph.filter fun e => decide (d.rtc < e.2 + 14400)).length
          ∧ 10000 + 20 * (d.rtc - x.rtc) < 1000000)
      ∧ 1 ≤ d.startType ∧ d.startType ≤ 3)

/-! The load switches (chapter 11). -/

/-- Commands, trips, the wire model, inrush and thermal (R280 to R292, R300). -/
def Obligations.LoadSwitchProtection : Prop :=
  (∀ (s : State) (n : Nat), let b := s.dev.begin
    let same (d : Dev) : Prop := onlyBlocks [10] b d ∧ ∀ k < 64, k ≠ n → d.ls k = b.ls k ∧ d.rd LSW.CH_STATE k = b.rd LSW.CH_STATE k
    b.live 10 → n < 64 → b.flag LSW.CH_BUILT n = true →
    (b.flag LSW.CH_CMD n = false → b.rd LSW.CH_CAUSE n = 0 → (b.ls n).cooling = false → b.flag LSW.CH_GATED n = false →
      b.rd LSW.CH_STATE n = 0 → ∃ d : Dev, exec (.switchCommand n true) s = .next { s with dev := d.finish }
      ∧ d.flag LSW.CH_CMD n = true ∧ d.rd LSW.CH_STATE n = lsSlew ∧ d.lsConducts n = true ∧ d.rd LSW.CH_RETRIES_USED n = 0 ∧ same d
      ∧ (b.lsInrush n = 0 → (d.ls n).winEnd = none)
      ∧ (b.lsInrush n ≠ 0 → (d.ls n).winEnd = some (b.now + Nat.max 1 (b.rd LSW.CH_LAMP_WIN_MS n) * ms)))
    ∧ (∀ on, b.flag LSW.CH_CMD n = on → exec (.switchCommand n on) s = .next { s with dev := (b.wr LSW.CH_CMD (bit on) n).finish })
    ∧ (b.flag LSW.CH_CMD n = true → b.lsHas n csFuse = true → 2 ^ 23 ≤ (b.ls n).h → ∃ d : Dev,
      exec (.lswRearm n) s = .next { s with dev := d.busOk.finish } ∧ d.flag LSW.CH_ON_REFUSED n = true ∧ d.rd LSW.CH_STATE n = b.rd LSW.CH_STATE n
      ∧ onlyKeys [LSW.CH_ON_REFUSED.key n 0, LSW.EVT_ON_REFUSED.key 0 0] b d)
    ∧ (b.flag LSW.CH_CMD n = true → b.rd LSW.CH_CAUSE n = 2 ^ csShort → (b.ls n).cooling = false → (b.ls n).thermLatched = false →
      b.flag LSW.CH_GATED n = false → b.rd LSW.CH_STATE n = lsLatched → ∃ d : Dev,
      exec (.lswRearm n) s = .next { s with dev := d.busOk.finish } ∧ d.rd LSW.CH_CAUSE n = 0 ∧ d.rd LSW.CH_STATE n = lsSlew
      ∧ .recover Flt.LSW_SHORT n ∈ d.raised ∧ same d)
    ∧ (b.rd LSW.CH_STATE n = lsSlew → ∃ d : Dev, exec (.slewDone n) s = .next { s with dev := d.finish }
      ∧ d.rd LSW.CH_STATE n = lsOn ∧ d.lsConducts n = true ∧ same d)
    ∧ (b.flag LSW.CH_CMD n = true → b.rd LSW.CH_CAUSE n = 0 → (b.ls n).cooling = false → b.flag LSW.CH_GATED n = false →
      b.lsConducts n = true → (b.ls n).deferred = 0 →
      (b.lsOver40 n = false → ∃ d : Dev, exec (.switchCommand n false) s = .next { s with dev := d.finish }
        ∧ d.flag LSW.CH_CMD n = false ∧ d.rd LSW.CH_STATE n = lsOff ∧ d.lsConducts n = false ∧ same d)
      ∧ (b.lsOver40 n = true → ∃ d : Dev, exec (.switchCommand n false) s = .next { s with dev := d.finish }
        ∧ d.flag LSW.CH_CMD n = false ∧ d.rd LSW.CH_STATE n = b.rd LSW.CH_STATE n ∧ (d.ls n).deferred = 1 ∧ d.flag LSW.CH_DEFERRED n = true
        ∧ d.flag LSW.EVT_DEFERRED = true))
    ∧ (b.lsOver40 n = false → (b.ls n).deferred = 1 → b.flag LSW.CH_CMD n = false → b.rd LSW.CH_CAUSE n = 0 → (b.ls n).cooling = false →
      b.flag LSW.CH_GATED n = false → ∃ d : Dev, exec (.deferredSwitchOff n) s = .next { s with dev := d.finish }
        ∧ tget (b.rd LSW.CH_INPUT n) b.lsw.backAt + ms ≤ d.now
        ∧ d.rd LSW.CH_STATE n = lsOff ∧ (d.ls n).deferred = 0 ∧ d.flag LSW.CH_DEFERRED n = false ∧ same d)
    ∧ (∀ sq, let x := wireX sq (b.iref n)
      let k := wireK (b.rd LSW.CH_XSEC n)
      let c := { b.ls n with t1 := wireStore (b.ls n).t1 x k.1, t2 := wireStore (b.ls n).t2 x k.2 }
      (c.h < 2 ^ 24 → ∃ d : Dev, exec (.wireModelUpdate n sq) s = .next { s with dev := d.finish }
        ∧ d.ls n = c ∧ d.rd LSW.CH_H n = satN 16 (c.h / 4096) ∧ onlyKeys [LSW.CH_H.key n 0] b d)
      ∧ (2 ^ 24 ≤ c.h → b.lsHas n csFuse = false → ∃ d : Dev, exec (.wireModelUpdate n sq) s = .next { s with dev := d.finish }
        ∧ (d.ls n).t1 = c.t1 ∧ (d.ls n).t2 = c.t2 ∧ d.lsHas n csFuse = true ∧ d.lsConducts n = false
        ∧ d.rd LSW.CH_TRIPS n = satInc 16 (b.rd LSW.CH_TRIPS n) ∧ .fault Flt.LSW_FUSE n ∈ d.raised ∧ same d))
    ∧ (b.lsConducts n = false → exec (.instantaneousTrip n) s = .next { s with dev := b.finish })
    ∧ (b.lsConducts n = true → b.lsInWindow n = false → ∃ d : Dev, exec (.instantaneousTrip n) s = .next { s with dev := d.finish }
        ∧ d.lsHas n csShort = true ∧ d.lsConducts n = false ∧ d.rd LSW.CH_TRIPS n = satInc 16 (b.rd LSW.CH_TRIPS n)
        ∧ .fault Flt.LSW_SHORT n ∈ d.raised ∧ same d)
    ∧ (b.lsConducts n = true → b.lsInWindow n = true → b.flag LSW.CH_GATED n = false → b.lsSympathetic n = true → b.lsTooLate n = false → ∃ d : Dev,
        exec (.instantaneousTrip n) s = .next { s with dev := d.finish }
        ∧ d.rd LSW.CH_SYMP_USED n = b.rd LSW.CH_SYMP_USED n + 1 ∧ d.rd LSW.CH_RETRIES_USED n = b.rd LSW.CH_RETRIES_USED n
        ∧ d.flag LSW.EVT_SYMPATHETIC = true ∧ (d.ls n).retryAt = some (b.now + b.lsSpace n) ∧ same d)
    ∧ (b.lsConducts n = true → b.lsInWindow n = true → b.flag LSW.CH_GATED n = false → b.lsSympathetic n = false →
      (Nat.min 24 (b.rd LSW.CH_LAMP_RETRIES n) ≤ b.rd LSW.CH_RETRIES_USED n ∨ b.lsTooLate n = true → ∃ d : Dev,
        exec (.instantaneousTrip n) s = .next { s with dev := d.finish }
        ∧ d.lsHas n csInrush = true ∧ d.lsConducts n = false ∧ .fault Flt.LSW_INRUSH_FAIL n ∈ d.raised ∧ same d)
      ∧ (b.rd LSW.CH_RETRIES_USED n < Nat.min 24 (b.rd LSW.CH_LAMP_RETRIES n) → b.lsTooLate n = false → ∃ d : Dev,
        exec (.instantaneousTrip n) s = .next { s with dev := d.finish }
        ∧ d.rd LSW.CH_RETRIES_USED n = b.rd LSW.CH_RETRIES_USED n + 1 ∧ (d.ls n).retryAt = some (b.now + b.lsSpace n) ∧ same d
        ∧ (b.rd LSW.CH_CAUSE n = 0 → (b.ls n).cooling = false → b.flag LSW.CH_CMD n = true → d.rd LSW.CH_STATE n = lsRetry)))
    ∧ (∀ t, b.rd LSW.CH_STATE n = lsRetry → (b.ls n).retryAt = some t → ∃ d : Dev, exec (.retryWaitEnd n) s = .next { s with dev := d.finish }
        ∧ t ≤ d.now ∧ ((b.waitUntil t).lsInWindow n = false → d.lsHas n csInrush = true ∧ d.lsConducts n = false)
        ∧ ((b.waitUntil t).lsInWindow n = true → (d.ls n).retryAt = none
            ∧ (b.rd LSW.CH_CAUSE n = 0 → (b.ls n).cooling = false → b.flag LSW.CH_CMD n = true → b.flag LSW.CH_GATED n = false → d.rd LSW.CH_STATE n = lsSlew)))
    ∧ (∀ tj : Int, 1750 < tj → tj < 32768 → b.lsHas n csThermal = false → ∃ d : Dev, exec (.junctionOvertemp n tj) s = .next { s with dev := d.finish }
        ∧ d.lsHas n csThermal = true ∧ d.lsConducts n = false ∧ d.rd LSW.CH_RETRIES_USED n = b.rd LSW.CH_RETRIES_USED n ∧ (d.ls n).thermAt = b.now
        ∧ (d.rd LSW.CH_STATE n = if b.rd LSW.CH_THERM_RESTARTS n ≤ b.rd LSW.CH_THERM_USED n then lsLatched else lsThermal)
        ∧ .fault Flt.LSW_THERMAL n ∈ d.raised ∧ same d)
    ∧ (∀ tj : Int, tj < 1500 → b.lsHas n csThermal = true → (b.ls n).thermLatched = false → ∃ d : Dev,
        exec (.thermalResume n tj) s = .next { s with dev := d.finish }
        ∧ (b.ls n).thermAt + 10 * ms ≤ d.now ∧ d.lsHas n csThermal = false ∧ .recover Flt.LSW_THERMAL n ∈ d.raised ∧ same d))
  ∧ (∀ (d : Dev) (n k : Nat), k = csShort ∨ k = csInrush ∨ k = csFuse ∨ k = csThermal ∨ k = csUnder → (d.lsTrip n k).lsConducts n = false)
  ∧ (∀ (t x k : Nat), t < 2 ^ 24 → x ≤ 2 ^ 24 → k ≤ 53687 → wireStore t x k < 2 ^ 24)
  ∧ (∀ (sq i : Nat), 0 < i → sq ≤ i * i → wireX sq i ≤ 2 ^ 24)
  ∧ (∀ c : LsCh, c.t1 < 2 ^ 24 → c.t2 < 2 ^ 24 → c.h < 2 ^ 24)

/-- Clamp, governor, supply and diagnostics (R287, R288, R294 to R299, R302). -/
def Obligations.LoadSwitchGovernor : Prop :=
  (∀ s : State, let b := s.dev.begin
    b.live 10 →
    (∀ n e p, n < 64 → b.flag LSW.CH_BUILT n = true → b.lsHas n csClamp = false → ∃ d : Dev, exec (.clampPulse n e p) s = .next { s with dev := d.finish }
      ∧ d.rd LSW.CH_E_LAST n = satN 16 e ∧ d.rd LSW.CH_P_CLAMP n = satN 16 p
      ∧ (e ≤ (b.clampLimits n).1 → p ≤ (b.clampLimits n).2 → onlyKeys [LSW.CH_E_LAST.key n 0, LSW.CH_P_CLAMP.key n 0] b d)
      ∧ ((b.clampLimits n).1 < e ∨ (b.clampLimits n).2 < p → d.lsHas n csClamp = true ∧ .fault Flt.LSW_CLAMP_HIGH n ∈ d.raised
          ∧ (b.lsConducts n = true → d.rd LSW.CH_STATE n = b.rd LSW.CH_STATE n)
          ∧ (b.lsConducts n = false → (d.ls n).cooling = true)))
    ∧ (∀ n p, n < 64 → b.lsHas n csClamp = true → 2 * p < (b.clampLimits n).2 → ∃ d : Dev, exec (.clampCoolEnd n p) s = .next { s with dev := d.finish }
      ∧ d.lsHas n csClamp = false ∧ (d.ls n).cooling = false ∧ .recover Flt.LSW_CLAMP_HIGH n ∈ d.raised)
    ∧ (∀ ia ib cur, let e := (b.boundary 10 0).lsMeasured cur
      ∃ d : Dev, exec (.governorPeriod ia ib cur) s = .next { s with dev := d.finish }
      ∧ e.lsPower = (((List.range 64).filter fun n => e.flag LSW.CH_BUILT n).map fun n => e.rd LSW.CH_I_MEAS n * e.rd LSW.CH_I_MEAS n * e.rd LSW.CH_RON n).sum
      ∧ (∀ n < 64, n < cur.length → (b.boundary 10 0).flag LSW.CH_BUILT n = true → e.rd LSW.CH_I_MEAS n = satN 16 (cur.getD n 0))
      ∧ d.rd LSW.IA = satN 16 ia ∧ d.rd LSW.IB = satN 16 ib ∧ d.rd LSW.PSW = satN 16 (e.lsPower / 100000)
      ∧ (d.flag LSW.GOV_A = true ↔ 1000 < ia) ∧ (d.flag LSW.GOV_B = true ↔ 1000 < ib) ∧ (d.flag LSW.GOV_P = true ↔ 2000000000 < e.lsPower)
      ∧ (ia ≤ 1000 → tget? 0 d.lsw.past = none)
      ∧ (1000 < ia → tget? 0 b.lsw.past = none → tget? 0 d.lsw.past = some b.now)
      ∧ (∀ t, 1000 < ia → tget? 0 b.lsw.past = some t → tget? 0 d.lsw.past = some t)
      ∧ (ia ≤ 900 → ib ≤ 900 → e.lsPower ≤ 1800000000 → d.lsw.underSince = some (b.lsw.underSince.getD b.now))
      ∧ (900 < ia ∨ 900 < ib ∨ 1800000000 < e.lsPower → d.lsw.underSince = none)
      ∧ (∀ l, l ∈ d.lsw.overRaised → l ∈ b.lsw.overRaised)
      ∧ (d.lsw.overRaised ≠ [] → d.raised = b.raised)
      ∧ (b.lsw.overRaised ≠ [] → d.lsw.overRaised = [] → d.raised = b.raised ++ [.recover Flt.LSW_GOV_OVER 0]) ∧ onlyBlocks [10] b d)
    ∧ (∀ limit t n, tget? limit b.lsw.past = some t → b.pickShed (b.shedCandidates limit) = some n → b.lsOver40 n = false →
        b.rd LSW.CH_CAUSE n = 0 → (b.ls n).cooling = false → ∃ d : Dev,
      exec (.loadShed limit) s = .next { s with dev := d.finish }
      ∧ t + b.govTime ≤ d.now ∧ tget? limit d.lsw.past = some d.now ∧ d.lsw.shed = n :: b.lsw.shed ∧ d.rd LSW.CH_STATE n = lsShed
      ∧ d.flag LSW.CH_CMD n = b.flag LSW.CH_CMD n ∧ .fault Flt.LSW_SHED n ∈ d.raised ∧ d.rd LSW.CH_SHEDS n = satInc 16 (b.rd LSW.CH_SHEDS n)
      ∧ onlyBlocks [10] b d)
    ∧ (∀ limit t n, tget? limit b.lsw.past = some t → b.pickShed (b.shedCandidates limit) = some n → b.lsOver40 n = true → (b.ls n).deferred ≠ 3 → ∃ d : Dev,
      exec (.loadShed limit) s = .next { s with dev := d.finish }
      ∧ t + b.govTime ≤ d.now ∧ d.lsw.shed = b.lsw.shed ∧ (d.ls n).deferred = 2 ∧ d.flag LSW.CH_DEFERRED n = true ∧ d.flag LSW.EVT_DEFERRED = true
      ∧ onlyKeys [LSW.CH_DEFERRED.key n 0, LSW.EVT_DEFERRED.key 0 0] b d)
    ∧ (∀ limit, tget? limit b.lsw.past = none → exec (.loadShed limit) s = .next { s with dev := b.finish })
    ∧ (∀ limit t, tget? limit b.lsw.past = some t → b.pickShed (b.shedCandidates limit) = none → ∃ d : Dev,
      exec (.loadShed limit) s = .next { s with dev := d.finish } ∧ t + b.govTime ≤ d.now ∧ d.lsw.shed = b.lsw.shed ∧ limit ∈ d.lsw.overRaised
      ∧ (limit ∉ b.lsw.overRaised → d.flag LSW.EVT_GOV_OVER = true ∧ d.raised = b.raised ++ [.fault Flt.LSW_GOV_OVER 0])
      ∧ (limit ∈ b.lsw.overRaised → d.raised = b.raised ∧ d.regs = b.regs) ∧ onlyKeys [LSW.EVT_GOV_OVER.key 0 0] b d)
    ∧ (∀ t n rest, b.lsw.underSince = some t → b.lsw.shed = n :: rest → ∃ d : Dev, exec .governorRestore s = .next { s with dev := d.finish }
      ∧ t + b.govRestore ≤ d.now
      ∧ (b.govFits n (b.ls n).shedMa = false → d.regs = b.regs ∧ d.lsw = b.lsw)
      ∧ (b.govFits n (b.ls n).shedMa = true → b.lsHas n csShed = true → d.lsHas n csShed = false ∧ n ∉ d.lsw.shed ∧ d.flag LSW.EVT_RESTORED = true))
    ∧ (∀ n cur ron tj, n < 64 → b.flag LSW.CH_BUILT n = true → ∃ d : Dev, exec (.lswDiagnosticPeriod n cur ron tj) s = .next { s with dev := d.finish }
      ∧ d = (((b.boundary 10 (n + 1)).wr LSW.CH_I_MEAS (satN 16 cur) n).wr LSW.CH_RON (satN 16 ron) n).wrS LSW.CH_TJ tj n
      ∧ d.rd LSW.CH_I_MEAS n = satN 16 cur ∧ d.rd LSW.CH_RON n = satN 16 ron ∧ d.rd LSW.CH_TJ n = enc 16 tj % 2 ^ 16 ∧ d.lsw = b.lsw ∧ onlyBlocks [10] b d)
    ∧ (∀ input < 2, ∃ d : Dev, exec (.inputUndervolt input) s = .next { s with dev := d.finish }
      ∧ (∀ n ∈ b.lsOnInput input, d.lsHas n csUnder = true ∧ d.lsConducts n = false) ∧ .fault Flt.LSW_UNDERVOLT input ∈ d.raised
      ∧ d.flag LSW.EVT_UNDERVOLT = true ∧ onlyBlocks [10] b d)
    ∧ (∀ input < 2, ∃ d : Dev, exec (.undervoltRecover input) s = .next { s with dev := d.finish }
      ∧ (∀ n ∈ b.lsOnInput input, d.lsHas n csUnder = false) ∧ .recover Flt.LSW_UNDERVOLT input ∈ d.raised ∧ onlyBlocks [10] b d)
    ∧ (∀ n < 64, b.flag LSW.CH_BUILT n = true →
      (b.flag LSW.CH_OPEN_LOAD n = false → b.rd LSW.CH_STATE n = lsOn → 10 * b.rd LSW.CH_I_MEAS n < b.rd LSW.CH_OL_ON_MA n → ∃ d : Dev, exec (.openLoad n true) s = .next { s with dev := d.finish }
        ∧ d.flag LSW.CH_OPEN_LOAD n = true ∧ .fault Flt.LSW_OPEN_LOAD n ∈ d.raised ∧ onlyKeys [LSW.CH_OPEN_LOAD.key n 0, LSW.EVT_OPEN_LOAD.key 0 0] b d)
      ∧ (b.flag LSW.CH_OPEN_LOAD n = false → b.rd LSW.CH_STATE n = lsOff → b.flag LSW.CH_OFF_DIAG n = true → ∃ d : Dev,
        exec (.openLoad n true) s = .next { s with dev := d.finish } ∧ d.flag LSW.CH_OPEN_LOAD n = true ∧ .fault Flt.LSW_OPEN_LOAD n ∈ d.raised)
      ∧ (b.flag LSW.CH_OPEN_LOAD n = true → b.rd LSW.CH_OL_ON_MA n < 10 * b.rd LSW.CH_I_MEAS n → ∃ d : Dev, exec (.openLoad n false) s = .next { s with dev := d.finish }
        ∧ d.flag LSW.CH_OPEN_LOAD n = false ∧ .recover Flt.LSW_OPEN_LOAD n ∈ d.raised ∧ onlyKeys [LSW.CH_OPEN_LOAD.key n 0] b d)
      ∧ (b.flag LSW.CH_SHORT_TO_BAT n = false → b.rd LSW.CH_STATE n = lsOff → ∃ d : Dev, exec (.shortToBat n) s = .next { s with dev := d.finish }
        ∧ d.flag LSW.CH_SHORT_TO_BAT n = true ∧ .fault Flt.LSW_SHORT_TO_BAT n ∈ d.raised
        ∧ onlyKeys [LSW.CH_SHORT_TO_BAT.key n 0, LSW.EVT_SHORT_TO_BAT.key 0 0] b d)
      ∧ (b.flag LSW.CH_SHORT_TO_BAT n = true → b.rd LSW.CH_STATE n = lsOff → ∃ d : Dev, exec (.shortToBatClear n) s = .next { s with dev := d.finish }
        ∧ d.flag LSW.CH_SHORT_TO_BAT n = false ∧ .recover Flt.LSW_SHORT_TO_BAT n ∈ d.raised ∧ onlyKeys [LSW.CH_SHORT_TO_BAT.key n 0] b d)))
  ∧ (∀ (d : Dev) (limit n : Nat), d.pickShed (d.shedCandidates limit) = some n →
      n < 64 ∧ (d.rd LSW.CH_STATE n = lsOn ∨ d.rd LSW.CH_STATE n = lsSlew) ∧ d.rd LSW.CH_SHED_PRIO n ≠ 0
      ∧ (limit ≠ 2 → d.rd LSW.CH_INPUT n = limit)
      ∧ (∀ k ∈ d.shedCandidates limit, d.rd LSW.CH_SHED_PRIO k ≤ d.rd LSW.CH_SHED_PRIO n)
      ∧ ∀ k ∈ d.shedCandidates limit, d.rd LSW.CH_SHED_PRIO k = d.rd LSW.CH_SHED_PRIO n → k ≤ n)

/-! The valve drivers (chapter 12). -/

/-- Commands, runs and faults of a valve channel (R310, R311, R316, R320 to R323). -/
def Obligations.ValveRuns : Prop :=
  ∀ (s : State) (n : Nat), let b := s.dev.begin
    let at_ (d : Dev) (st : Nat) : Prop := d.rd VDR.CH_STATE n = st
    b.live 11 → n < 32 → b.flag VDR.CH_BUILT n = true →
    (∀ slot, at_ b vdStRun → b.rd VDR.CH_RUN_SLOT n = slot → b.flag VDR.EN = true →
      exec (.startCmd n slot) s = .next { s with dev := b.busOk.finish })
    ∧ (∀ slot, b.vdStartRefused n slot = true → (at_ b vdStRun → b.rd VDR.CH_RUN_SLOT n ≠ slot ∨ b.flag VDR.EN = false) → ∃ d : Dev,
      exec (.startCmd n slot) s = .next { s with dev := d.busOk.finish }
      ∧ d.flag VDR.CH_START_REFUSED n = true ∧ d.flag VDR.EVT_START_REFUSED = true ∧ d.vdr = b.vdr
      ∧ onlyKeys [VDR.CH_START_REFUSED.key n 0, VDR.EVT_START_REFUSED.key 0 0] b d)
    ∧ (∀ slot < 32, b.vdStartRefused n slot = false → at_ b vdStIdle → b.flag VDR.CH_GATED n = false →
      (b.vd n).running = false → (b.vd n).closing = false → ∃ d : Dev,
      exec (.startCmd n slot) s = .next { s with dev := d.busOk.finish }
      ∧ at_ d vdStRun ∧ d.rd VDR.CH_RUN_SLOT n = slot ∧ d.rd VDR.CH_PHASE n = 0
      ∧ (b.wait = [] → d.flag VDR.CH_CMD_ON n = true ∧ d.rd VDR.CH_CMD_SLOT n = slot ∧ d.rd VDR.CH_CAUSE n = 0) ∧ (d.vd n).running = true ∧ (d.vd n).acc = 0 ∧ (d.vd n).startMt = b.mt
      ∧ onlyBlocks [11] b d)
    ∧ (∀ slot < 32, b.vdStartRefused n slot = false → (at_ b vdStRun → b.rd VDR.CH_RUN_SLOT n ≠ slot) → b.flag VDR.CH_GATED n = false →
      let d := (((((b.wr VDR.CH_CMD_ON 1 n).wr VDR.CH_CMD_SLOT slot n).vdRelease n).vdRestarted n).vdBegin n slot false)
      exec (.startCmd n slot) s = .next { s with dev := d.busOk.finish } ∧ at_ d vdStRun ∧ d.rd VDR.CH_RUN_SLOT n = slot
      ∧ d.rd VDR.CH_PHASE n = 0 ∧ (d.vd n).running = true ∧ (d.vd n).closing = false ∧ (d.vd n).acc = 0)
    ∧ (∀ slot < 32, b.vdStartRefused n slot = false → ¬ at_ b vdStRun → b.flag VDR.CH_GATED n = true → ∃ d : Dev,
      exec (.startCmd n slot) s = .next { s with dev := d.busOk.finish }
      ∧ d.flag VDR.CH_CMD_ON n = true ∧ d.rd VDR.CH_CMD_SLOT n = slot ∧ d.vdr = b.vdr
      ∧ onlyKeys [VDR.CH_CMD_ON.key n 0, VDR.CH_CMD_SLOT.key n 0] b d)
    ∧ (∃ d : Dev, exec (.stopCmd n) s = .next { s with dev := d.busOk.finish } ∧ d.flag VDR.CH_CMD_ON n = false
      ∧ (¬ at_ b vdStRun → onlyKeys [VDR.CH_CMD_ON.key n 0] b d ∧ d.vdr = b.vdr)
      ∧ (at_ b vdStRun → at_ d vdStStopping ∧ (d.vd n).running = false ∧ (d.vd n).closing = true ∧ (d.vd n).offMt = b.mt))
    ∧ (∀ k cur peak e, (b.vd n).running = false → exec (.phaseEnd n k cur peak e) s = .next { s with dev := b.finish })
    ∧ (∀ k cur peak e, (b.vd n).running = true → (b.vdPhase n).kind ≠ 3 →
      (endsOnCurrent (b.vdPhase n) cur = false ∨ ∃ t, (b.vdPhase n).limit = some t ∧ (b.vd n).phaseAt + 1000 * t < b.now + 250 * k) →
      ((b.vdPhase n).limit = none → exec (.phaseEnd n k cur peak e) s = .next { s with dev := (b.vdSampled n cur peak).finish })
      ∧ (∀ t, (b.vdPhase n).limit = some t → (b.vdPhase n).ttp = false → ∃ d : Dev, exec (.phaseEnd n k cur peak e) s = .next { s with dev := d.finish }
        ∧ (b.vd n).phaseAt + 1000 * t ≤ d.now
        ∧ (b.rd VDR.CH_PHASE n + 1 < (b.vd n).phases.length → b.rd VDR.CH_PHASE n < 7 → d.rd VDR.CH_PHASE n = b.rd VDR.CH_PHASE n + 1 ∧ (d.vd n).phaseAt = d.now)
        ∧ ((b.vd n).phases.length ≤ b.rd VDR.CH_PHASE n + 1 → (b.vd n).safeRun = false → d.flag VDR.CH_CMD_ON n = false ∧ at_ d vdStStopping)))
    ∧ (∀ k cur peak e, (b.vd n).running = true → (b.vdPhase n).kind = 0 → (b.vdPhase n).ttp = false → (b.vdPhase n).itgt ≤ cur →
      (∀ t, (b.vdPhase n).limit = some t → b.now + 250 * k ≤ (b.vd n).phaseAt + 1000 * t) →
      ∃ d : Dev, exec (.phaseEnd n k cur peak e) s = .next { s with dev := d.finish } ∧ d.rd VDR.CH_I_MEAS n = satN 16 cur
      ∧ (b.rd VDR.CH_PHASE n + 1 < (b.vd n).phases.length → b.rd VDR.CH_PHASE n < 7 → d.rd VDR.CH_PHASE n = b.rd VDR.CH_PHASE n + 1
        ∧ (d.vd n).phaseAt = (b.waitUntil (b.now + 250 * k)).now)
      ∧ ((b.vd n).phases.length ≤ b.rd VDR.CH_PHASE n + 1 → (b.vd n).safeRun = false → d.flag VDR.CH_CMD_ON n = false ∧ at_ d vdStStopping))
    ∧ (∀ mean x energy, (b.vd n).running = true → (b.vdPhase n).kind = 2 → (b.vdPhase n).demand = true → ∃ d : Dev,
      exec (.currentLoopTick n mean x energy) s = .next { s with dev := d.finish }
      ∧ (b.pointLost (b.rd VDR.CH_DEMAND_PT n) = true → (d.vd n).demand = (b.vd n).demand ∧ d.flag VDR.CH_DEMAND_LOST n = true)
      ∧ (b.pointLost (b.rd VDR.CH_DEMAND_PT n) = false → d.flag VDR.CH_DEMAND_LOST n = false
        ∧ (d.vd n).demand = demandOf (match b.pointRow (b.rd VDR.CH_DEMAND_PT n) with | some (t, _, _) => t | none => .u16)
            (b.pointVal (b.rd VDR.CH_DEMAND_PT n)) (clampN 1 4000 (b.rd VDR.CH_DEMAND_FS_MA n)))
      ∧ onlyBlocks [11] b d)
    ∧ (∀ mean x energy, (b.vd n).running = true → (b.vdPhase n).kind = 2 → (b.vdPhase n).demand = false → ∃ d : Dev,
      exec (.currentLoopTick n mean x energy) s = .next { s with dev := d.finish } ∧ b.vdTickAt n ≤ d.now ∧ (d.vd n).tickAt = some d.now
      ∧ (let r := currentLoop ((b.waitUntil (b.vdTickAt n)).vdTarget n (b.vdPhase n)) mean (b.rd VDR.CH_KP n) (b.rd VDR.CH_KI n) (b.rd VDR.CH_DUTY n) (b.vd n).acc
         d.rd VDR.CH_DUTY n = r.2 ∧ (d.vd n).acc = r.1)
      ∧ d.rd VDR.CH_I_MEAS n = satN 16 x.last ∧ at_ d (b.rd VDR.CH_STATE n) ∧ onlyBlocks [11] b d)
    ∧ (∀ mean x energy, (b.vd n).running = false → exec (.currentLoopTick n mean x energy) s = .next { s with dev := (b.wr VDR.CH_I_MEAS (satN 16 x.last) n).finish })
    ∧ ((b.vd n).starveFrom = none → exec (.starveTimeout n) s = .next { s with dev := b.finish })
    ∧ (∀ t u, (b.vd n).starveFrom = some t → b.vdReapplies n t = some u →
      exec (.starveTimeout n) s = .next { s with dev := ((b.waitUntil u).vdSelect n).finish } ∧ t < u ∧ u ≤ t + 200000 ∧ b.appliesAt n u = true)
    ∧ (∀ t, (b.vd n).starveFrom = some t → b.vdReapplies n t = none → ∃ d : Dev, exec (.starveTimeout n) s = .next { s with dev := d.finish } ∧ t + 200000 ≤ d.now
      ∧ ((b.vd n).starveRaised = false → d.rd VDR.CH_STARVES n = satInc 16 (b.rd VDR.CH_STARVES n) ∧ .fault Flt.VDR_OVERLAP_STARVE n ∈ d.raised
          ∧ (d.vd n).starveRaised = true ∧ (d.vd n).running = (b.vd n).running)
      ∧ ((b.vd n).starveRaised = true → d.regs = b.regs ∧ d.vdr = b.vdr))
    ∧ (∀ z u e i, (b.vd n).closing = false → exec (.closingDetectionDone n z u e i) s = .next { s with dev := b.finish })
    ∧ (∀ z u e i, (b.vd n).closing = true → at_ b vdStStopping → ∃ d : Dev, exec (.closingDetectionDone n z u e i) s = .next { s with dev := d.finish }
      ∧ (b.vd n).offAt + 1000 * (if (b.closeResult n z u).1 = 0 then z else Nat.max z (b.closeWindow n).2) ≤ d.now
      ∧ at_ d vdStIdle ∧ (d.vd n).closing = false ∧ (b.wait = [] → d.rd VDR.CH_CLOSE_RESULT n = (b.closeResult n z u).1 ∧ d.flag VDR.EVT_RUN_END = true))
    ∧ ((b.vd n).running = true →
      (∃ d : Dev, exec (.valveOvercurrent n) s = .next { s with dev := d.finish } ∧ at_ d vdStLatched ∧ (b.wait = [] → (d.rd VDR.CH_CAUSE n).testBit 0 = true)
        ∧ (d.vd n).running = false ∧ d.flag VDR.ANY_LATCHED = true ∧ .fault Flt.VDR_SHORT n ∈ d.raised)
      ∧ ((b.vdPhase n).kind ≠ 3 → ∃ d : Dev, exec (.valveOpen n) s = .next { s with dev := d.finish } ∧ (b.vd n).phaseAt + 200000 ≤ d.now ∧ at_ d vdStLatched ∧ (b.wait = [] → (d.rd VDR.CH_CAUSE n).testBit 1 = true)
        ∧ (d.vd n).running = false ∧ .fault Flt.VDR_OPEN n ∈ d.raised))
    ∧ (∀ tj : Int, (b.rd VDR.CH_CAUSE n).testBit 3 = false → ∃ d : Dev, exec (.valveOvertemp n tj) s = .next { s with dev := d.finish }
      ∧ (tj ≤ 1750 → onlyKeys [VDR.CH_TJ.key n 0] b d ∧ d.vdr = b.vdr)
      ∧ (1750 < tj → at_ d vdStLatched ∧ (b.wait = [] → (d.rd VDR.CH_CAUSE n).testBit 3 = true) ∧ (d.vd n).running = false ∧ .fault Flt.VDR_THERMAL n ∈ d.raised))
    ∧ (∃ d : Dev, exec .vdrDisable s = .next { s with dev := d.busOk.finish } ∧ d.flag VDR.EN = false ∧ ∀ k < 32, d.rd VDR.CH_STATE k ≠ vdStRun)

/-- The boost converter, and the arithmetic of the drivers (R306, R307, R312 to R316, R320). -/
def Obligations.ValveArithmetic : Prop :=
  (∀ (s : State) (v : Nat), let b := s.dev.begin
    b.live 11 → v < 65536 →
    (∃ d : Dev, exec (.boostCharge v) s = .next { s with dev := d.finish }
      ∧ d.rd VDR.BOOST_V = (if b.boostMay = true ∧ v + 50 ≤ b.boostSet then b.boostSet else v)
      ∧ (b.boostMay = true → v + 50 ≤ b.boostSet →
        b.now + ceilDiv (47 * (b.boostSet * b.boostSet - v * v))
          (Nat.max 1 (Nat.min 300 ((if b.rd SYS.BAND_LOG = 2 then 20 else 30) * b.rd SYS.VPWRA / 100))) ≤ d.now)
      ∧ onlyKeys [VDR.BOOST_V.key 0 0, VDR.BOOST_READY.key 0 0, VDR.BOOST_LOW.key 0 0] b d)
    ∧ (∃ d : Dev, exec (.boostLow v) s = .next { s with dev := d.finish } ∧ d.rd VDR.BOOST_V = v
      ∧ (v < b.boostFloor → d.flag VDR.BOOST_LOW = true ∧ (b.flag VDR.BOOST_LOW = false → .fault Flt.VDR_BOOST_LOW 0 ∈ d.raised))
      ∧ onlyKeys [VDR.BOOST_V.key 0 0, VDR.BOOST_READY.key 0 0, VDR.BOOST_LOW.key 0 0, VDR.EVT_BOOST_LOW.key 0 0] b d)
    ∧ (∃ d : Dev, exec (.boostOv v) s = .next { s with dev := d.finish } ∧ d.rd VDR.BOOST_V = v
      ∧ (Nat.min 7800 (b.boostSet + 800) < v → d.flag VDR.BOOST_OV = true ∧ (b.flag VDR.BOOST_OV = false → .fault Flt.VDR_BOOST_OV 0 ∈ d.raised))
      ∧ onlyKeys [VDR.BOOST_V.key 0 0, VDR.BOOST_READY.key 0 0, VDR.BOOST_OV.key 0 0, VDR.EVT_BOOST_OV.key 0 0] b d)
    ∧ (∃ d : Dev, exec (.boostOvEnd v) s = .next { s with dev := d.finish } ∧ d.rd VDR.BOOST_V = v
      ∧ (v < b.boostSet + 400 → d.flag VDR.BOOST_OV = false ∧ (b.flag VDR.BOOST_OV = true → .recover Flt.VDR_BOOST_OV 0 ∈ d.raised))
      ∧ (b.boostSet + 400 ≤ v → d.flag VDR.BOOST_OV = b.flag VDR.BOOST_OV)
      ∧ onlyKeys [VDR.BOOST_V.key 0 0, VDR.BOOST_READY.key 0 0, VDR.BOOST_OV.key 0 0] b d))
  ∧ (currentLoop 1300 1100 96 12 1401 358656 = (361056, 1485))
  ∧ (∀ t mean kp ki duty acc : Int, 0 ≤ acc → acc ≤ 4095 * 256 → let r := currentLoop t mean kp ki duty acc
      0 ≤ r.1 ∧ r.1 ≤ 4095 * 256 ∧ r.2 ≤ 4095)
  ∧ (demandOf .u16 39322 2000 = 1200 ∧ ∀ (v : Int) (fs : Nat), v < 0 → demandOf .q15 v fs = 0)
  ∧ (∀ (mode hz ma t : Nat), (dither mode hz ma t).natAbs ≤ ma ∧ (mode ≠ 1 → mode ≠ 2 → dither mode hz ma t = 0))
  ∧ (∀ (d : Dev) (k : Nat), k < 8 → let w := (bankChans k).map fun n => d.vdWants n
      (2 ∈ w → (d.vdBank k).rd (bankSrc k) = 2) ∧ (2 ∉ w → 1 ∈ w → (d.vdBank k).rd (bankSrc k) = 1)
      ∧ (2 ∉ w → 1 ∉ w → (d.vdBank k).rd (bankSrc k) = 0)
      ∧ ∀ n ∈ bankChans k, 2 ∈ w → d.vdWants n = 1 → (d.vdBank k).flag VDR.CH_STARVING n = true ∧ ((d.vdBank k).vd n).starveFrom ≠ none)
  ∧ (∀ (m0 : Nat) (u : List Int) (lo hi : Nat), lo ≤ hi → lo ≤ (kinkPeak m0 u lo hi).1 ∧ (kinkPeak m0 u lo hi).1 ≤ hi
      ∧ ∀ m, lo ≤ m → m ≤ hi → (kinkAt m0 u m).natAbs ≤ (kinkAt m0 u (kinkPeak m0 u lo hi).1).natAbs)

/-! Field I/O and blowers (chapter 13). -/

/-- The barrier, the outputs and the inputs of field I/O (R327 to R338). -/
def Obligations.FieldIo : Prop :=
  (∀ s : State, let b := s.dev.begin
    b.live 12 →
    (∀ g < 8, let c := ((b.waitUntil (b.nextPeriod 20000 (b.fioG g).refreshAt)).boundary 12 0).boundary 12 (g + 1)
      let x := b.fioG g
      (∃ d : Dev, exec (.downstreamFrame g none) s = .next { s with dev := d.finish }
        ∧ b.nextPeriod 20000 x.refreshAt ≤ d.now ∧ (d.fioG g).refreshAt = some d.now ∧ d.regs = c.regs ∧ (∀ k, k ≠ g → d.fioG k = b.fioG k)
        ∧ (d.fioG g).isoBad = satInc 8 x.isoBad ∧ (d.fioG g).isoGood = 0 ∧ (d.fioG g).rearm = false
        ∧ (2 ≤ x.isoBad → (d.fioG g).lost = true ∧ (d.fioG g).held = true ∧ (d.fioG g).outs = 0)
        ∧ (x.isoBad < 2 → (d.fioG g).lost = x.lost ∧ (d.fioG g).held = x.held ∧ (d.fioG g).outs = x.outs))
      ∧ (c.pdOn 9 = true → ∃ d : Dev, exec (.downstreamFrame g (some 0)) s = .next { s with dev := d.finish }
        ∧ b.nextPeriod 20000 x.refreshAt ≤ d.now ∧ (d.fioG g).refreshAt = some d.now ∧ d.regs = c.regs ∧ (∀ k, k ≠ g → d.fioG k = b.fioG k)
        ∧ (d.fioG g).isoBad = 0 ∧ (d.fioG g).isoGood = satInc 8 x.isoGood
        ∧ (d.fioG g).lost = (x.lost && decide (satInc 8 x.isoGood < 8)) ∧ (d.fioG g).held = (x.held && !x.rearm)
        ∧ ∀ k < 8, (d.fioG g).outs.testBit k = c.ioWanted (8 * g + k))
      ∧ (∀ cur on vsup, ∃ d : Dev, exec (.upstreamFrame g cur on vsup none) s = .next { s with dev := d.finish }
        ∧ (d.fioG g).hostBad = satInc 8 x.hostBad ∧ (d.fioG g).hostGood = 0 ∧ (d.fioG g).seq = x.seq + 1
        ∧ d.rd FIO.G_BAD_FRAMES g = satInc 16 (b.rd FIO.G_BAD_FRAMES g)
        ∧ (x.hostBad < 2 → d.points = b.points ∧ onlyKeys [FIO.G_BAD_FRAMES.key g 0] b d)
        ∧ (2 ≤ x.hostBad → (d.rd FIO.GROUP_LOST).testBit g = true
          ∧ ((b.rd FIO.GROUP_LOST).testBit g = false → .fault Flt.FIO_GROUP_LOST g ∈ d.raised
            ∧ ∀ n ∈ groupPins g, b.pinIsIn n = true → ∀ p, b.ioPoint 0 n = some p → (b.pointRow p).isSome = true →
                (d.point p).status / stLost % 2 = 1 ∧ (d.point p).value = (b.point p).value)))
      ∧ (b.pdOn 9 = true → ∀ cur on vsup, ∃ d : Dev, exec (.upstreamFrame g cur on vsup (some 0)) s = .next { s with dev := d.finish }
        ∧ (d.fioG g).hostBad = 0 ∧ (d.fioG g).seq = x.seq + 1 ∧ d.flag FIO.G_OUT_HELD g = x.held ∧ d.rd FIO.G_VSUP g = satN 16 vsup
        ∧ d.flag FIO.G_SUPPLY_LOW g = decide (vsup < 900)
        ∧ (x.lost = true → (d.rd FIO.GROUP_LOST).testBit g = true)
        ∧ (x.lost = false → 7 ≤ x.hostGood → (d.rd FIO.GROUP_LOST).testBit g = false
          ∧ ∀ k < 8, b.pinIsIn (8 * g + k) = true → let n := 8 * g + k
            let cl := pinClass (b.flag FIO.PIN_WB_EN n) vsup (cur.getD k 0) (on.testBit k)
            (b.fioPin n).taken ≠ some cl →
            (b.rd FIO.G_FILT g = 0 → (d.fioPin n).taken = some cl ∧ d.rd FIO.PIN_CLASS n = cl)
            ∧ (b.rd FIO.G_FILT g ≠ 0 → ((b.fioPin n).run = 0 ∨ (b.fioPin n).cand ≠ cl) →
                (d.fioPin n).taken = (b.fioPin n).taken ∧ (d.fioPin n).cand = cl ∧ (d.fioPin n).run = 1)))
      ∧ ((b.rd FIO.GROUP_LOST).testBit g = true → exec (.fioRearm g) s = .next { s with dev := b.busOk.finish })
      ∧ ((b.rd FIO.GROUP_LOST).testBit g = false → ∃ d : Dev, exec (.fioRearm g) s = .next { s with dev := d.busOk.finish }
        ∧ d.fioG g = { b.fioG g with rearm := true } ∧ (∀ k, k ≠ g → d.fioG k = b.fioG k) ∧ d.regs = b.regs))
    ∧ (∀ n < 64, b.pinIsOut n = true →
      (∀ on, ∃ d : Dev, exec (.ioOutputCommand n on) s = .next { s with dev := d.finish }
        ∧ d.rdPair FIO.OUT_LO FIO.OUT_HI n = on
        ∧ (on = true → b.rdPair FIO.OUT_LO FIO.OUT_HI n = false → d.flag FIO.PIN_OUT_FAULT n = false)
        ∧ (on = false ∨ b.rdPair FIO.OUT_LO FIO.OUT_HI n = true → d.flag FIO.PIN_OUT_FAULT n = b.flag FIO.PIN_OUT_FAULT n)
        ∧ onlyKeys [FIO.OUT_LO.key 0 0, FIO.OUT_HI.key 0 0, FIO.PIN_OUT_FAULT.key n 0] b d)
      ∧ (b.flag FIO.PIN_OUT_FAULT n = false → ∃ d : Dev, exec (.ioOutputFault n) s = .next { s with dev := d.finish }
        ∧ d.flag FIO.PIN_OUT_FAULT n = true ∧ d.ioLevel n = false ∧ .fault Flt.FIO_OUT_FAULT n ∈ d.raised
        ∧ onlyKeys [FIO.PIN_OUT_FAULT.key n 0, FIO.EVT.key 0 0] b d))
    ∧ (∀ n < 64, b.pinIsOut n = false → ∀ on, exec (.ioOutputCommand n on) s = .next { s with dev := b.finish })
    ∧ (∀ a < 32,
      (∀ xs refs, (xs.zip refs).length < clampN 1 4096 (b.rd FIO.AI_AVG_N a) → exec (.aiPublish a xs refs) s = .next { s with dev := b.finish })
      ∧ (∀ xs refs, let samples := xs.zip refs
        let n := clampN 1 4096 (b.rd FIO.AI_AVG_N a)
        let sum : Nat := ((List.range n).zip samples).foldl
          (fun t p => t + aiCode (b.rd FIO.AI_RANGE a) (Config.freeValue (b.freeSeq + p.1)) p.2.2 p.2.1) 0
        n ≤ samples.length → ∃ d : Dev, exec (.aiPublish a xs refs) s = .next { s with dev := d.finish }
        ∧ (b.aiCh a).meanAt + n * aiStep a ≤ d.now ∧ (d.aiCh a).meanAt = d.now
        ∧ d.rd FIO.AI_CODE a = (2 * sum + n) / (2 * n) ∧ onlyKeys [FIO.AI_CODE.key a 0] b d
        ∧ ∀ p ty x, b.ioPoint 1 a = some p → b.pointRow p = some (ty, x) → b.running = true →
            (d.point p).value = layoutValue ty ((2 * sum + n) / (2 * n)) ∧ (d.point p).status = if b.aiValid a then stValid else 0)
      ∧ (b.rd FIO.AI_RANGE a = 2 →
        (∀ code, ∃ d : Dev, exec (.aiRange a code) s = .next { s with dev := d.finish }
          ∧ d.flag FIO.AI_UNDER a = decide (code < 9437) ∧ d.flag FIO.AI_OVER a = decide (55049 < code)
          ∧ (code < 9437 ∨ 55049 < code → b.flag FIO.AI_UNDER a = false → b.flag FIO.AI_OVER a = false → .fault Flt.AI_RANGE a ∈ d.raised)
          ∧ onlyKeys [FIO.AI_UNDER.key a 0, FIO.AI_OVER.key a 0, FIO.EVT.key 0 0] b d)
        ∧ (b.flag FIO.AI_SHUNT_OPEN a = false → ∃ d : Dev, exec (.aiOvercurrent a) s = .next { s with dev := d.finish }
          ∧ d.flag FIO.AI_SHUNT_OPEN a = true ∧ (d.aiCh a).shuntAt = b.now ∧ .fault Flt.AI_OVERCURRENT a ∈ d.raised
          ∧ onlyKeys [FIO.AI_SHUNT_OPEN.key a 0, FIO.EVT.key 0 0] b d))
      ∧ (b.flag FIO.AI_SHUNT_OPEN a = true → ∃ d : Dev, exec (.shuntReclose a) s = .next { s with dev := d.finish }
          ∧ d.flag FIO.AI_SHUNT_OPEN a = false ∧ (b.aiCh a).shuntAt + 1000000000 ≤ d.now ∧ .recover Flt.AI_OVERCURRENT a ∈ d.raised
          ∧ onlyKeys [FIO.AI_SHUNT_OPEN.key a 0] b d))
    ∧ (∀ k < 2,
      ((b.rd FIO.SS_ON).testBit k = true → ∃ d : Dev, exec (.aiSupplyTrip k) s = .next { s with dev := d.finish }
        ∧ (d.rd FIO.SS_ON).testBit k = false ∧ .fault Flt.AI_SUPPLY k ∈ d.raised ∧ onlyKeys [FIO.SS_ON.key 0 0, FIO.EVT.key 0 0] b d
        ∧ ∀ a < 32, b.rd FIO.AI_RANGE a = 3 → b.rd FIO.AI_REF a = k → ∀ p, b.ioPoint 1 a = some p → (b.pointRow p).isSome = true →
            (d.point p).status % 2 = 0 ∧ (d.point p).value = (b.point p).value)
      ∧ ((b.rd FIO.SS_ON).testBit k = false → ∃ d : Dev, exec (.aiSupplyRetry k) s = .next { s with dev := d.finish }
        ∧ (d.rd FIO.SS_ON).testBit k = true ∧ .recover Flt.AI_SUPPLY k ∈ d.raised ∧ (tget? k b.fio.ssAt).getD 0 + 1000000000 ≤ d.now
        ∧ onlyKeys [FIO.SS_ON.key 0 0] b d))
    ∧ (∀ a < 16, ∀ samples, b.flag FIO.AI_IMP a = true → let c := b.impactSamples a samples
      ∃ d : Dev, exec (.impactPeriod a samples) s = .next { s with dev := d.finish }
      ∧ d.rd FIO.AI_IMP_LAST a = satN 16 c.count ∧ d.rd FIO.AI_IMP_TOTAL a = (b.rd FIO.AI_IMP_TOTAL a + c.count) % 2 ^ 32
      ∧ (b.aiCh a).periodAt + Nat.max 1 (Nat.min 60000 (b.rd FIO.AI_IMP_PERIOD_MS a)) * ms ≤ d.now ∧ (d.aiCh a).periodAt = d.now
      ∧ (d.aiCh a).count = 0 ∧ (d.aiCh a).base = c.base ∧ onlyKeys [FIO.AI_IMP_LAST.key a 0, FIO.AI_IMP_TOTAL.key a 0] b d)
    ∧ (∀ f < 16, 
      (∀ level both held, held < 32 * b.rd FIO.FI_GLITCH f → exec (.fiEdge f level both held) s = .next { s with dev := b.finish })
      ∧ (∀ both held, b.rd FIO.FI_MODE (f / 2 * 2) ≠ 3 → 32 * b.rd FIO.FI_GLITCH f ≤ held →
        (b.rd FIO.FI_MODE f = 1 ∨ b.rd FIO.FI_MODE f = 2 → (b.fiCh f).level = true → ∃ d : Dev,
          exec (.fiEdge f false both held) s = .next { s with dev := d.finish } ∧ (d.fiCh f).level = false ∧ d.regs = b.regs)
        ∧ (∀ t, b.rd FIO.FI_MODE f = 1 → (b.fiCh f).level = false → (b.fiCh f).rise = some t → ∃ d : Dev,
          exec (.fiEdge f true both held) s = .next { s with dev := d.finish } ∧ d.rd FIO.FI_PERIOD f = satN 32 ((b.now - t) / 4)
          ∧ (d.fiCh f).rise = some b.now ∧ (b.fiRole f = none → b.raInput ≠ some (f, false) → onlyKeys [FIO.FI_PERIOD.key f 0] b d))
        ∧ (b.rd FIO.FI_MODE f = 2 → (b.fiCh f).level = false → ∃ d : Dev,
          exec (.fiEdge f true both held) s = .next { s with dev := d.finish } ∧ d.rd FIO.FI_COUNT f = (b.rd FIO.FI_COUNT f + 1) % 2 ^ 32
          ∧ (b.fiRole f = none → b.raInput ≠ some (f, false) → onlyKeys [FIO.FI_COUNT.key f 0] b d)))
      ∧ (∀ level held, b.rd FIO.FI_MODE (f / 2 * 2) = 3 → 32 * b.rd FIO.FI_GLITCH f ≤ held → let k := f / 2
        let la := (b.fiCh (2 * k)).level
        let lb := (b.fiCh (2 * k + 1)).level
        let up := if f % 2 = 0 then quadUp la lb level lb else quadUp la lb la level
        ((b.fiCh f).level ≠ level → ∃ d : Dev, exec (.fiEdge f level false held) s = .next { s with dev := d.finish }
          ∧ d.rd FIO.FI_COUNT (2 * k) = (if up then b.rd FIO.FI_COUNT (2 * k) + 1 else b.rd FIO.FI_COUNT (2 * k) + 2 ^ 32 - 1) % 2 ^ 32
          ∧ (d.fiCh f).level = level ∧ (b.fiRole (2 * k) = none → b.raInput ≠ some (2 * k, true) → onlyKeys [FIO.FI_COUNT.key (2 * k) 0] b d))
        ∧ ∃ d : Dev, exec (.fiEdge f level true held) s = .next { s with dev := d.finish }
          ∧ d.rd FIO.FI_QUAD_ERR (2 * k) = satInc 16 (b.rd FIO.FI_QUAD_ERR (2 * k)) ∧ d.rd FIO.FI_COUNT (2 * k) = b.rd FIO.FI_COUNT (2 * k)
          ∧ .fault Flt.FI_QUAD_ERROR k ∈ d.raised ∧ onlyKeys [FIO.FI_QUAD_ERR.key (2 * k) 0, FIO.EVT.key 0 0] b d)
      ∧ ∃ d : Dev, exec (.fiPublish f) s = .next { s with dev := d.finish } ∧ b.nextPeriod ms (b.fiCh f).publishedAt ≤ d.now
        ∧ (d.fiCh f).publishedAt = some d.now ∧ d.rd FIO.FI_FREQ f = (b.waitUntil (b.nextPeriod ms (b.fiCh f).publishedAt)).fiFreq f ∧ onlyKeys [FIO.FI_FREQ.key f 0] b d))
  ∧ (crc8 9 0x313233343536373839 0xFF = 0xDF ∧ aiCode 2 0 0 4000000 = 10486 ∧ aiCode 2 0 0 20000000 = 52428)
  ∧ (∀ (vsup cur : Nat) (on : Bool), 1800 ≤ vsup → vsup ≤ 3200 → pinClass true vsup cur on
      = if cur < 250 then 0 else if cur < 450 then 3 else if cur ≤ 1400 then 1 else if cur < 2000 then 3 else 2)
  ∧ (∀ (vsup cur : Nat) (on : Bool), (vsup < 1800 ∨ 3200 < vsup) → pinClass true vsup cur on = if on then 2 else 1)

/-- The blowers (R339 to R344). -/
def Obligations.Blowers : Prop :=
  (∀ s : State, let b := s.dev.begin
    b.live 13 →
    (∀ gap age ma, let e := (b.waitUntil (b.nextPeriod (10 * ms) b.blw.periodAt)).boundary 13 0
      let l := forAll ((List.range 4).filter fun c => e.flag BLW.CH_BUILT c)
          (fun (c : Nat) (d : Dev) => d.blPeriod c (gap.getD c 0) (age.getD c 0) (ma.getD c 0)) e
      exec (.blowerPeriod gap age ma) s = .next { s with dev := { l with blw := { l.blw with wdKicked := false, periodAt := some l.now } }.finish }
      ∧ b.nextPeriod (10 * ms) b.blw.periodAt ≤ l.now)
    ∧ (∀ v, v ≠ 0x5A → exec (.blwWdKick v) s = .next { s with dev := b.busOk.finish })
    ∧ (∃ d : Dev, exec (.blwWdKick 0x5A) s = .next { s with dev := d.busOk.finish } ∧ d.blw.wdFrom = b.now ∧ d.regs = b.regs
      ∧ (b.rd BLW.WD_FULL ≠ 0 → d.blw.wdKicked = true ∧ .recover Flt.BLW_WATCHDOG 0 ∈ d.raised))
    ∧ (b.flag BLW.EN = true → b.rd BLW.WD_MS ≠ 0 → b.rd BLW.WD_FULL = 0 → ∃ d : Dev,
      exec .blowerWatchdogExpiry s = .next { s with dev := d.finish }
      ∧ b.blw.wdFrom + b.rd BLW.WD_MS * 1000000 ≤ d.now ∧ .fault Flt.BLW_WATCHDOG 0 ∈ d.raised
      ∧ (∀ c < 4, b.flag BLW.CH_BUILT c = true → b.rd BLW.CH_STATE c ≤ 3 → (d.rd BLW.WD_FULL).testBit c = true ∧ d.rd BLW.CH_V_OUT c = b.vFull)
      ∧ (∀ c < 4, 3 < b.rd BLW.CH_STATE c → d.rd BLW.CH_V_OUT c = b.rd BLW.CH_V_OUT c) ∧ ∀ c, d.rd BLW.CH_STATE c = b.rd BLW.CH_STATE c)
    ∧ ((b.flag BLW.EN = false ∨ b.rd BLW.WD_MS = 0) → exec .blowerWatchdogExpiry s = .next { s with dev := b.finish })
    ∧ (∀ c < 4, b.flag BLW.CH_BUILT c = true → let st : Dev → Nat := fun d => d.rd BLW.CH_STATE c
      (∀ ma, st b = blKick → ∃ d : Dev, exec (.kickTimeout c ma) s = .next { s with dev := d.finish }
        ∧ (b.bl c).kickAt + 3000000000 ≤ d.now
        ∧ (b.rd BLW.CH_BLOCK_MA c ≤ ma → .fault Flt.BLW_BLOCKED c ∈ d.raised ∧ d.rd BLW.CH_V_OUT c = 0
          ∧ (b.rd BLW.CH_ATTEMPTS c < 2 → st d = blWait ∧ d.rd BLW.CH_ATTEMPTS c = b.rd BLW.CH_ATTEMPTS c + 1)
          ∧ (2 ≤ b.rd BLW.CH_ATTEMPTS c → st d = blLatched ∧ (d.rd BLW.CH_CAUSE c).testBit 0 = true))
        ∧ (ma < b.rd BLW.CH_BLOCK_MA c → ma < b.rd BLW.CH_OPEN_MA c → st d = blLatched ∧ (d.rd BLW.CH_CAUSE c).testBit 2 = true
          ∧ .fault Flt.BLW_OPEN c ∈ d.raised)
        ∧ (ma < b.rd BLW.CH_BLOCK_MA c → b.rd BLW.CH_OPEN_MA c ≤ ma → st d = blOpen ∧ d.flag BLW.CH_TACH_LOST c = true
          ∧ d.rd BLW.CH_V_OUT c = b.vFull ∧ .fault Flt.BLW_TACH_LOST c ∈ d.raised))
      ∧ (∀ ma, st b = blRun → ∃ d : Dev, exec (.tachTimeout c ma) s = .next { s with dev := d.finish }
        ∧ (b.bl c).lastTach + clampN 100 10000 (b.rd BLW.CH_TACH_TMO_MS c) * 1000000 ≤ d.now
        ∧ (b.rd BLW.CH_BLOCK_MA c ≤ ma → .fault Flt.BLW_BLOCKED c ∈ d.raised ∧ (b.rd BLW.CH_ATTEMPTS c < 2 → st d = blWait))
        ∧ (ma < b.rd BLW.CH_BLOCK_MA c → st d = blOpen ∧ d.flag BLW.CH_TACH_LOST c = true ∧ .fault Flt.BLW_TACH_LOST c ∈ d.raised))
      ∧ (st b = blWait → ∃ d : Dev, exec (.blockWaitEnd c) s = .next { s with dev := d.finish }
        ∧ st d = blKick ∧ (b.bl c).waitAt + 30000000000 ≤ d.now ∧ d.rd BLW.CH_V_OUT c = b.vFull ∧ d.rd BLW.CH_ATTEMPTS c = b.rd BLW.CH_ATTEMPTS c)
      ∧ (st b = blRun ∨ st b = blOpen → ∃ d : Dev, exec (.blowerShort c) s = .next { s with dev := d.finish }
        ∧ st d = blLatched ∧ (d.rd BLW.CH_CAUSE c).testBit 1 = true ∧ d.rd BLW.CH_V_OUT c = 0 ∧ .fault Flt.BLW_SHORT c ∈ d.raised)
      ∧ (∃ d : Dev, exec (.blowerRearm c) s = .next { s with dev := d.busOk.finish }
        ∧ d.rd BLW.CH_CAUSE c = 0 ∧ d.rd BLW.CH_ATTEMPTS c = 0
        ∧ (st b = blLatched → st d = if (b.rd BLW.GATE).testBit c then blOff else blGated) ∧ (st b ≠ blLatched → st d = st b))
      ∧ (b.mode = 4 → ∃ d : Dev, exec (.commission c) s = .next { s with dev := d.busOk.finish }
        ∧ d.rd BLW.CH_COMM_RESULT c = 1 ∧ (d.bl c).commAt = b.now ∧ onlyKeys [BLW.CH_COMM_RESULT.key c 0] b d)
      ∧ (b.mode ≠ 4 → exec (.commission c) s = .next { s with dev := b.busOk.finish })
      ∧ (b.rd BLW.CH_COMM_RESULT c = 1 →
        (b.blSteadyDone c = none → ∃ d : Dev, exec (.commissionDone c) s = .next { s with dev := d.finish }
          ∧ d.rd BLW.CH_COMM_RESULT c = 3 ∧ (b.bl c).commAt + 60000000000 ≤ d.now ∧ onlyKeys [BLW.CH_COMM_RESULT.key c 0] b d)
        ∧ (∀ m, b.blSteadyDone c = some m → ∃ d e : Dev, exec (.commissionDone c) s = .next { s with dev := d.finish }
          ∧ e = (b.wr BLW.CH_DRIVE_MEAN_MV m c).pregBlock 13 (b.rd BLW.CH_AGE_PREG c) m
          ∧ d.rd BLW.CH_BASELINE_MV c = e.rd PREG.P (b.rd BLW.CH_AGE_PREG c) % 65536
          ∧ d.rd BLW.CH_COMM_RESULT c = 2 ∧ d.flag BLW.CH_AGEING c = false
          ∧ onlyKeys [BLW.CH_COMM_RESULT.key c 0, BLW.CH_AGEING.key c 0, BLW.CH_BASELINE_MV.key c 0] e d))
      ∧ (∀ m, st b = blRun → b.blSteadyDone c = some m → ∃ d : Dev, exec (.ageingCheck c) s = .next { s with dev := d.finish }
        ∧ d.rd BLW.CH_DRIVE_MEAN_MV c = m % 65536 ∧ (d.bl c).steadyFrom = none
        ∧ d.flag BLW.CH_AGEING c = (b.flag BLW.CH_AGEING c || decide (b.rd BLW.CH_BASELINE_MV c ≠ 0 ∧ b.rd BLW.CH_BASELINE_MV c * 115 < 100 * m))
        ∧ onlyKeys [BLW.CH_DRIVE_MEAN_MV.key c 0, BLW.CH_AGEING.key c 0, BLW.EVT.key 0 0] b d)))
  ∧ (∀ (d : Dev) (c gap age ma : Nat), c < 4 → d.rd BLW.WD_FULL = 0 → let e := d.blPeriod c gap age ma
      let tach := decide (0 < gap ∧ gap < 100 * ms ∧ age < 100 * ms)
      let rpm := if age < clampN 100 10000 (d.rd BLW.CH_TACH_TMO_MS c) * ms then d.blRpm c gap else 0
      let r := ((d.wr BLW.CH_RPM (satN 16 rpm) c).wr BLW.CH_I_OUT (satN 16 ma) c)
      let r := if 0 < gap then r.setBl c { r.bl c with lastTach := Nat.max (r.bl c).lastTach (r.now - age) } else r
      let target := r.blReadTemp c |>.1.blTarget c (r.blReadTemp c).2
      (d.rd BLW.CH_STATE c = blOff → 0 < target → e.rd BLW.CH_STATE c = blKick ∧ e.rd BLW.CH_V_OUT c = d.vFull ∧ (e.bl c).kickAt = d.now)
      ∧ (d.rd BLW.CH_STATE c = blOff → target = 0 → e.rd BLW.CH_STATE c = blOff ∧ e.rd BLW.CH_V_OUT c = 0)
      ∧ (d.rd BLW.CH_STATE c = blKick → tach = true → e.rd BLW.CH_STATE c = blRun
          ∧ e.rd BLW.CH_V_OUT c = Nat.min d.vFull (d.vFull * target / Nat.max 1 (d.rd BLW.CH_RPM_MAX c)))
      ∧ (d.rd BLW.CH_STATE c = blKick → tach = false → e.rd BLW.CH_STATE c = blKick ∧ e.rd BLW.CH_V_OUT c = d.vFull)
      ∧ (d.rd BLW.CH_STATE c = blRun → target = 0 → e.rd BLW.CH_STATE c = blOff ∧ e.rd BLW.CH_V_OUT c = 0)
      ∧ (d.rd BLW.CH_STATE c = blRun → 0 < target → e.rd BLW.CH_STATE c = blRun
          ∧ e.rd BLW.CH_V_OUT c = (blowerPi target rpm (d.rd BLW.CH_KP c) (d.rd BLW.CH_KI c) d.vFull (d.bl c).acc).2))
  ∧ (∀ (target rpm kp ki acc : Int) (vfull : Nat), let r := blowerPi target rpm kp ki vfull acc
      0 ≤ r.1 ∧ r.1 ≤ (vfull : Int) * 256 ∧ r.2 ≤ vfull)
  ∧ ((∀ d : Dev, d.vFull ≤ 24000) ∧ curvePart 400 650 30 100 525 = 65 * 250)

/-! Networks and joined systems (chapter 14). -/

/-- The CAN ports, time-triggered operation and ISO 11783 (R351, R353 to R356, R363 to R365). -/
def Obligations.CanPorts : Prop :=
  ∀ (s : State) (p : Nat), let b := s.dev.begin
    b.live 14 → b.wait = [] → p < 8 →
    (b.canOn p = true → b.busOff p = false → ∃ d : Dev, exec (.busOff p) s = .next { s with dev := d.finish }
      ∧ d.busOff p = true ∧ (d.rd CAN.BUS_OFF).testBit p = true ∧ d.rd CAN.P_RECOV_SEQ p = 0
      ∧ d.rd CAN.P_BUSOFF_COUNT p = satInc 16 (b.rd CAN.P_BUSOFF_COUNT p) ∧ .fault Flt.CAN_BUS_OFF p ∈ d.raised
      ∧ onlyKeys [CAN.P_ERR_STATE.key p 0, CAN.BUS_OFF.key 0 0, CAN.P_RECOV_SEQ.key p 0, CAN.P_BUSOFF_COUNT.key p 0, CAN.EVT.key 0 0] b d)
    ∧ (b.busOff p = true → (∀ id bs, exec (.canFrameRx p id bs) s = .next { s with dev := b.finish })
      ∧ ∃ d : Dev, exec (.busOffRecovery p) s = .next { s with dev := d.finish }
      ∧ tget p b.net.busOffAt + ceilDiv (1408 * (b.canBit p).1) 2 ≤ d.now
      ∧ d.busOff p = false ∧ (d.rd CAN.BUS_OFF).testBit p = false ∧ d.rd CAN.P_RECOV_SEQ p = 128 ∧ .recover Flt.CAN_BUS_OFF p ∈ d.raised
      ∧ (b.canTT p = true → d.rd CAN.P_SYNC p = 1 ∧ (d.rd CAN.SYNCED).testBit p = false))
    ∧ (b.canOn p = true → b.busOff p = false → ∀ id, let d := ((b.count CAN.P_ERR_FRAMES p).recAfter p false).errState p
      exec (.canFrameRx p id none) s = .next { s with dev := d.finish }
      ∧ d.rd CAN.P_ERR_FRAMES p = satInc CAN.P_ERR_FRAMES.w (b.rd CAN.P_ERR_FRAMES p) ∧ d.rd CAN.P_REC p = satInc 8 (b.rd CAN.P_REC p)
      ∧ d.rd CAN.P_ERR_STATE p = bit (127 < b.rd CAN.P_TEC p ∨ 127 < satInc 8 (b.rd CAN.P_REC p))
      ∧ onlyKeys [CAN.P_ERR_FRAMES.key p 0, CAN.P_REC.key p 0, CAN.P_ERR_STATE.key p 0] b d)
    ∧ (b.canTT p = true → b.flag CAN.P_IS_MASTER p = false → b.rd CAN.P_SYNC p = 2 → ∃ d : Dev,
      exec (.syncLost p) s = .next { s with dev := d.finish }
      ∧ (∀ m, b.running = true → tget? p b.net.marks = some m → m + 2 * b.cycleNs p ≤ d.mt)
      ∧ d.rd CAN.P_SYNC p = 1 ∧ (d.rd CAN.SYNCED).testBit p = false ∧ .fault Flt.CAN_SYNC_LOST p ∈ d.raised
      ∧ onlyKeys [CAN.P_SYNC.key p 0, CAN.SYNCED.key 0 0, CAN.EVT.key 0 0] b d)
    ∧ (∀ prio bs, b.canTT p = true → b.busOff p = false → bs.length = 16 → b.running = true →
      (prio < 8 → exec (.canFrameRx p (b.rd CAN.REF_ID_BASE + prio) (some bs)) s
        = .next { s with dev := (referenceMessage p prio bs ((b.recAfter p true).errState p)).finish })
      ∧ (leVal ((bs.drop 2).take 2) = b.rd CAN.P_MATRIX_ID p → 1000 * leVal ((bs.drop 12).take 2) = b.cycleNs p → b.flag CAN.P_IS_MASTER p = true →
        b.timeMaster = true ∨ b.rd CAN.P_REF_PRIO p ≤ prio % 8 → exec (.referenceMessage p prio bs) s = .next { s with dev := b.finish })
      ∧ ((leVal ((bs.drop 2).take 2) ≠ b.rd CAN.P_MATRIX_ID p ∨ 1000 * leVal ((bs.drop 12).take 2) ≠ b.cycleNs p) → ∃ d : Dev,
        exec (.referenceMessage p prio bs) s = .next { s with dev := d.finish } ∧ d.rd CAN.P_SYNC p = 3
        ∧ (b.rd CAN.P_SYNC p ≠ 3 → .fault Flt.CAN_MATRIX_MISMATCH p ∈ d.raised))
      ∧ (leVal ((bs.drop 2).take 2) = b.rd CAN.P_MATRIX_ID p → 1000 * leVal ((bs.drop 12).take 2) = b.cycleNs p →
        b.flag CAN.P_IS_MASTER p = false → b.timeFrom ≠ 3 → let cyc := bs.getD 0 0 % 64
        let n := b.matrixCycles p
        ∃ d : Dev, exec (.referenceMessage p prio bs) s = .next { s with dev := d.finish }
        ∧ d.rd CAN.P_MASTER_PRIO p = prio % 8 ∧ d.rd CAN.P_CYCLE p = cyc ∧ tget? p d.net.marks = some b.mt ∧ tget? p d.net.refRun = some cyc
        ∧ (b.rd CAN.P_SYNC p = 1 → tget? p b.net.refRun = some ((cyc + n - 1) % n) → d.rd CAN.P_SYNC p = 2)
        ∧ (b.rd CAN.P_SYNC p = 1 → tget? p b.net.refRun ≠ some ((cyc + n - 1) % n) → d.rd CAN.P_SYNC p = 1)
        ∧ (b.rd CAN.P_SYNC p = 2 → d.rd CAN.P_SYNC p = 2) ∧ (b.rd CAN.P_SYNC p = 3 → d.rd CAN.P_SYNC p = 1)))
    ∧ (∀ t, b.canTT p = true → b.busOff p = false → b.refAllowed p = true → 1 ≤ b.rd CAN.P_REF_PRIO p → b.rd ETH.JOIN_STATE = 2 →
      b.flag ETH.IS_LEADER = false → b.rd ETH.TIME_ROLE ≠ 3 → b.flag CAN.P_IS_MASTER p = false → b.nextMark p = some t → ∃ d : Dev,
      exec (.backupReferenceSend p) s = .next { s with dev := d.finish }
      ∧ (b.running = true → t + 20000 * b.rd CAN.P_REF_PRIO p ≤ d.mt) ∧ p ∈ d.net.backup ∧ d.flag CAN.P_IS_MASTER p = true ∧ d.rd CAN.P_SYNC p = 2
      ∧ ∃ x, x.length = 16 ∧ .can p (b.rd CAN.REF_ID_BASE + b.rd CAN.P_REF_PRIO p) x ∈ d.out)
    ∧ (∀ busy won, b.canTT p = true → b.running = true → b.busOff p = false →
      (b.flag CAN.P_IS_MASTER p = true → ∃ d : Dev, exec (.canWindow p 0 busy won) s = .next { s with dev := d.finish }
        ∧ d.rd CAN.P_SYNC p = 2 ∧ ∃ x, x.length = 16 ∧ .can p (b.rd CAN.REF_ID_BASE + b.rd CAN.P_REF_PRIO p) x ∈ d.out)
      ∧ (b.flag CAN.P_IS_MASTER p = false → exec (.canWindow p 0 busy won) s = .next { s with dev := b.finish }))
    ∧ (∀ busy won start len0 slot m, b.canTT p = true → b.running = true → start ≠ 0 → tget? p b.net.marks = some m → b.windowEntries p start = [(1, len0, slot)] →
      ((∀ id len src, .canSlot p slot id len src ∉ b.itemsOf 13) → b.rd CAN.P_SYNC p = 2 → ∃ d : Dev,
        exec (.canWindow p start busy won) s = .next { s with dev := d.finish } ∧ m + 1000 * start ≤ d.mt ∧ d.rd CAN.P_TX_LATE p = satInc 16 (b.rd CAN.P_TX_LATE p) ∧ d.out = b.out
        ∧ onlyKeys [CAN.P_TX_LATE.key p 0] b d)
      ∧ (∀ id len src bs, .canSlot p slot id len src ∈ b.itemsOf 13 → (∀ id' len' src', .canSlot p slot id' len' src' ∈ b.itemsOf 13 → id' = id ∧ len' = len) →
        tget? (64 * p + slot) b.net.slots = some bs → ∃ d : Dev,
        exec (.canWindow p start busy won) s = .next { s with dev := d.finish } ∧ m + 1000 * start ≤ d.mt
        ∧ (b.busOff p = false → b.rd CAN.P_SYNC p = 2 → d.out = b.out ++ [.can p id (padTo len bs)] ∧ tget? (64 * p + slot) d.net.slots = none ∧ d.regs = b.regs)
        ∧ (b.busOff p = true → d.out = b.out ∧ tget? (64 * p + slot) d.net.slots = none ∧ d.rd CAN.P_MISSED_WIN p = satInc 16 (b.rd CAN.P_MISSED_WIN p))
        ∧ (b.busOff p = false → b.rd CAN.P_SYNC p ≠ 2 → d.out = b.out ∧ d.net = b.net ∧ d.regs = b.regs)))
    ∧ (∀ n id lo len pt bs ty x, b.canOn p = true → b.busOff p = false → b.rd CAN.P_KIND p = 1 → b.running = true →
      .rxMap n p id lo len pt ∈ b.itemsOf 13 → (∀ k q i l w, .rxMap k q i l w pt ∈ b.itemsOf 13 → (k, q, i, l, w) = (n, p, id, lo, len)) →
      (∃ cans eth carsil tmo, .netNode n cans eth carsil tmo ∈ b.itemsOf 13 ∧ p ∈ cans) → b.pointRow pt = some (ty, x) → ∃ d : Dev,
      exec (.canFrameRx p id (some bs)) s = .next { s with dev := d.finish }
      ∧ (d.point pt).value = layoutValue ty (frameBits bs lo len) ∧ (d.point pt).status = stValid ∧ (d.point pt).stamp = b.mt
      ∧ tget? n d.net.heard = some b.now ∧ (n < 2048 → (d.rd CAN.NODE_LOST (n / 32)).testBit (n % 32) = false))
    ∧ (b.isoOn p = true →
      (∀ a, tget? p b.net.claiming = some a →
        (∃ d : Dev, exec (.addressClaim p none) s = .next { s with dev := d.finish } ∧ d.rd CAN.P_ISO_ADDR p = a % 256
          ∧ (d.rd CAN.ISO_CLAIMED).testBit p = true ∧ tget? p d.net.claiming = none ∧ .recover Flt.CAN_ISO_ADDR_LOST p ∈ d.raised)
        ∧ (∀ n, b.isoName p ≤ n → exec (.addressClaim p (some n)) s = .next { s with dev := (b.emit (.can p (isoId 6 0xEE 0xFF a) (leBytes 8 (b.isoName p)))).finish })
        ∧ (∀ n, n < b.isoName p → (b.isoName p).testBit 63 = true → a ≠ 247 → ∃ d : Dev,
          exec (.addressClaim p (some n)) s = .next { s with dev := d.finish } ∧ tget? p d.net.claiming = some (if a < 128 then 128 else a + 1) ∧ d.rd CAN.P_ISO_ADDR p = 0xFE)
        ∧ (∀ n, n < b.isoName p → ((b.isoName p).testBit 63 = false ∨ a = 247) → ∃ d : Dev,
          exec (.addressClaim p (some n)) s = .next { s with dev := d.finish } ∧ tget? p d.net.claiming = none ∧ d.rd CAN.P_ISO_ADDR p = 0xFE
          ∧ .fault Flt.CAN_ISO_ADDR_LOST p ∈ d.raised ∧ d.out = b.out ++ [.can p (isoId 6 0xEE 0xFF 0xFE) (leBytes 8 (b.isoName p))]))
      ∧ (tget? p b.net.claiming = none → b.isoAddr p = 0xFE → ∃ d : Dev, exec (.addressClaim p none) s = .next { s with dev := d.finish }
        ∧ tget? p d.net.claiming = some (b.isoPref p) ∧ d.regs = b.regs ∧ (∀ t, tget? p b.net.cannotAt = some t → t + 1000000000 ≤ d.now))
      ∧ (∀ id bs, isoPs id = b.isoAddr p → isoPs id ≠ 255 → isoPf id = 0xEC → bs.getD 0 0 = 16 → leVal ((bs.drop 1).take 2) ≤ 1048576 →
        (b.net.sessions.filter fun x => decide (x.port = p ∧ x.rx = true)).length < 8 → ∃ d : Dev,
        exec (.transportProtocol p id bs) s = .next { s with dev := d.finish }
        ∧ ⟨p, true, isoSa id, leVal ((bs.drop 5).take 3), false, false, leVal ((bs.drop 1).take 2), [], 0⟩ ∈ d.net.sessions ∧ d.regs = b.regs)
      ∧ (∀ id bs, isoPs id = b.isoAddr p → isoPs id ≠ 255 → isoPf id = 0xC8 → bs.getD 0 0 = 20 → 1048576 < leVal ((bs.drop 1).take 4) → ∃ d : Dev,
        exec (.transportProtocol p id bs) s = .next { s with dev := d.finish }
        ∧ d.out = b.out ++ [.can p (isoId 7 0xC8 (isoSa id) (b.isoAddr p)) ([255, 2, 255, 255, 255] ++ leBytes 3 (leVal ((bs.drop 5).take 3)))] ∧ d.regs = b.regs))
    ∧ (∀ g dest el ddi pts, b.isoOn p = true → b.isoAddr p ≠ 0xFE → .condGroup g p dest el ddi pts ∈ b.itemsOf 13 →
      (∀ q x y z w, .condGroup g q x y z w ∈ b.itemsOf 13 → (q, x, y, z, w) = (p, dest, el, ddi, pts)) → ∃ d : Dev,
      exec (.processData g) s = .next { s with dev := d.finish }
      ∧ d.out = b.out ++ [.can p (isoId 3 0xCB dest (b.isoAddr p)) (leBytes 2 (3 + 16 * el) ++ leBytes 2 ddi ++ leBytes 4 (b.condValue pts))]
      ∧ tget? g d.net.condSent = some (b.condValue pts, d.now)
      ∧ (∀ t, tget? g b.net.condSent = some (b.condValue pts, t) → t + 1000000000 ≤ d.now))
    ∧ (∀ n cans eth carsil tmo, n < 2048 → .netNode n cans eth carsil tmo ∈ b.itemsOf 13 → (∀ c e a t, .netNode n c e a t ∈ b.itemsOf 13 → t = tmo) →
      (b.rd CAN.NODE_LOST (n / 32)).testBit (n % 32) = false → ∃ d : Dev, exec (.nodeTimeout n) s = .next { s with dev := d.finish }
      ∧ (d.rd CAN.NODE_LOST (n / 32)).testBit (n % 32) = true ∧ .fault Flt.NET_NODE_LOST n ∈ d.raised
      ∧ (tget? n b.net.heard).getD b.net.joinAt + tmo * 1000000 ≤ d.now
      ∧ ∀ pt ty f, .point pt ty (.node n) f ∈ b.itemsOf 15 → (d.point pt).status / stLost % 2 = 1 ∧ (d.point pt).value = (b.point pt).value)

/-- Ethernet, network time and joined systems (R358 to R373). -/
def Obligations.JoinedSystems : Prop :=
  (∀ s : State, let b := s.dev.begin
    b.live 15 → b.wait = [] →
    (∀ p ptp, b.asPort p = true → b.running = true → b.timeFrom = 2 → b.mtDisc = 2 →
      (b.net.syncPort = none ∨ b.net.syncPort = some p → ∃ d e : Dev, exec (.syncMsg p 0 ptp) s = .next { s with dev := d.finish }
        ∧ e = ppsEdgeMeasure 2 ((ptp : Int) - 315964819000000000) { b with net := { b.net with syncPort := some p } }
        ∧ d.net.syncPort = some p ∧ d.net.timeBad = (if 100000 < (e.rdS TMB.MT_ERR).natAbs then b.net.timeBad + 1 else 0)
        ∧ (100000 < (e.rdS TMB.MT_ERR).natAbs → b.net.timeBad = 1 → d.flag TMB.HOLD_NET = true ∧ .fault Flt.NET_TIME_DISAGREE 0 ∈ d.raised))
      ∧ (∀ q, b.net.syncPort = some q → q ≠ p → exec (.syncMsg p 0 ptp) s = .next { s with dev := b.finish }))
    ∧ (b.running = true → let e := match b.net.syncSentAt with | some t => b.waitUntil (t + b.syncInterval) | none => b
      ∃ d : Dev, exec .syncSend s = .next { s with dev := d.finish } ∧ d.regs = b.regs ∧ d.net.syncSentAt = some e.now ∧ d.now = e.now
      ∧ (∀ t, b.net.syncSentAt = some t → t + b.syncInterval ≤ e.now) ∧ ∀ p < 6, b.asRole p = 1 → .eth p 3 0 e.ptpNow ∈ d.out)
    ∧ (∀ p, b.asPort p = true →
      exec (.announceMsg p) s = .next { s with dev := (b.count ETH.FOREIGN_ANN).finish }
      ∧ exec (.pdelayReq p) s = .next { s with dev := (b.emit (.eth p 4 0 (b.ptpNow ++ b.ptpNow))).finish })
    ∧ (∀ p ip, b.ethOn p = true →
      (ip = b.rd ETH.P_IPV4 p → exec (.arpRequest p ip) s = .next { s with dev := (b.emit (.eth p 5 ip (leBytes 4 ip))).finish })
      ∧ (ip ≠ b.rd ETH.P_IPV4 p → exec (.arpRequest p ip) s = .next { s with dev := b.finish }))
    ∧ (∀ p dst frag bad bs, b.ethOn p = true →
      (dst ≠ 40710 → dst ≠ 40711 → exec (.udpDatagram p dst frag bad bs) s = .next { s with dev := (b.emit (.ring p bs)).finish })
      ∧ (dst = 40710 ∨ dst = 40711 → frag = true ∨ bad = true ∨ p = 6 →
          exec (.udpDatagram p dst frag bad bs) s = .next { s with dev := (b.count ETH.DGRAM_DROP).finish })
      ∧ (p ≠ 6 → bs.getD 0 0 = 0x11 → exec (.udpDatagram p 40711 false false bs) s = exec (.statusMsg bs) s)
      ∧ (p ≠ 6 → bs.getD 0 0 = 0x12 → exec (.udpDatagram p 40711 false false bs) s = exec (.safeMsg bs) s)
      ∧ (p ≠ 6 → bs.getD 0 0 = 0x13 → exec (.udpDatagram p 40711 false false bs) s = exec (.mirrorMsg bs) s))
    ∧ (∀ p < 7,
      ((b.rd ETH.LINK_UP).testBit p = true → ∃ d : Dev, exec (.ethLinkDown p) s = .next { s with dev := d.finish }
        ∧ (d.rd ETH.LINK_UP).testBit p = false ∧ d.rd ETH.P_LINK_DOWNS p = satInc 16 (b.rd ETH.P_LINK_DOWNS p) ∧ .fault Flt.ETH_LINK_DOWN p ∈ d.raised
        ∧ onlyKeys [ETH.LINK_UP.key 0 0, ETH.P_LINK_DOWNS.key p 0, ETH.EVT.key 0 0] b d)
      ∧ ((b.rd ETH.LINK_UP).testBit p = false → ∃ d : Dev, exec (.ethLinkUp p) s = .next { s with dev := d.finish }
        ∧ (d.rd ETH.LINK_UP).testBit p = true ∧ .recover Flt.ETH_LINK_DOWN p ∈ d.raised ∧ onlyKeys [ETH.LINK_UP.key 0 0] b d))
    ∧ (let w := match b.net.statusAt with | some t => b.waitUntil (t + b.peerPeriod * ms) | none => b
      let e := { w with net := { w.net with statusAt := some w.now } }.elect
      exec .statusSend s = .next { s with dev := (statusSend e).finish } ∧ (∀ t, b.net.statusAt = some t → t + b.peerPeriod * ms ≤ w.now)
      ∧ (statusSend e).regs = e.regs
      ∧ ∃ x, x.length = 96 ∧ x.getD 0 0 = 0x11 ∧ x.getD 1 0 = e.rd ETH.OWN_ADDR ∧ x.getD 8 0 = e.mode ∧ x.getD 10 0 = e.rd ETH.LEADER_ADDR
        ∧ ∀ p ∈ e.peerPorts, .eth p 2 subnetBroadcast x ∈ (statusSend e).out)
    ∧ (∀ bs, bs.length = 96 → bs.getD 0 0 = 0x11 → b.rd ETH.JOIN_STATE ≠ 0 → bs.getD 1 0 ≠ b.rd ETH.OWN_ADDR →
      (b.peerIndex (bs.getD 1 0) = none → exec (.statusMsg bs) s = .next { s with dev := (b.count ETH.UNKNOWN_PEER).finish })
      ∧ (∀ e, b.peerIndex (bs.getD 1 0) = some e → ∃ d : Dev, exec (.statusMsg bs) s = .next { s with dev := d.finish }
        ∧ (d.rd ETH.PEER_SEEN).testBit e = true ∧ (d.peer e).heardAt = b.now ∧ (d.peer e).hash = (bs.drop 24).take 48
        ∧ (d.peer e).fw = leVal ((bs.drop 12).take 4) ∧ d.rd ETH.PE_MODE e = bs.getD 8 0 % 16 ∧ (d.rd ETH.PEER_LAG).testBit e = (bs.getD 9 0).testBit 6))
    ∧ (∀ e < 16, (b.rd ETH.PEER_SEEN).testBit e = true → ∃ d : Dev, exec (.peerLoss e) s = .next { s with dev := d.finish }
      ∧ (d.rd ETH.PEER_SEEN).testBit e = false ∧ d.rd ETH.PEER_LOSSES = satInc 16 (b.rd ETH.PEER_LOSSES) ∧ .fault Flt.NET_PEER_LOST e ∈ d.raised
      ∧ (b.peer e).heardAt + b.peerLossN * b.peerPeriod * 1000000 ≤ d.now
      ∧ ∀ pt ty f, .point pt ty (.peer e) f ∈ b.itemsOf 15 → (d.point pt).status / stLost % 2 = 1 ∧ (d.point pt).value = (b.point pt).value)
    ∧ (b.rd ETH.JOIN_STATE = 1 → ∃ d : Dev, exec .joinWaitEnd s = .next { s with dev := d.finish } ∧ b.net.joinAt + b.joinWait * 1000000 ≤ d.now
      ∧ (b.ownKey ≠ b.chosenKey → d.rd ETH.JOIN_STATE = 3 ∧ .fault Flt.NET_PEER_EXCLUDED 0 ∈ d.raised)
      ∧ (b.ownKey = b.chosenKey → b.net.agreed = true → d.rd ETH.JOIN_STATE = 2))
    ∧ (let e := b.waitUntil (b.nextPeriod ms b.net.mirrorAt)
      b.rd ETH.JOIN_STATE = 2 → e.mirrorDue ≠ [] → ∃ d : Dev, exec .mirrorSend s = .next { s with dev := d.finish }
      ∧ b.nextPeriod ms b.net.mirrorAt ≤ d.now ∧ d.now = e.now ∧ d.net.mirrorAt = some e.now
      ∧ d.rd ETH.MIRROR_DEFER = satN 16 (b.rd ETH.MIRROR_DEFER + (e.mirrorDue.length - 58)) ∧ onlyKeys [ETH.MIRROR_DEFER.key 0 0] b d
      ∧ (∀ q ∈ e.mirrorDue.take 58, tget? q.2 d.net.mirrored = some ((b.point q.2).seq, e.now))
      ∧ ∃ x, x.length = 16 + 24 * Nat.min 58 e.mirrorDue.length ∧ x.getD 0 0 = 0x13 ∧ ∀ p ∈ b.peerPorts, .eth p 2 subnetBroadcast x ∈ d.out)
    ∧ (∀ bs e, b.peerIndex (bs.getD 1 0) = some e → (b.peer e).excluded = true ∨ b.peerGone e = true → exec (.mirrorMsg bs) s = .next { s with dev := b.finish })
    ∧ (∀ bs e, bs.getD 0 0 = 0x13 → bs.length = 40 → leVal ((bs.drop 8).take 2) = 1 → b.rd ETH.JOIN_STATE = 2 → bs.getD 1 0 ≠ b.rd ETH.OWN_ADDR →
      b.peerIndex (bs.getD 1 0) = some e → (b.peer e).excluded = false → b.peerGone e = false → b.running = true →
      exec (.mirrorMsg bs) s = .next { s with dev := (b.mirrorTake e ((bs.drop 16).take 24)).finish })
    ∧ (∀ bs, bs.length = 16 → bs.getD 0 0 = 0x12 → b.rd ETH.JOIN_STATE ≠ 0 → bs.getD 1 0 ≠ b.rd ETH.OWN_ADDR → b.peerIndex (bs.getD 1 0) ≠ none →
      (b.mode = 7 → exec (.safeMsg bs) s = .next { s with dev := b.finish })
      ∧ (b.safeNow = true → ∃ d : Dev, exec (.safeMsg bs) s = .next { s with dev := d.finish } ∧ d.mode = 7 ∧ d.rd FLT.SAFE_CAUSE = 2
        ∧ .fault Flt.NET_SAFE_PROPAGATED 0 ∈ d.raised))
    ∧ (b.net.safeRepeat = none → exec .safeMessageRepeat s = .next { s with dev := b.finish })
    ∧ (∀ cause n t, b.net.safeRepeat = some (cause, n, t) → ∃ d : Dev, exec .safeMessageRepeat s = .next { s with dev := d.finish }
      ∧ t ≤ d.now ∧ d.net.safeRepeat = (if n ≤ 1 then none else some (cause, n - 1, t + 1000000)) ∧ d.regs = b.regs
      ∧ ∃ x, x.length = 16 ∧ x.getD 0 0 = 0x12 ∧ x.getD 8 0 = cause ∧ ∀ p ∈ b.peerPorts, .eth p 2 subnetBroadcast x ∈ d.out))
  ∧ (∀ (d : Dev) (e q : Nat) (r : List Nat) (ty : PtType) (x : Nat), d.pointRow (leVal (r.take 4) % 2 ^ 17) = some (ty, .peer q, x) →
      let n := leVal (r.take 4) % 2 ^ 17
      (q ≠ e → d.mirrorTake e r = d)
      ∧ (q = e → ((d.mirrorTake e r).point n).value = layoutValue ty (leVal ((r.drop 4).take 4)) ∧ ((d.mirrorTake e r).point n).status = leVal ((r.drop 8).take 2)
          ∧ ((d.mirrorTake e r).point n).seq = leVal ((r.drop 10).take 2) ∧ ((d.mirrorTake e r).point n).stamp = d.mtOfNet (leVal ((r.drop 12).take 8))))

/-! The queue fabric (chapter 15). -/

/-- Writing, spilling, presenting, taking, flushing and staleness of a queue (R380 to R393). -/
def Obligations.QueueFabric : Prop :=
  (∀ (s : State) (q : Nat), let b := s.dev.begin
    b.live 16 → b.wait = [] → q < 64 → let h := b.queue q
    let part : Nat → Nat := fun w => w % 2 ^ (8 * 2 ^ b.rd QUE.Q_WIDTH q)
    (∀ w, (b.builtWith q 0x3F = true →
        exec (.wrStart q w) s = .next { s with dev := (b.queueWord q .start (part w)).busOk.finish }
        ∧ exec (.wrCont q w) s = .next { s with dev := (b.queueWord q .cont (part w)).busOk.finish }
        ∧ exec (.wrEnd q w) s = .next { s with dev := (b.queueWord q .stop (part w)).busOk.finish }
        ∧ exec (.wrOne q w) s = .next { s with dev := (b.queueWord q .one (part w)).busOk.finish })
      ∧ (b.builtWith q 0x3F = false →
        exec (.wrStart q w) s = .next { s with dev := b.busError.finish } ∧ exec (.wrCont q w) s = .next { s with dev := b.busError.finish }
        ∧ exec (.wrEnd q w) s = .next { s with dev := b.busError.finish } ∧ exec (.wrOne q w) s = .next { s with dev := b.busError.finish })
      ∧ ∀ mk, b.rd QUE.Q_CLASS q ≠ 0 → b.rd QUE.Q_PRODUCER q ≠ 0x3F →
        exec (.queueWordWrite q mk w) s = .next { s with dev := (b.queueWord q mk (part w)).finish })
    ∧ (∀ e t, h.waiting = some (e, t) → ∃ d : Dev, exec (.tailWaitTimeout q) s = .next { s with dev := d.finish }
      ∧ t + 2000 ≤ d.now ∧ d.rd QUE.Q_SPILL_LATE q = satInc 8 (b.rd QUE.Q_SPILL_LATE q) ∧ d.rd QUE.Q_DROPS q = satInc 16 (b.rd QUE.Q_DROPS q)
      ∧ d.rd QUE.LAST_DROP_Q = q
      ∧ ∀ old own, h.all = old ++ own → (∀ x ∈ old, x.seq ≠ e.seq) → (∀ x ∈ own, x.seq = e.seq ∧ x.last = false) →
        ∀ x ∈ (d.queue q).all, x.seq = e.seq → x.void = true)
    ∧ (h.waiting = none → exec (.tailWaitTimeout q) s = .next { s with dev := b.finish })
    ∧ ((∀ e ∈ h.all, e.void = false) → h.waiting = none →
      (∀ n, let k := Nat.min (Nat.min n 8) (b.spillable q)
        ∃ d : Dev, exec (.brineSpill q n) s = .next { s with dev := d.finish } ∧ (d.queue q).all = h.all ∧ b.now + 32 * k ≤ d.now
        ∧ k ≤ Nat.min n 8 ∧ k ≤ h.tail.length
        ∧ (0 < k → (d.queue q).middle.length = h.middle.length + k ∧ (d.queue q).tail.length + k = h.tail.length ∧ (d.queue q).head = h.head))
      ∧ (∀ n, let k := Nat.min (Nat.min (Nat.min n 8) (16 - h.head.length)) h.middle.length
        ∃ d : Dev, exec (.brineRefill q n) s = .next { s with dev := d.finish } ∧ (d.queue q).all = h.all ∧ b.now + 32 * k ≤ d.now
        ∧ h.head.length + k ≤ (d.queue q).head.length)
      ∧ (∀ e rest, h.head = e :: rest →
        (b.coreConsumes q = true →
          (∀ fgen, h.fgen = fgen → h.presented.isSome = true → ∃ d : Dev, exec (.popEntry q fgen) s = .next { s with dev := d.busOk.finish }
            ∧ (d.queue q).all = h.all.drop 1 ∧ (d.queue q).presented = none ∧ (d.queue q).lastPopOk = true ∧ (d.queue q).fgen = h.fgen
            ∧ (b.flag QUE.Q_STALE q = true → d.flag QUE.Q_STALE q = false ∧ .recover Flt.QUE_STALE q ∈ d.raised))
          ∧ (∀ fgen, h.fgen = fgen → h.presented.isSome = true → ∃ d : Dev, exec (.popItem q fgen) s = .next { s with dev := d.busOk.finish }
            ∧ (d.queue q).all = behindItem h.all
            ∧ (d.queue q).presented = none ∧ (d.queue q).lastPopOk = true))
        ∧ (h.presented.isSome = true → b.rd QUE.Q_CONSUMER q ≠ 0x3F → b.rd QUE.Q_CONSUMER q ≠ 14 → b.rd QUE.Q_CONSUMER q ≠ 15 →
          ∃ d : Dev, exec (.dataPathTake q) s = .next { s with dev := d.finish } ∧ (d.queue q).presented = none
          ∧ (h.spoilt = false → (d.queue q).all = h.all.drop 1 ∧ d.rd QUE.Q_CONS_DISC q = b.rd QUE.Q_CONS_DISC q)
          ∧ (h.spoilt = true → (d.queue q).all = behindItem h.all
            ∧ d.rd QUE.Q_CONS_DISC q = satInc 8 (b.rd QUE.Q_CONS_DISC q)))
        ∧ (b.rd QUE.Q_CLASS q = 1 → h.presented = none → h.complete = true →
          (∃ d : Dev, exec (.entryPresentation q .clean) s = .next { s with dev := d.finish }
            ∧ (d.queue q).presented = some false ∧ (d.queue q).all = h.all ∧ d.rdPair QUE.READY_LO QUE.READY_HI q = true
            ∧ (∀ k < 8, d.rd QUE.W_HEAD q k = leWord k e.data % 2 ^ 32) ∧ (b.flag QUE.Q_PRIV q = true → (d.queue q).staleFrom = some d.now)
            ∧ b.presentAt q ≤ d.now ∧ ((itemOf h.all).getLast?.map fun x => x.formedAt).getD 0 ≤ d.now)
          ∧ (∃ d : Dev, exec (.entryPresentation q .corrected) s = .next { s with dev := d.finish }
            ∧ (d.queue q).presented = some false ∧ (d.queue q).all = h.all ∧ d.rd QUE.Q_CORR_COUNT q = satInc 16 (b.rd QUE.Q_CORR_COUNT q))
          ∧ (∃ d : Dev, exec (.entryPresentation q .lane) s = .next { s with dev := d.finish }
            ∧ (d.queue q).presented = some true ∧ (d.queue q).all = h.all ∧ d.rd QUE.Q_POISONED q = satInc 16 (b.rd QUE.Q_POISONED q)
            ∧ d.rd QUE.LAST_POISON_Q = q ∧ .fault Flt.QUE_UNCORRECTABLE q ∈ d.raised)
          ∧ (∃ d : Dev, exec (.entryPresentation q .tag) s = .next { s with dev := d.finish }
            ∧ (d.queue q).presented = some true ∧ .fault Flt.QUE_UNCORRECTABLE q ∈ d.raised
            ∧ (d.queue q).head.head? = some { e with first := true, last := true, valid := 32, seq := 0, broken := false }))
        ∧ (b.rd QUE.Q_CLASS q = 2 → h.presented = none → h.complete = true → ∃ d : Dev,
          exec (.entryPresentation q .clean) s = .next { s with dev := d.finish } ∧ (d.queue q).presented = some false ∧ e.formedAt + 16384 ≤ d.now)))
    ∧ (h.presented.isSome = true ∨ h.head = [] → ∀ err, exec (.entryPresentation q err) s = .next { s with dev := b.finish })
    ∧ ((∀ e ∈ h.all, e.void = false) → h.waiting = none → h.presented = none → h.head ≠ [] → h.complete = false → ∀ err,
      let d := (b.waitUntil (b.presentAt q)).queueMove q
      exec (.entryPresentation q err) s = .next { s with dev := d.finish } ∧ (d.queue q).all = h.all ∧ (d.queue q).presented = none)
    ∧ (b.coreConsumes q = true → ∀ fgen, h.fgen ≠ fgen ∨ h.presented = none →
      ∃ d : Dev, exec (.popEntry q fgen) s = .next { s with dev := d.busOk.finish } ∧ exec (.popItem q fgen) s = .next { s with dev := d.busOk.finish }
      ∧ d.queue q = { h with lastPopOk := false } ∧ d.flag QUE.EVT_POP_REFUSED = true)
    ∧ (b.coreConsumes q = false → ∀ fgen,
      exec (.popEntry q fgen) s = .next { s with dev := b.busError.finish } ∧ exec (.popItem q fgen) s = .next { s with dev := b.busError.finish })
    ∧ (h.presented = none → exec (.dataPathTake q) s = .next { s with dev := b.finish })
    ∧ (b.rd QUE.Q_CLASS q = 0 → exec (.flush q) s = .next { s with dev := b.busOk.finish })
    ∧ (b.rd QUE.Q_CLASS q ≠ 0 → ∃ d : Dev, exec (.flush q) s = .next { s with dev := d.busOk.finish }
      ∧ (d.queue q).all = [] ∧ (d.queue q).presented = none ∧ (d.queue q).waiting = none ∧ (d.queue q).item = none
      ∧ (d.queue q).fgen = (h.fgen + 1) % 8 ∧ (d.queue q).discarding = (h.discarding || h.item.isSome)
      ∧ d.rd QUE.Q_OCC q = 0 ∧ d.rd QUE.Q_FLUSH_COUNT q = satInc 16 (b.rd QUE.Q_FLUSH_COUNT q)
      ∧ ∀ r, r ≠ q → d.queue r = b.queue r)
    ∧ (∀ t, b.flag QUE.Q_PRIV q = true → b.rd QUE.Q_PRIV_IDX q < 8 → h.presented.isSome = true → b.flag QUE.Q_STALE q = false → h.staleFrom = some t →
      ∃ d : Dev, exec (.queueStale q) s = .next { s with dev := d.finish }
      ∧ d.flag QUE.Q_STALE q = true ∧ (d.rd QUE.STALE_PRIV).testBit (b.rd QUE.Q_PRIV_IDX q) = true ∧ .fault Flt.QUE_STALE q ∈ d.raised
      ∧ t + 1000 * clampN 10 10000000 (b.rd QUE.Q_STALE_US q) ≤ d.now ∧ d.que = b.que)
    ∧ (b.flag QUE.Q_PRIV q = false → exec (.queueStale q) s = .next { s with dev := b.finish }))
  ∧ (∀ (d : Dev) (q w : Nat), q < 64 → d.rd QUE.Q_WIDTH q < 4 → d.wait = [] → let h := d.queue q
    let bs := leBytes (2 ^ d.rd QUE.Q_WIDTH q) w
    let join : List Nat → Bool → Bool → Nat → List QEntry := fun held first last n => [⟨padTo 32 held, held.length, first, last, false, n, false, Nat.max d.now (h.portAt + 4)⟩]
    (∀ e ∈ h.all, e.void = false) → h.waiting = none →
    (h.item = none → let e := d.queueWord q .start w
      (e.queue q).item = some (h.nextSeq, bs, false) ∧ (e.queue q).nextSeq = (h.nextSeq + 1) % 65536 ∧ (e.queue q).discarding = false
      ∧ (e.queue q).all = h.all ∧ e.flag QUE.Q_OPEN_ITEM q = true)
    ∧ (h.item = none ∨ h.discarding = true → ∀ mk, mk = .cont ∨ mk = .stop → let e := d.queueWord q mk w
      (e.queue q).all = h.all ∧ (e.queue q).item = h.item ∧ e.rd QUE.Q_DISC_WORDS q = satInc 16 (d.rd QUE.Q_DISC_WORDS q))
    ∧ (∀ seq held formed, h.item = some (seq, held, formed) → h.discarding = false → (held ++ bs).length < 32 →
      ((d.queueWord q .cont w).queue q).item = some (seq, held ++ bs, formed) ∧ ((d.queueWord q .cont w).queue q).all = h.all)
    ∧ (h.occ < d.capacity q → (d.rd QUE.Q_CLASS q = 1 ∧ h.tail.length < 16) ∨ (d.rd QUE.Q_CLASS q = 2 ∧ h.middle = [] ∧ h.tail = []) →
      (h.item = none → ((d.queueWord q .one w).queue q).all = h.all ++ join bs true true h.nextSeq
        ∧ ((d.queueWord q .one w).queue q).item = none)
      ∧ (∀ seq held formed, h.item = some (seq, held, formed) → h.discarding = false →
        (((d.queueWord q .stop w).queue q).all = h.all ++ join (held ++ bs) (!formed) true seq ∧ ((d.queueWord q .stop w).queue q).item = none)
        ∧ (32 ≤ (held ++ bs).length → ((d.queueWord q .cont w).queue q).all = h.all ++ join (held ++ bs) (!formed) false seq
          ∧ ((d.queueWord q .cont w).queue q).item = some (seq, [], true))))
    ∧ (d.capacity q ≤ h.occ → h.item = none → h.second = none → (∀ e ∈ h.all, e.seq ≠ h.nextSeq) → let e := d.queueWord q .one w
      (e.queue q).all = h.all ∧ e.rd QUE.Q_DROPS q = satInc 16 (d.rd QUE.Q_DROPS q) ∧ e.rd QUE.LAST_DROP_Q = q ∧ (e.queue q).item = none))
  ∧ (∀ (d : Dev) (q : Nat), q < 64 → let e := d.queueMove q
    e.rd QUE.Q_OCC q = (e.queue q).occ % 2 ^ 21
    ∧ e.flag QUE.Q_BACKP q = backpAfter (e.highWm q) (e.lowWm q) (e.queue q).occ (d.flag QUE.Q_BACKP q))

/-! The recorder and thermal supervision (chapter 16). -/

/-- Storing, reading, clearing and USER records (R396 to R405); a thermal sample (R407 to R413). -/
def Obligations.RecorderAndThermal : Prop :=
  (∀ s : State, let b := s.dev.begin
    b.live 17 → let no := b.rd REC.REC_NEXT
    (b.recd.backlog = [] → exec .recordStore s = .next { s with dev := b.finish })
    ∧ (∀ r rest, b.recd.backlog = r :: rest → rest.length < 64 → no < 2 ^ 32 → b.rd REC.REC_TIDE_OLDEST < 2 ^ 32 → ∃ d : Dev,
      exec .recordStore s = .next { s with dev := d.finish }
      ∧ (b.recd.lostSince = 0 → (b.rd REC.REC_MODE ≠ 1 ∨ b.tideCount < 9216) → d.recd.backlog = rest ∧ d.rd REC.BACKLOG = rest.length)
      ∧ (b.recd.lostSince ≠ 0 → d.flag REC.FULL = false → d.recd.lostSince = 0 ∧ ∃ l : Rec, d.recd.backlog = rest ++ [l] ∧ l.kind = 9)
      ∧ (b.rd REC.REC_MODE ≠ 1 →
        d.rd REC.REC_NEXT = (no + 1) % 2 ^ 32 ∧ tget? no d.recd.stored = some (recBytes no r)
        ∧ (b.recd.crustOpen = true → b.rd REC.REC_CRUST_N < 1024 → d.rd REC.REC_CRUST_N = b.rd REC.REC_CRUST_N + 1
          ∧ d.rd REC.REC_TIDE_OLDEST = (no + 1) % 2 ^ 32 ∧ (d.recd.crustOpen = true ↔ b.rd REC.REC_CRUST_N < 1023))
        ∧ (b.recd.crustOpen = false → b.tideCount < 8192 → d.rd REC.REC_TIDE_OLDEST = b.rd REC.REC_TIDE_OLDEST)
        ∧ (b.recd.crustOpen = false → b.tideCount = 8192 → d.rd REC.REC_TIDE_OLDEST = (b.rd REC.REC_TIDE_OLDEST + 1) % 2 ^ 32
          ∧ d.tideCount = 8192 ∧ tget? (b.rd REC.REC_TIDE_OLDEST) d.recd.stored = none))
      ∧ (b.rd REC.REC_MODE = 1 → b.tideCount < 9216 →
        d.rd REC.REC_NEXT = (no + 1) % 2 ^ 32 ∧ tget? no d.recd.stored = some (recBytes no r)
        ∧ (b.tideCount = 9215 → b.recd.fullRaised = false → d.flag REC.FULL = true ∧ .fault Flt.REC_FULL 0 ∈ d.raised))
      ∧ (b.rd REC.REC_MODE = 1 → 9216 ≤ b.tideCount → b.flag REC.FULL = true →
        d.rd REC.REC_NEXT = no ∧ d.recd.stored = b.recd.stored ∧ d.rd REC.LOST = satInc 16 (b.rd REC.LOST)))
    ∧ (let w := b.waitUntil (b.recd.opsAt + 1000000000)
      ∃ d : Dev, exec .operatingSecond s = .next { s with dev := d.finish } ∧ d.now = w.now ∧ b.recd.opsAt + 1000000000 ≤ d.now
      ∧ d.rd REC.REC_OPS = Nat.min (2 ^ 32 - 1) (b.rd REC.REC_OPS + (w.now - b.recd.opsAt) / 1000000000)
      ∧ (b.now < b.recd.opsAt + 1000000000 → b.rd REC.REC_OPS < 2 ^ 32 → d.rd REC.REC_OPS = satInc 32 (b.rd REC.REC_OPS))
      ∧ onlyKeys [REC.REC_OPS.key 0 0] b d)
    ∧ (∀ n, ∃ d : Dev, exec (.recCursorWrite n) s = .next { s with dev := d.busOk.finish }
      ∧ d.rd REC.REC_CURSOR = n % 2 ^ 32 ∧ d.recd = b.recd
      ∧ (tget? (n % 2 ^ 32) b.recd.stored = none → d.flag REC.HELD = false ∧ d.rd REC.AREA = 0 ∧ ∀ k < 8, d.rd REC.REC_WIN k = 0)
      ∧ (∀ bs, tget? (n % 2 ^ 32) b.recd.stored = some bs → d.flag REC.HELD = true ∧ d.rd REC.AREA = b.areaOf (n % 2 ^ 32)
          ∧ (∀ k < 8, d.rd REC.REC_WIN k = leWord k bs % 2 ^ 32) ∧ (d.flag REC.BAD_CRC = true ↔ crc16 (bs.take 30) ≠ leVal (bs.drop 30))))
    ∧ exec .recWin7Read s = exec (.recCursorWrite ((b.rd REC.REC_CURSOR + 1) % 2 ^ 32)) s
    ∧ (let bs := leBytes 16 (b.free % 2 ^ 128)
      ∃ d : Dev, exec .challenge s = .next { s with dev := d.busOk.finish }
      ∧ bs.length = 16 ∧ d.recd.challenge = some (bs, b.now) ∧ ∀ k < 4, d.rd REC.REC_CHAL k = leWord k bs % 2 ^ 32)
    ∧ (∀ key k, let tok := 16 * b.rd REC.TOKEN_ADDR16
      let signed := tokenSigned s.dram tok b.recd.challenge 2 key k
      let fresh := ∃ c t, b.recd.challenge = some (c, t) ∧ b.now ≤ t + 60000000000
      let refused : Nat → Prop := fun res => ∃ d : Dev, d.rd REC.CLR_RES = res ∧ d.recd = { b.recd with challenge := none }
        ∧ onlyKeys [REC.CLR_RES.key 0 0] b d ∧ exec (.clearTide key k) s = .next { s with dev := d.busOk.finish }
      let fits := key < 4 ∧ b.tokenKey s.dram tok key = true
      let open_ := b.flag REC.CLR_BUSY = false ∧ b.mode = 4 ∧ fresh ∧ b.rd REC.REC_MODE ≠ 1
      (b.flag REC.CLR_BUSY = true → refused 2)
      ∧ (b.flag REC.CLR_BUSY = false → b.mode ≠ 4 → refused 3)
      ∧ (b.flag REC.CLR_BUSY = false → b.mode = 4 → ¬ fresh → refused 4)
      ∧ (b.flag REC.CLR_BUSY = false → b.mode = 4 → fresh → b.rd REC.REC_MODE = 1 → refused 5)
      ∧ (open_ → b.coreMayWrite tok 192 = false → refused 6)
      ∧ (open_ → b.coreMayWrite tok 192 = true → ¬ fits → refused 7)
      ∧ (open_ → b.coreMayWrite tok 192 = true → fits → signed = false → refused 8)
      ∧ (open_ → b.coreMayWrite tok 192 = true → fits → signed = true → ∃ d : Dev, ∃ r : Rec,
        exec (.clearTide key k) s = .next { s with dev := d.busOk.finish }
        ∧ d.rd REC.CLR_RES = 1 ∧ d.flag REC.CLR_BUSY = true ∧ d.recd.challenge = none ∧ d.rd REC.REC_NEXT = no
        ∧ d.rd REC.REC_TIDE_OLDEST = no % 2 ^ 32 ∧ d.rd REC.REC_CRUST_N = b.rd REC.REC_CRUST_N ∧ d.recd.crustOpen = false
        ∧ d.recd.backlog.head? = some r ∧ r.kind = 8
        ∧ r.data = padTo 10 ([2, key] ++ leBytes 4 (if b.rd REC.REC_CRUST_N = 0 then no else b.rd REC.REC_CRUST_FIRST))
        ∧ (∀ n, tget? n d.recd.stored
            = if (n + 2 ^ 32 - b.rd REC.REC_TIDE_OLDEST) % 2 ^ 32 < b.tideCount then none else tget? n b.recd.stored)
        ∧ d.recd.backlog.length = b.recd.backlog.length + 1))
    ∧ (∀ k, let tok := 16 * b.rd REC.TOKEN_ADDR16
      b.flag REC.CLR_BUSY = false → b.mode = 4 → (∃ c t, b.recd.challenge = some (c, t) ∧ b.now ≤ t + 60000000000) → b.coreMayWrite tok 192 = true →
      (b.tokenKey s.dram tok 15 = true → tokenSigned s.dram tok b.recd.challenge 3 15 k = true → ∃ d : Dev, ∃ r : Rec, exec (.clearAll 15 k) s = .next { s with dev := d.busOk.finish }
        ∧ d.rd REC.CLR_RES = 1 ∧ d.flag REC.CLR_BUSY = true ∧ d.recd.stored = [] ∧ d.recd.crustOpen = true ∧ d.recd.latched = false
        ∧ d.rd REC.REC_NEXT = no ∧ d.rd REC.REC_CRUST_N = 0 ∧ d.rd REC.REC_CRUST_FIRST = no % 2 ^ 32 ∧ d.rd REC.REC_TIDE_OLDEST = no % 2 ^ 32
        ∧ d.flag REC.FULL = false ∧ d.recd.backlog.head? = some r ∧ r.kind = 8 ∧ r.data = padTo 10 ([3, 15] ++ leBytes 4 no))
      ∧ (b.tokenKey s.dram tok 15 = true → tokenSigned s.dram tok b.recd.challenge 3 15 k = false → ∃ d : Dev, exec (.clearAll 15 k) s = .next { s with dev := d.busOk.finish }
        ∧ d.rd REC.CLR_RES = 8 ∧ d.recd = { b.recd with challenge := none } ∧ onlyKeys [REC.CLR_RES.key 0 0] b d)
      ∧ (∀ key, key ≠ 15 → ∃ d : Dev, exec (.clearAll key k) s = .next { s with dev := d.busOk.finish }
        ∧ d.rd REC.CLR_RES = 7 ∧ d.recd = { b.recd with challenge := none } ∧ onlyKeys [REC.CLR_RES.key 0 0] b d))
    ∧ (∃ d : Dev, exec .clearEraseDone s = .next { s with dev := d.finish } ∧ d.flag REC.CLR_BUSY = false ∧ onlyKeys [REC.CLR_BUSY.key 0 0] b d)
    ∧ (∀ code, let recent := (b.recd.userAt.filter fun t => decide (b.now < t + 1000000000)).length
      (10 ≤ recent → ∃ d : Dev, exec (.userRecord code) s = .next { s with dev := d.busOk.finish }
        ∧ d.rd REC.USER_RES = 2 ∧ d.recd = b.recd ∧ onlyKeys [REC.USER_RES.key 0 0] b d)
      ∧ (recent < 10 → 64 ≤ b.recd.backlog.length → ∃ d : Dev, exec (.userRecord code) s = .next { s with dev := d.busOk.finish }
        ∧ d.rd REC.USER_RES = 3 ∧ d.recd = b.recd ∧ onlyKeys [REC.USER_RES.key 0 0] b d)
      ∧ (recent < 10 → b.recd.backlog.length < 64 → b.storesNow.recd.backlog.length < 64 → b.storesNow.flag REC.FULL = false → ∃ d : Dev, ∃ r : Rec,
        exec (.userRecord code) s = .next { s with dev := d.busOk.finish }
        ∧ d.rd REC.USER_RES = 1 ∧ d.recd.backlog = b.storesNow.recd.backlog ++ [r] ∧ r.kind = 10 ∧ r.code = code
        ∧ r.data = padTo 10 (leBytes 4 (b.rd REC.REC_USER0) ++ leBytes 4 (b.rd REC.REC_USER1) ++ leBytes 2 (b.rd REC.REC_USER2))
        ∧ b.now ∈ d.recd.userAt)))
  ∧ (∀ (s : State) (g : Nat) (rs : List Int) (load : Nat), let b := s.dev.begin
    b.live 18 → b.wait = [] → g < 4 → b.thm.fcLevel ≤ 2 → b.thm.npuLevel ≤ 7 → rs.length = (thmGroup g).2 → (∀ r ∈ rs, -32768 ≤ r ∧ r < 32768) → ∃ d : Dev,
    exec (.thermalSample g rs load) s = .next { s with dev := d.finish }
    ∧ (b.thmG g).at_ + (if (b.thmG g).fast then 1000000 else 100000000) ≤ d.now
    ∧ d.now = (b.waitUntil ((b.thmG g).at_ + (if (b.thmG g).fast then 1000000 else 100000000))).now ∧ (d.thmG g).at_ = d.now
    ∧ (∀ k < (thmGroup g).2, let i := (thmGroup g).1 + k
      d.rdS THM.RAW i = rs.getD k 0
      ∧ (d.flag THM.SUSPECT i = false → d.rdS THM.USED i = rs.getD k 0)
      ∧ d.rdS THM.USED i ≤ (d.thmG g).g
      ∧ (thmInvalid (rs.getD k 0) = true → d.flag THM.INVALID i = true ∧ d.flag THM.SUSPECT i = true
        ∧ (b.flag THM.SUSPECT i = false → .fault Flt.THM_SUSPECT i ∈ d.raised ∧ d.rd THM.SUSPECTS i = satInc 8 (b.rd THM.SUSPECTS i)))
      ∧ (thmInvalid (rs.getD k 0) = false → d.flag THM.INVALID i = false))
    ∧ (∃ k < (thmGroup g).2, d.rdS THM.USED ((thmGroup g).1 + k) = (d.thmG g).g)
    ∧ (10 * (b.thmCritC g : Int) ≤ (d.thmG g).g → (d.thmG g).crit = true
      ∧ ((b.thmG g).crit = false → (d.rd THM.CRIT).testBit g = true ∧ .fault Flt.THM_CRITICAL g ∈ d.raised))
    ∧ ((d.thmG g).g < 10 * (b.thmCritC g : Int) → (b.thmG g).crit = false → (d.thmG g).crit = false)
    ∧ d.rd THM.FC_DIV = (if (d.thmG 0).crit then 2 else Nat.max d.thm.fcLevel (if 3300 < d.thmBase4 then 2 else if 3100 < d.thmBase4 then 1 else 0))
    ∧ d.rd THM.NPU_SKIP
        = (if (d.thmG 1).crit then 7 else Nat.max d.thm.npuLevel (clampI 0 7 (ceilDivI (d.thmBase4 - 2800) 100)).toNat)
    ∧ d.rd THM.ISP_SKIP = (if (d.thmG 1).crit then 7 else Nat.min (d.rd THM.NPU_SKIP) (b.rd THM.ISP_SKIP_MAX))
    ∧ (g = 0 → 10 * (b.rd THM.FC_DIV4_C : Int) ≤ (d.thmG 0).g → d.thm.fcLevel = 2)
    ∧ (g = 1 → b.thmKt (d.thmG 1).g ≤ d.thm.npuLevel)
    ∧ onlyBlocks [17, 18] b d)

/-! Firmware staging, activation, the owner lock and Opdofy (chapter 17). -/

/-- Staging, activation and the owner lock (R416 to R427). -/
def Obligations.FirmwareUpdate : Prop :=
  ∀ s : State, let b := s.dev.begin
    b.live 20 → b.rd UPD.ACTIVE ≤ 1 → let o := b.otherSlot
    let held : Nat → Option Nat := fun avg =>
      if b.mode ≠ 4 then some 3 else if b.flag SYS.IMAGE_VALID = true ∧ b.flag SYS.STATIONARY = false then some 4
      else if avg < (if b.flag SYS.CLASS then 2300 else 1150) then some 5 else none
    let gate : Nat → Bool → Option Nat := fun avg unlock =>
      if b.flag UPD.BUSY then some 2 else (held avg).or (if b.flag UPD.OWNER_LOCKED = true ∧ unlock = false then some 6 else none)
    let ended : Dev → FwSlot → Dev → Prop := fun w sl d => d.slotState (1 - o) = b.slotState (1 - o) ∧ d.fwSlot (1 - o) = b.fwSlot (1 - o)
      ∧ d.now = w.now ∧ d.flag UPD.BUSY = false ∧ d.upd.staging = none
      ∧ (w.gateConditions = none → d.slotState o = 2 ∧ d.fwSlot o = sl ∧ d.rd UPD.RESULT = 1)
      ∧ (∀ r, w.gateConditions = some r → d.slotState o = 0 ∧ d.fwSlot o = default ∧ d.rd UPD.RESULT = 10 ∧ d.rd UPD.ABORT_CAUSE = r)
    (b.gateConditions = held (b.rd SYS.VLOG_AVG5))
    ∧ (∀ avg k r, avg < 65536 → gate avg false = some r →
      (∃ d : Dev, exec (.stageCmd avg k) s = .next { s with dev := d.busOk.finish } ∧ d.rd UPD.RESULT = r ∧ d.upd = b.upd
        ∧ d.rd UPD.PENDING = b.rd UPD.PENDING ∧ ∀ n, d.slotState n = b.slotState n)
      ∧ (∃ d : Dev, exec (.activateCmd avg) s = .next { s with dev := d.busOk.finish } ∧ exec (.activateWithReboot avg) s = .next { s with dev := d.busOk.finish }
        ∧ d.rd UPD.RESULT = r ∧ d.upd = b.upd ∧ d.rd UPD.PENDING = b.rd UPD.PENDING ∧ ∀ n, d.slotState n = b.slotState n))
    ∧ (∀ avg k, avg < 65536 → gate avg false = none →
      let a := 16 * b.rd UPD.SRC_ADDR16
      let n := b.rd UPD.LEN
      let bs := memReadBytes s.dram a n
      (b.coreMayWrite a n = false → ∃ d : Dev, exec (.stageCmd avg k) s = .next { s with dev := d.busOk.finish } ∧ d.rd UPD.RESULT = 9 ∧ d.upd = b.upd)
      ∧ (b.coreMayWrite a n = true → fwHeaderOk bs n = false → ∃ d : Dev,
        exec (.stageCmd avg k) s = .next { s with dev := d.busOk.finish } ∧ d.rd UPD.RESULT = 8 ∧ d.upd = b.upd)
      ∧ (b.coreMayWrite a n = true → fwHeaderOk bs n = true → ∃ d : Dev,
        exec (.stageCmd avg k) s = .next { s with dev := d.busOk.finish }
        ∧ d.slotState o = 1 ∧ d.slotState (1 - o) = b.slotState (1 - o) ∧ d.fwSlot (1 - o) = b.fwSlot (1 - o) ∧ d.flag UPD.BUSY = true
        ∧ d.flag UPD.PENDING = false ∧ d.rd UPD.RESULT = 0 ∧ d.upd.staging = some (⟨bs, k.1, k.2⟩, b.now, b.now + 100000000 + 25 * n)))
    ∧ (∀ sl t u, b.upd.staging = some (sl, t, u) → ∃ d : Dev, exec .stageComplete s = .next { s with dev := d.finish } ∧ ended b sl d)
    ∧ (b.upd.staging = none → exec .stageComplete s = .next { s with dev := b.finish } ∧ ∀ avg w, exec (.stageGateCheck avg w) s = .next { s with dev := b.finish })
    ∧ (∀ avg n sl t u, avg < 65536 → b.upd.staging = some (sl, t, u) →
      let w := (b.waitUntil (t + 1000000)).wr SYS.VLOG_AVG5 avg
      w.gateConditions = held avg ∧ ∃ d : Dev, exec (.stageGateCheck avg n) s = .next { s with dev := d.finish } ∧ t + 1000000 ≤ d.now
      ∧ (held avg = none → w.now < u → d.upd.staging = some (sl, t + 1000000, u) ∧ (∀ k, d.slotState k = b.slotState k) ∧ (∀ k, d.fwSlot k = b.fwSlot k)
          ∧ d.rd UPD.BUSY = b.rd UPD.BUSY ∧ d.rd UPD.RESULT = b.rd UPD.RESULT ∧ d.now = w.now)
      ∧ (held avg ≠ none ∨ u ≤ w.now → ended w sl d))
    ∧ (∀ avg, avg < 65536 → gate avg false = none →
      (b.slotState o ≠ 2 → ∃ d : Dev, exec (.activateCmd avg) s = .next { s with dev := d.busOk.finish }
        ∧ exec (.activateWithReboot avg) s = .next { s with dev := d.busOk.finish } ∧ d.rd UPD.RESULT = 7 ∧ d.rd UPD.PENDING = b.rd UPD.PENDING ∧ d.upd = b.upd)
      ∧ (b.slotState o = 2 → ∃ d : Dev, exec (.activateCmd avg) s = .next { s with dev := d.busOk.finish }
        ∧ exec (.activateWithReboot avg) s = .next { s with dev := d.moduleReset.1.busOk.finish, dram := d.moduleReset.2 }
        ∧ d.flag UPD.PENDING = true ∧ d.rd UPD.RESULT = 1 ∧ d.upd = b.upd ∧ ∀ n, d.slotState n = b.slotState n))
    ∧ (∃ d : Dev, exec .abandonCmd s = .next { s with dev := d.busOk.finish } ∧ d.flag UPD.PENDING = false ∧ d.upd = b.upd ∧ ∀ n, d.slotState n = b.slotState n)
    ∧ (b.slotState (1 - o) = 4 → ∃ d : Dev, exec .confirmCmd s = .next { s with dev := d.busOk.finish }
      ∧ d.slotState (1 - o) = 3 ∧ (b.slotState o = 3 ∨ b.slotState o = 4 → d.slotState o = 2)
      ∧ (b.slotState o ≤ 2 ∨ 5 ≤ b.slotState o → d.slotState o = b.slotState o)
      ∧ d.flag UPD.TRIAL = false ∧ d.rd UPD.RESULT = 1 ∧ d.rd UPD.ACTIVE = b.rd UPD.ACTIVE ∧ d.upd = b.upd)
    ∧ (b.slotState (1 - o) ≠ 4 → ∃ d : Dev, exec .confirmCmd s = .next { s with dev := d.busOk.finish }
      ∧ d.rd UPD.RESULT = 14 ∧ d.upd = b.upd ∧ ∀ n, d.slotState n = b.slotState n)
    ∧ (let bs := leBytes 16 (b.free % 2 ^ 128)
      ∃ d : Dev, exec .updChallenge s = .next { s with dev := d.busOk.finish }
      ∧ bs.length = 16 ∧ d.upd.challenge = some (bs, b.now) ∧ ∀ k < 4, d.rd UPD.UPD_CHAL k = leWord k bs % 2 ^ 32)
    ∧ (∀ avg key k, avg < 65536 →
      let tok := 16 * b.rd UPD.TOKEN_ADDR16
      let fresh := ∃ c t, b.upd.challenge = some (c, t) ∧ b.now ≤ t + 60000000000
      let signed : Nat → Bool := fun action => tokenSigned s.dram tok b.upd.challenge action key k
      let refused : Instr → Nat → Prop := fun c r => ∃ d : Dev, exec c s = .next { s with dev := d.busOk.finish } ∧ d.rd UPD.RESULT = r
        ∧ d.rd UPD.OWNER_LOCKED = b.rd UPD.OWNER_LOCKED ∧ d.rd UPD.LOCK_SLOT = b.rd UPD.LOCK_SLOT ∧ d.upd = { b.upd with challenge := none }
      let done : Instr → Bool → Nat → Prop := fun c locked slot => ∃ d : Dev, exec c s = .next { s with dev := d.busOk.finish }
        ∧ d.flag UPD.OWNER_LOCKED = locked ∧ d.rd UPD.LOCK_SLOT = slot ∧ d.rd UPD.RESULT = 1 ∧ d.upd = { b.upd with challenge := none }
      let checks : Instr → Bool → Bool → Nat → Prop := fun c unlock fits slot =>
        (∀ r, gate avg unlock = some r → refused c r)
        ∧ (gate avg unlock = none → ¬ fresh → refused c 11)
        ∧ (gate avg unlock = none → fresh → b.coreMayWrite tok 192 = false → refused c 9)
        ∧ (gate avg unlock = none → fresh → b.coreMayWrite tok 192 = true → (fits = false ∨ b.tokenKey s.dram tok key = false) → refused c 12)
        ∧ (gate avg unlock = none → fresh → b.coreMayWrite tok 192 = true → fits = true → b.tokenKey s.dram tok key = true →
          (signed (if unlock then 5 else 4) = false → refused c 13) ∧ (signed (if unlock then 5 else 4) = true → done c (!unlock) slot))
      checks (.lockCmd key avg k) false (decide (key < 4)) key
      ∧ checks (.unlockCmd key avg k) true (decide (key = b.rd UPD.LOCK_SLOT ∨ key = 15)) (b.rd UPD.LOCK_SLOT))

/-- The Opdofy loader (R428 to R431). -/
def Obligations.Opdofy : Prop :=
  ∀ s : State, let b := s.dev.begin
    let e := b.opExpire
    let sends : Nat → Nat → Nat → Nat → Nat → List Nat → Dev → Prop := fun tr host type st id body d =>
      d.out = b.out ++ [if tr = 1 then .can 0 0x7E1 (padTo 64 (b.opHead type st id ++ body)) else .opdofy host (b.opHead type st id ++ body)]
    let closed : Dev → Prop := fun d => d.upd.session = none ∧ d.slotState 0 = 0 ∧ d.fwSlot 0 = default ∧ d.fwSlot 1 = b.fwSlot 1
    let answers : Instr → (Dev → Prop) → Prop := fun c p => ∃ d : Dev, exec c s = .next { s with dev := d.finish } ∧ p d
    let restarts : Instr → (Dev → Prop) → Prop := fun c p => ∃ d : Dev, exec c s
      = .next { s with dev := (d.islandStart 5 4 false (b.rd SYS.VLOG_NOW)).1.finish, dram := (d.islandStart 5 4 false (b.rd SYS.VLOG_NOW)).2 } ∧ p d
    (b.upd.session = none → e = b)
    ∧ (∀ x : OpSession, b.upd.session = some x → (b.now < x.heardAt + 10000000000 → e = b) ∧ (x.heardAt + 10000000000 ≤ b.now → closed e ∧ e.upd.helloAt = b.now))
    ∧ (b.mode ≠ 3 ∨ e.upd.session.isSome = true → exec .helloMsg s = .next { s with dev := e.finish })
    ∧ (b.mode = 3 → e.upd.session = none → answers .helloMsg fun d =>
      e.upd.helloAt + 1000000000 ≤ d.now ∧ d.now = (e.waitUntil (e.upd.helloAt + 1000000000)).now ∧ d.upd.helloAt = d.now
      ∧ d.upd.sent = (b.upd.sent + 2) % 65536 ∧ d.upd.slots = e.upd.slots
      ∧ ∃ h c, d.out = b.out ++ [.opdofy opBroadcast (b.opHead 1 0 0 ++ h), .can 0 0x7E1 c] ∧ h.length = 12 ∧ c.length = 64)
    ∧ (b.mode ≠ 3 → ∀ tr host total avg, exec (.openMsg tr host total avg) s = .next { s with dev := b.finish })
    ∧ (b.mode = 3 → ∀ tr host total avg, let low := if b.sys.detected = 1 then 2300 else 1150
      let keeps : Nat → Dev → Prop := fun st d => sends tr host 3 st 0 (leBytes 4 total) d ∧ d.upd.slots = e.upd.slots ∧ d.upd.session = e.upd.session
      (e.upd.session.isSome = true → answers (.openMsg tr host total avg) (keeps 1))
      ∧ (e.upd.session = none → avg < low → answers (.openMsg tr host total avg) (keeps 2))
      ∧ (e.upd.session = none → low ≤ avg → 0x1000000 < total → answers (.openMsg tr host total avg) (keeps 4))
      ∧ (e.upd.session = none → low ≤ avg → total ≤ 0x1000000 → answers (.openMsg tr host total avg) fun d =>
        let id := b.free % 65536
        sends tr host 3 0 id (leBytes 4 total) d ∧ d.upd.session = some ⟨tr, host, id, total, b.now⟩ ∧ d.slotState 0 = 1 ∧ d.fwSlot 0 = default
        ∧ d.slotState 1 = b.slotState 1 ∧ d.fwSlot 1 = b.fwSlot 1))
    ∧ (∀ tr host id, (e.upd.session = none ∧ b.mode = 3) ∨ (∃ x : OpSession, e.upd.session = some x ∧ (id ≠ x.id ∨ tr ≠ x.transport)) →
      let bad : Nat → Dev → Prop := fun type d => sends tr host type 3 id [] d ∧ d.upd.slots = e.upd.slots ∧ d.upd.session = e.upd.session
      (∀ off chunk fl, answers (.dataMsg tr host id off chunk fl) (bad 5)) ∧ (∀ crc k fl, answers (.endMsg tr host id crc k fl) (bad 7))
      ∧ answers (.opdofyAbort tr host id) (bad 8))
    ∧ (∀ x : OpSession, e.upd.session = some x →
      (∀ host off chunk fl, let have_ := (b.fwSlot 0).data
        let fits := off = have_.length ∧ chunk.length ≤ maxChunk x.transport ∧ have_.length + chunk.length ≤ x.total
        (fits → fl = true → answers (.dataMsg x.transport host x.id off chunk fl) fun d =>
          (d.fwSlot 0).data = have_ ++ chunk.map (fun c => c % 256) ∧ sends x.transport host 5 0 x.id (leBytes 4 (have_.length + chunk.length)) d
          ∧ d.upd.session = some { x with heardAt := b.now } ∧ d.fwSlot 1 = b.fwSlot 1)
        ∧ (fits → fl = false → answers (.dataMsg x.transport host x.id off chunk fl) fun d => closed d ∧ sends x.transport host 5 7 x.id (leBytes 4 have_.length) d)
        ∧ (¬ fits → answers (.dataMsg x.transport host x.id off chunk fl) fun d =>
          d.upd.slots = b.upd.slots ∧ d.upd.session = some { x with heardAt := b.now } ∧ sends x.transport host 5 0 x.id (leBytes 4 have_.length) d))
      ∧ (∀ host crc k fl, let st := b.opVerify crc x.total k.1 k.2
        (st = 0 → fl = true → restarts (.endMsg x.transport host x.id crc k fl) fun d =>
          d.slotState 0 = 3 ∧ d.slotState 1 = 0 ∧ d.rd UPD.ACTIVE = 0 ∧ d.flag UPD.PENDING = false ∧ d.flag UPD.LATCH = false ∧ d.flag UPD.TRIAL = false
          ∧ d.fwSlot 0 = ⟨(b.fwSlot 0).data, k.1, k.2⟩ ∧ d.fwSlot 1 = default ∧ d.upd.session = none ∧ d.sys.owed = b.sys.owed ++ [(6, 0, d.updateData 9 0 1)]
          ∧ sends x.transport host 7 0 x.id (leBytes 4 (fwVer (b.fwSlot 0).data)) d)
        ∧ (st ≠ 0 ∨ fl = false → answers (.endMsg x.transport host x.id crc k fl) fun d =>
          closed d ∧ sends x.transport host 7 (if st = 0 then 7 else st) x.id (leBytes 4 (fwVer (b.fwSlot 0).data)) d))
      ∧ (∀ host, answers (.opdofyAbort x.transport host x.id) fun d => closed d ∧ d.upd.helloAt = b.now))
    ∧ (b.upd.session = none → exec .sessionTimeout s = .next { s with dev := b.finish })
    ∧ (∀ x : OpSession, b.upd.session = some x → answers .sessionTimeout fun d =>
      closed d ∧ x.heardAt + 10000000000 ≤ d.now ∧ d.now = (b.waitUntil (x.heardAt + 10000000000)).now)
    ∧ (b.mode = 3 → ∀ tr host id, (e.upd.session = none ∨ ∃ x : OpSession, e.upd.session = some x ∧ x.id = id ∧ x.transport = tr) →
      (e.fwPasses (e.fwSlot 0) = true ∨ e.fwPasses (e.fwSlot 1) = true → restarts (.leaveMsg tr host id) fun d =>
        d.flag UPD.LATCH = false ∧ d.upd.slots = e.upd.slots)
      ∧ (e.fwPasses (e.fwSlot 0) = false → e.fwPasses (e.fwSlot 1) = false → answers (.leaveMsg tr host id) fun d =>
        sends tr host 9 8 id [] d ∧ d.rd UPD.LATCH = b.rd UPD.LATCH ∧ d.upd.slots = e.upd.slots))

/-! Faults and events (chapter 18). -/

/-- Detection, the reaction window, recovery, and the commands of FLT (R433 to R447). -/
def Obligations.FaultManager : Prop :=
  (∀ s : State, let b := s.dev.begin
    b.live 19 → b.wait = [] →
    (∀ e r, b.flt.window = some (e, r) → ∃ d : Dev, exec .reactionWindowEnd s = .next { s with dev := d.finish }
      ∧ e ≤ d.now ∧ d.flt.window = none ∧ d.flt.held = [] ∧ d.flt.active = b.flt.active ∧ d.flag FLT.IN_WINDOW = false ∧ .gates ∈ d.raised)
    ∧ (b.flt.window = none → exec .reactionWindowEnd s = .next { s with dev := b.finish })
    ∧ (∀ mask, ∃ d : Dev, exec (.swSet mask) s = .next { s with dev := d.busOk.finish }
      ∧ d.rd FLT.SW_PEND = Nat.lor (b.rd FLT.SW_PEND) mask % 2 ^ 32 ∧ onlyKeys [FLT.SW_PEND.key 0 0] b d ∧ d.flt = b.flt)
    ∧ (∀ v, v ≠ 0xC3A5 ∨ b.mode < 4 → exec (.safeAck v) s = .next { s with dev := b.busOk.finish })
    ∧ (4 ≤ b.mode → b.mode ≤ 7 → ∃ d : Dev, exec (.safeAck 0xC3A5) s = .next { s with dev := d.busOk.finish }
      ∧ (∀ c ∈ ackFaults, b.mode = 7 ∨ b.severity c < 3 → ∀ i, (c, i) ∉ d.flt.active)
      ∧ (∀ c i, c ∉ ackFaults → ((c, i) ∈ d.flt.active ↔ (c, i) ∈ b.flt.active))
      ∧ (∀ c ∈ ackFaults, b.mode ≠ 7 → 3 ≤ b.severity c → ∀ i, ((c, i) ∈ d.flt.active ↔ (c, i) ∈ b.flt.active))
      ∧ onlyBlocks [19] b d)
    ∧ (∀ a, a = b.badWord → exec .dramUncorrectableWord s = .next { s with dev := ((b.freeTaken.fusPoison a).raise Flt.DRAM_UNCORRECTABLE 0).finish }
      ∧ 0x80000000 ≤ a ∧ a < 0x280000000
      ∧ (b.fusPoison a).regs = b.regs ∧ (b.fus.build = none → b.fusPoison a = b)
      ∧ ∀ x, b.fus.build = some x → b.fusPoison a
        = { b with fus := { b.fus with build := some { x with poisoned := x.poisoned || x.cams.any fun f => f.holds a } } }))
  ∧ (∀ (d : Dev) (code inst : Nat), d.pdOn 2 = true → code < 65536 → faultIdx code < 1024 → (∀ e r, d.flt.window = some (e, r) → d.now < e) →
    d.severity code ≤ 3 → let sev := d.severity code
    ∃ e : Dev, e.rd FLT.F_COUNT (faultIdx code) = satInc 16 (d.rd FLT.F_COUNT (faultIdx code)) ∧ e.rd FLT.LAST_CODE = code ∧ e.rd FLT.LAST_SEV = sev
      ∧ (d.activeCodes.contains code = true → d.detect code inst = e ∧ (code, inst) ∈ e.flt.active ∧ e.flt.window = d.flt.window
          ∧ e.flag FLT.LAST_NESTED = false)
      ∧ (d.activeCodes.contains code = false → d.detect code inst = e.reactTo code sev
          ∧ (instantFault code = false → e.flt.active = d.flt.active ++ [(code, inst)] ∧ e.flag FLT.F_ACTIVE (faultIdx code) = true)
          ∧ (instantFault code = true → e.flt.active = d.flt.active)
          ∧ e.flag FLT.IN_WINDOW = true
          ∧ (d.flt.window = none → (∃ r, e.flt.window = some (d.now + 50000, r)) ∧ e.flag FLT.LAST_NESTED = false ∧ e.rd FLT.NESTED_COUNT = d.rd FLT.NESTED_COUNT)
          ∧ (d.flt.window ≠ none → e.flt.window = d.flt.window ∧ e.flag FLT.LAST_NESTED = true ∧ e.rd FLT.NESTED_COUNT = satInc 16 (d.rd FLT.NESTED_COUNT))))
  ∧ (∀ (d : Dev) (code sev : Nat), (sev < 2 → d.reactTo code sev = d) ∧ (sev = 2 → instantFault code = false → d.reactTo code sev = d.refreshGates)
    ∧ (sev = 3 → instantFault code = false → d.refreshGates.safeNow = true → d.reactTo code sev = d.refreshGates.safeEntry 0x81 code))
  ∧ (∀ (d : Dev) (code : Nat), d.rd FLT.F_FLOOR (faultIdx code) ≤ d.severity code)
  ∧ (∀ (d : Dev) (code inst : Nat), let e := d.recovered code inst
    (code, inst) ∉ e.flt.active
    ∧ (∀ p, p ≠ (code, inst) → (p ∈ e.flt.active ↔ p ∈ d.flt.active))
    ∧ ((∃ i, i ≠ inst ∧ (code, i) ∈ d.flt.active) → e.rd FLT.F_ACTIVE (faultIdx code) = d.rd FLT.F_ACTIVE (faultIdx code))
    ∧ ((code, inst) ∈ d.flt.active → (∀ i, (code, i) ∈ d.flt.active → i = inst) → e.flag FLT.F_ACTIVE (faultIdx code) = false))

/-! Preset selectors (R9, R90). -/

/-- Every preset write expands into its fields by its table, where the image replaces no cell (R9, R90). -/
def Obligations.PresetWrites : Prop :=
  ∀ s : State, let b := s.dev.begin
    b.wait = [] → b.itemsOf 15 = [] →
    let holds : Instr → Nat → (Dev → List Nat) → List Nat → Prop := fun c blk f l =>
      ∃ d : Dev, exec c s = .next { s with dev := d.busOk.finish } ∧ f d = l ∧ onlyBlocks [blk] b d
    let ignored : Instr → Prop := fun c => exec c s = .next { s with dev := b.busOk.finish }
    (b.live 3 → (∀ i < 4, let f : Dev → List Nat := fun d => d.rd TMB.MD_PRESET :: d.lastWritten TMB.HOLD_MS ::
        [TMB.SRC_WEIGHT, TMB.SRC_GATE_ABS, TMB.SRC_GATE_REL, TMB.SRC_READMIT, TMB.SRC_STALE_MS].map fun g => d.lastWritten g i
      let stale := ([50, 250, 100, 50] : List Nat).getD i 0
      holds (.mdPresetWrite 0) 3 f [0, 200, if i = 2 then 4 else 8, 150, 26, 50, stale]
      ∧ holds (.mdPresetWrite 1) 3 f [1, 200, ([2, 10, 6, 10] : List Nat).getD i 0, 80, 13, if i = 0 then 100 else 50, stale]
      ∧ holds (.mdPresetWrite 2) 3 f [2, 200, ([8, 0, 6, 10] : List Nat).getD i 0, 150, 26, 50, stale]) ∧ ignored (.mdPresetWrite 3))
    ∧ (b.live 4 → (let f : Dev → List Nat := fun d => d.rd LAH.OVERLAP_PRESET :: [LAH.ON_UNCOV_PCT, LAH.OFF_COV_PCT, LAH.BND_OFF_PCT].map fun g => d.lastWritten g
      holds (.overlapPresetWrite 0) 4 f [0, 50, 60, 50] ∧ holds (.overlapPresetWrite 1) 4 f [1, 1, 100, 100]
      ∧ holds (.overlapPresetWrite 2) 4 f [2, 100, 1, 1]) ∧ ignored (.overlapPresetWrite 3))
    ∧ (b.live 5 → (let f : Dev → List Nat := fun d => d.rd SLU.CARSIL_PRESET :: [SLU.GRACE_US, SLU.DECIDE_MARGIN_US, SLU.VOTE_WINDOWS, SLU.OUTCOME_TRIES].map fun g => d.lastWritten g
      holds (.carsilPresetWrite 0) 5 f [0, 500, 1000, 1, 3] ∧ holds (.carsilPresetWrite 1) 5 f [1, 250, 500, 1, 2]
      ∧ holds (.carsilPresetWrite 2) 5 f [2, 2000, 2000, 2, 5]) ∧ ignored (.carsilPresetWrite 3))
    ∧ (b.live 6 → ∀ n < 256, let f : Dev → List Nat := fun d => d.rd CTL.S_SUP_PRESET n ::
        [CTL.S_FE_LIMIT, CTL.S_FE_TIME_MS, CTL.S_FE_ACTION, CTL.S_BLEND_N, CTL.S_RAMP_STEP, CTL.S_FF_LOSS].map fun g => d.lastWritten g n
      holds (.supPresetWrite n 0) 6 f [0, 0x0CCD, 500, 0, 16, 0x0052, 0] ∧ holds (.supPresetWrite n 1) 6 f [1, 0x0666, 200, 1, 8, 0x00A4, 1]
      ∧ holds (.supPresetWrite n 2) 6 f [2, 0x1999, 2000, 0, 32, 0x0052, 0] ∧ holds (.supPresetWrite n 3) 6 f [3, 0x0666, 100, 3, 8, 0x00A4, 1])
    ∧ (b.live 7 → (let f : Dev → List Nat := fun d => d.rd FUS.FUSE_PRESET :: [FUS.MIN_CAMERAS, FUS.EGO_EN, FUS.EGO_MIN_Q].map fun g => d.lastWritten g
      holds (.fusePresetWrite 0) 7 f [0, 1, 1, 64] ∧ holds (.fusePresetWrite 1) 7 f [1, 0, 1, 64] ∧ holds (.fusePresetWrite 2) 7 f [2, 1, 0, 64])
      ∧ ignored (.fusePresetWrite 3))
    ∧ (b.live 8 → ∀ c < 8,
      (let f : Dev → List Nat := fun d => d.rd ISP.C_DPC_PRESET c :: [ISP.C_DPC_STATIC_EN, ISP.C_DPC_DYN_EN, ISP.C_DPC_HI, ISP.C_DPC_LO].map fun g => d.lastWritten g c
      holds (.dpcPresetWrite c 0) 8 f [0, 1, 0, b.rd ISP.C_DPC_HI c, b.rd ISP.C_DPC_LO c] ∧ holds (.dpcPresetWrite c 1) 8 f [1, 1, 1, 0x1000, 0x1000]
      ∧ holds (.dpcPresetWrite c 2) 8 f [2, 1, 1, 0x600, 0x600])
      ∧ ignored (.dpcPresetWrite c 3) ∧ ignored (.tonePresetWrite c 3)
      ∧ ∀ v < 3, ∀ k ≤ 128, ∀ x y, toneEntry v (2 * k) = some x → (k < 128 → toneEntry v (2 * k + 1) = some y) → x < 65536 → y < 65536 →
        holds (.tonePresetWrite c v) 8 (fun d => [d.rd ISP.C_TONE_PRESET c, d.lastWritten ISP.C_T_EVEN c k, if k < 128 then d.lastWritten ISP.C_T_ODD c k else 0])
          [v, x, if k < 128 then y else 0])
    ∧ (∀ k, toneEntry 0 k = some (255 * k))
    ∧ (b.live 9 → let f : Dev → List Nat := fun d => d.rd GNS.GNSS_PRESET :: [GNS.RATE_HZ, GNS.ELEV_MASK, GNS.CN0_MASK, GNS.CONST_EN, GNS.BAND_EN].map fun g => d.lastWritten g
      holds (.gnssPresetWrite 0) 9 f [0, 3, 10, 30, 7, 3] ∧ holds (.gnssPresetWrite 1) 9 f [1, 4, 10, 30, 7, 3]
      ∧ holds (.gnssPresetWrite 2) 9 f [2, 3, 15, 35, 7, 3] ∧ holds (.gnssPresetWrite 3) 9 f [3, 0, 15, 35, 7, 3])
    ∧ (b.live 10 → ∀ n < 64, let f : Dev → List Nat := fun d => d.rd LSW.CH_LOAD_PRESET n :: [LSW.CH_INRUSH_MODE, LSW.CH_SLEW_STEP, LSW.CH_LAMP_RETRIES,
        LSW.CH_LAMP_SPACE, LSW.CH_LAMP_WIN_MS, LSW.CH_THERM_RESTARTS, LSW.CH_OL_ON_MA, LSW.CH_OFF_DIAG].map fun g => d.lastWritten g n
      holds (.loadPresetWrite n 0) 10 f [0, 0, 15, 0, 0, 1, 3, 50, 0] ∧ holds (.loadPresetWrite n 1) 10 f [1, 1, 15, 16, 1, 60, 3, 100, 1]
      ∧ holds (.loadPresetWrite n 2) 10 f [2, 0, 15, 0, 0, 1, 1, 20, 0] ∧ holds (.loadPresetWrite n 3) 10 f [3, 2, 3, 4, 3, 30, 3, 20, 0])
    ∧ (b.live 11 → ∀ n < 32, let f : Dev → List Nat := fun d => d.rd VDR.CH_VALVE_PRESET n :: [VDR.CH_PWM_HZ, VDR.CH_DITHER_MODE, VDR.CH_DITHER_HZ,
        VDR.CH_DITHER_MA, VDR.CH_KP, VDR.CH_KI, VDR.CH_CLOSE_EN].map fun g => d.lastWritten g n
      holds (.valvePresetWrite n 0) 11 f [0, 20000, 0, 100, 0, 64, 8, 1] ∧ holds (.valvePresetWrite n 1) 11 f [1, 5000, 1, 150, 100, 96, 12, 0]
      ∧ holds (.valvePresetWrite n 2) 11 f [2, 20000, 2, 200, 150, 96, 12, 0] ∧ holds (.valvePresetWrite n 3) 11 f [3, 15000, 1, 300, 60, 128, 16, 0])
    ∧ (b.live 13 → ∀ c < 4, (let f : Dev → List Nat := fun d => d.rd BLW.CH_BLW_PRESET c :: [BLW.CH_MODE, BLW.CH_SPD_MIN, BLW.CH_SPD_MAX, BLW.CH_SPD_SET,
        BLW.CH_TEMP_LO, BLW.CH_TEMP_HI, BLW.CH_KP, BLW.CH_KI, BLW.CH_TACH_TMO_MS].map fun g => d.lastWritten g c
      holds (.blwPresetWrite c 0) 13 f [0, 0, 30, 100, 100, 400, 650, 256, 16, 500] ∧ holds (.blwPresetWrite c 1) 13 f [1, 1, 30, 100, 100, 400, 650, 256, 16, 500]
      ∧ holds (.blwPresetWrite c 2) 13 f [2, 0, 20, 80, 80, 450, 700, 192, 12, 1000]) ∧ ignored (.blwPresetWrite c 3))
    ∧ (b.live 14 → ∀ p < 8, let f : Dev → List Nat := fun d => d.rd CAN.P_CAN_PRESET p :: [CAN.P_NBRP, CAN.P_NTSEG1, CAN.P_NTSEG2, CAN.P_NSJW, CAN.P_DBRP,
        CAN.P_DTSEG1, CAN.P_DTSEG2, CAN.P_DSJW, CAN.P_TDC_EN, CAN.P_TDCO].map fun g => d.rd g p
      ((b.rd CAN.EN).testBit p = false → holds (.canPresetWrite p 0) 14 f [0, 3, 62, 15, 7, 0, 28, 9, 9, 0, 0]
        ∧ holds (.canPresetWrite p 1) 14 f [1, 1, 62, 15, 15, 0, 28, 9, 9, 1, 30] ∧ holds (.canPresetWrite p 2) 14 f [2, 0, 62, 15, 15, 0, 13, 4, 4, 1, 15]
        ∧ holds (.canPresetWrite p 3) 14 f [3, 0, 62, 15, 15, 0, 6, 1, 1, 1, 8])
      ∧ ((b.rd CAN.EN).testBit p = true → ∀ v, ∃ d : Dev, exec (.canPresetWrite p v) s = .next { s with dev := d.busOk.finish }
        ∧ d.flag CAN.LOCKED_WRITE = true ∧ onlyKeys [CAN.LOCKED_WRITE.key 0 0] b d))
    ∧ (b.live 16 → ∀ q < 64, b.rd QUE.Q_CLASS q = 0 → ∀ v, ignored (.wmPresetWrite q v))
    ∧ (b.live 16 → ∀ q < 64, b.rd QUE.Q_CLASS q ≠ 0 → let c := b.capacity q
      let f : Dev → List Nat := fun d => d.rd QUE.Q_WM_PRESET q :: [QUE.Q_HIGH_WM, QUE.Q_LOW_WM].map fun g => d.lastWritten g q
      holds (.wmPresetWrite q 0) 16 f [0, 0, 0] ∧ holds (.wmPresetWrite q 1) 16 f [1, c / 2 % 2 ^ 21, c / 4 % 2 ^ 21]
      ∧ holds (.wmPresetWrite q 2) 16 f [2, 7 * c / 8 % 2 ^ 21, c / 2 % 2 ^ 21] ∧ holds (.wmPresetWrite q 3) 16 f [3, c / 4 % 2 ^ 21, c / 16 % 2 ^ 21])
    ∧ (b.live 18 → (let f : Dev → List Nat := fun d => d.rd THM.THM_PRESET :: [THM.FC_DIV2_C, THM.FC_DIV4_C, THM.SKIP_START_C, THM.SKIP_STEP,
        THM.ISP_SKIP_MAX, THM.CRIT_FC, THM.CRIT_NPU, THM.CRIT_PS, THM.CRIT_BOARD].map fun g => d.lastWritten g
      holds (.thmPresetWrite 0) 18 f [0, 95, 100, 90, 20, 1, 110, 110, 115, 95] ∧ holds (.thmPresetWrite 1) 18 f [1, 95, 100, 90, 20, 0, 110, 110, 115, 95]
      ∧ holds (.thmPresetWrite 2) 18 f [2, 90, 95, 85, 15, 1, 105, 105, 110, 90]) ∧ ignored (.thmPresetWrite 3))
    ∧ (b.live 19 → (b.mode = 4 → ignored (.sevPresetWrite 2) ∧ ignored (.sevPresetWrite 3)
        ∧ ∀ i < 336, (faultRow i).built = 1 → (faultRow i).fixed = 0 → let r := (faultRow i).sev
          holds (.sevPresetWrite 0) 19 (fun d => [d.rd FLT.SEV_PRESET, d.lastWritten FLT.F_SEV i]) [0, r % 4]
          ∧ holds (.sevPresetWrite 1) 19 (fun d => [d.rd FLT.SEV_PRESET, d.lastWritten FLT.F_SEV i]) [1, (if r = 1 ∨ r = 2 then r + 1 else r) % 4])
      ∧ (b.mode ≠ 4 → ∀ v, ignored (.sevPresetWrite v)))
end

