-- ==== Sys2Proof/Laws/Tables.lean ====
section
/-! SUPPORT. Laws/Tables.lean: reading a sorted table after a write or a removal. -/

namespace Sys2Proof.Machine

variable {α : Type}

@[simp] theorem tget?_nil (k : Nat) : tget? k ([] : List (Nat × α)) = none := rfl

theorem tget?_cons (k k' : Nat) (v : α) (t : List (Nat × α)) :
    tget? k ((k', v) :: t) = if k' = k then some v else tget? k t := rfl

theorem tdel_cons (k k' : Nat) (v : α) (t : List (Nat × α)) :
    tdel k ((k', v) :: t) = if k' = k then tdel k t else (k', v) :: tdel k t := by
  unfold tdel
  by_cases h : k' = k <;> simp [h]

/-- A removed key is gone. -/
@[simp] theorem tget?_tdel_self (k : Nat) (t : List (Nat × α)) : tget? k (tdel k t) = none := by
  induction t with
  | nil => rfl
  | cons p t ih =>
    obtain ⟨a, v⟩ := p
    rw [tdel_cons]
    split
    · exact ih
    · rename_i h; rw [tget?_cons, if_neg h, ih]

/-- Removing a key leaves the others. -/
theorem tget?_tdel_ne {k k' : Nat} (h : k' ≠ k) (t : List (Nat × α)) : tget? k' (tdel k t) = tget? k' t := by
  induction t with
  | nil => rfl
  | cons p t ih =>
    obtain ⟨a, v⟩ := p
    rw [tdel_cons, tget?_cons]
    split
    · rename_i ha; rw [ih, if_neg (by omega)]
    · rw [tget?_cons, ih]

theorem tget?_tins_ne {k k' : Nat} (h : k' ≠ k) (v : α) (t : List (Nat × α)) : tget? k' (tins k v t) = tget? k' t := by
  induction t with
  | nil => simp [tins, tget?_cons, Ne.symm h]
  | cons p t ih =>
    obtain ⟨a, w⟩ := p
    unfold tins
    split <;> simp [tget?_cons, ih, Ne.symm h]

theorem tget?_tins_self (k : Nat) (v : α) (t : List (Nat × α)) (h : tget? k t = none) : tget? k (tins k v t) = some v := by
  induction t with
  | nil => simp [tins, tget?_cons]
  | cons p t ih =>
    obtain ⟨a, w⟩ := p
    rw [tget?_cons] at h
    unfold tins
    split
    · simp [tget?_cons]
    · by_cases ha : a = k
      · simp [ha] at h
      · simp [ha] at h; simp [tget?_cons, ha, ih h]

/-- The value under a key just written. -/
@[simp] theorem tget?_tset_self (k : Nat) (v : α) (t : List (Nat × α)) : tget? k (tset k v t) = some v :=
  tget?_tins_self k v _ (tget?_tdel_self k t)

/-- A write leaves the other keys. -/
theorem tget?_tset_ne {k k' : Nat} (h : k' ≠ k) (v : α) (t : List (Nat × α)) : tget? k' (tset k v t) = tget? k' t := by
  unfold tset
  rw [tget?_tins_ne h, tget?_tdel_ne h]

@[simp] theorem tget_tset_self [Inhabited α] (k : Nat) (v : α) (t : List (Nat × α)) : tget k (tset k v t) = v := by
  simp [tget]

theorem tget_tset_ne [Inhabited α] {k k' : Nat} (h : k' ≠ k) (v : α) (t : List (Nat × α)) : tget k' (tset k v t) = tget k' t := by
  simp [tget, tget?_tset_ne h]

/-- A fold over no indices changes nothing. -/
@[simp] theorem forAll_nil {σ : Type} (f : α → σ → σ) (s : σ) : forAll [] f s = s := rfl

@[simp] theorem forAll_cons {σ : Type} (a : α) (l : List α) (f : α → σ → σ) (s : σ) : forAll (a :: l) f s = forAll l f (f a s) := rfl

/-- What every step of a fold keeps, the fold keeps. -/
theorem forAll_keeps {σ : Type} (P : σ → Prop) (l : List α) (f : α → σ → σ) (h : ∀ a ∈ l, ∀ s, P s → P (f a s)) :
    ∀ s, P s → P (forAll l f s) := by
  induction l with
  | nil => intro s hs; exact hs
  | cons a l ih =>
    intro s hs
    exact ih (fun b hb => h b (List.mem_cons_of_mem _ hb)) _ (h a List.mem_cons_self s hs)

end Sys2Proof.Machine
end

