-- ==== Sys2Proof/Laws/Memory.lean ====
section
/-! SUPPORT. Laws/Memory.lean: every operation on DRAM keeps its canonical form; reading after writing. -/

namespace Sys2Proof.Machine

/-- DRAM with nothing listed is in canonical form. -/
@[simp] theorem memory_wf_nil : Memory.wf [] = true := rfl

theorem sortedFrom_mono {lo lo' : Nat} (h : lo' ≤ lo) (m : Memory) (hs : sortedFrom lo m = true) : sortedFrom lo' m = true := by
  cases m with
  | nil => rfl
  | cons c t =>
    obtain ⟨a, b⟩ := c
    simp only [sortedFrom, Bool.and_eq_true, decide_eq_true_eq] at hs ⊢
    exact ⟨by omega, hs.2⟩

theorem sortedFrom_filter (p : Host.Cell → Bool) (m : Memory) : ∀ lo, sortedFrom lo m = true → sortedFrom lo (m.filter p) = true := by
  induction m with
  | nil => intro lo _; rfl
  | cons c t ih =>
    obtain ⟨a, b⟩ := c
    intro lo hs
    simp only [sortedFrom, Bool.and_eq_true, decide_eq_true_eq] at hs
    by_cases hp : p (a, b)
    · rw [List.filter_cons_of_pos hp]
      simp only [sortedFrom, Bool.and_eq_true, decide_eq_true_eq]
      exact ⟨hs.1, ih _ hs.2⟩
    · rw [List.filter_cons_of_neg hp]
      exact sortedFrom_mono (by omega) _ (ih _ hs.2)

/-- Keeping some of the entries keeps the canonical form. -/
theorem memory_wf_filter (p : Host.Cell → Bool) (m : Memory) (h : m.wf = true) : Memory.wf (m.filter p) = true := by
  simp only [Memory.wf, Bool.and_eq_true] at h ⊢
  refine ⟨sortedFrom_filter p m 0 h.1, ?_⟩
  rw [List.all_eq_true] at h ⊢
  intro c hc
  exact h.2 c ((List.mem_filter.mp hc).1)

/-- A key below `lo`'s successor and not listed can be put in. -/
theorem sortedFrom_tins (k : Nat) (b : Byte) (m : Memory) :
    ∀ lo, lo ≤ k → sortedFrom lo m = true → (∀ c ∈ m, c.1 ≠ k) → sortedFrom lo (tins k b m) = true := by
  induction m with
  | nil => intro lo hl _ _; simp [tins, sortedFrom, hl]
  | cons c t ih =>
    obtain ⟨a, v⟩ := c
    intro lo hl hs hne
    simp only [sortedFrom, Bool.and_eq_true, decide_eq_true_eq] at hs
    have ha : a ≠ k := hne (a, v) List.mem_cons_self
    unfold tins
    split
    · rename_i hka
      simp only [sortedFrom, Bool.and_eq_true, decide_eq_true_eq]
      exact ⟨hl, by omega, hs.2⟩
    · simp only [sortedFrom, Bool.and_eq_true, decide_eq_true_eq]
      exact ⟨hs.1, ih _ (by omega) hs.2 (fun c hc => hne c (List.mem_cons_of_mem _ hc))⟩

theorem mem_tins {k : Nat} {b : Byte} {m : Memory} {c : Host.Cell} (h : c ∈ tins k b m) : c = (k, b) ∨ c ∈ m := by
  induction m with
  | nil => simpa [tins] using h
  | cons d t ih =>
    obtain ⟨a, v⟩ := d
    unfold tins at h
    split at h
    · simpa using h
    · rcases List.mem_cons.mp h with h | h
      · exact .inr (by rw [h]; exact List.mem_cons_self)
      · rcases ih h with h | h
        · exact .inl h
        · exact .inr (List.mem_cons_of_mem _ h)

/-- Writing a byte keeps the canonical form. -/
theorem memWrite_wf (m : Memory) (a : Nat) (b : Byte) (h : m.wf = true) : (memWrite m a b).wf = true := by
  unfold memWrite
  split
  · exact memory_wf_filter _ m h
  · rename_i hb
    have hd : Memory.wf (tdel a m) = true := memory_wf_filter _ m h
    have hne : ∀ c ∈ (tdel a m : Memory), c.1 ≠ a := by
      intro c hc
      have := (List.mem_filter.mp hc).2
      simpa using this
    simp only [Memory.wf, Bool.and_eq_true] at hd ⊢
    refine ⟨sortedFrom_tins a b _ 0 (Nat.zero_le _) hd.1 hne, ?_⟩
    rw [List.all_eq_true] at hd ⊢
    intro c hc
    rcases mem_tins hc with rfl | hc
    · simpa using hb
    · exact hd.2 c hc

/-- Writing bytes keeps the canonical form. -/
theorem memWriteBytes_wf (bs : List Nat) : ∀ (m : Memory) (a : Nat), m.wf = true → (memWriteBytes m a bs).wf = true := by
  induction bs with
  | nil => intro m a h; exact h
  | cons b bs ih => intro m a h; exact ih _ _ (memWrite_wf m a _ h)

/-- The byte just written. -/
@[simp] theorem memRead_memWrite_self (m : Memory) (a : Nat) (b : Byte) : memRead (memWrite m a b) a = b := by
  unfold memRead memWrite
  split <;> simp [*]

/-- A write leaves every other byte. -/
theorem memRead_memWrite_ne {a a' : Nat} (h : a' ≠ a) (m : Memory) (b : Byte) : memRead (memWrite m a b) a' = memRead m a' := by
  unfold memRead memWrite
  split
  · rw [tget?_tdel_ne h]
  · rw [tget?_tset_ne h]

/-- Writing bytes leaves every byte outside them. -/
theorem memRead_memWriteBytes_out (bs : List Nat) : ∀ (m : Memory) (a a' : Nat), (a' < a ∨ a + bs.length ≤ a') →
    memRead (memWriteBytes m a bs) a' = memRead m a' := by
  induction bs with
  | nil => intro m a a' _; rfl
  | cons b bs ih =>
    intro m a a' h
    simp only [List.length_cons] at h
    show memRead (memWriteBytes (memWrite m a _) (a + 1) bs) a' = _
    rw [ih _ _ _ (by omega), memRead_memWrite_ne (by omega)]

/-- Bytes written are read back. -/
theorem memReadBytes_memWriteBytes (bs : List Nat) : ∀ (m : Memory) (a : Nat), (∀ b ∈ bs, b < 256) →
    memReadBytes (memWriteBytes m a bs) a bs.length = bs := by
  induction bs with
  | nil => intro m a _; rfl
  | cons b bs ih =>
    intro m a h
    have h1 : memReadBytes (memWriteBytes (memWrite m a (BitVec.ofNat 8 b)) (a + 1) bs) a (bs.length + 1)
        = (memRead (memWriteBytes (memWrite m a (BitVec.ofNat 8 b)) (a + 1) bs) a).toNat
          :: memReadBytes (memWriteBytes (memWrite m a (BitVec.ofNat 8 b)) (a + 1) bs) (a + 1) bs.length := by
      simp only [memReadBytes, List.range_succ_eq_map, List.map_cons, List.map_map, Nat.add_zero]
      congr 1
      apply List.map_congr_left
      intro k _
      simp [Nat.add_assoc, Nat.add_comm 1 k]
    have h2 := ih (memWrite m a (BitVec.ofNat 8 b)) (a + 1) (fun x hx => h x (List.mem_cons_of_mem _ hx))
    have h3 : memRead (memWriteBytes (memWrite m a (BitVec.ofNat 8 b)) (a + 1) bs) a = BitVec.ofNat 8 b := by
      rw [memRead_memWriteBytes_out _ _ _ _ (by omega), memRead_memWrite_self]
    have hb : b < 256 := h b (List.mem_cons_self ..)
    show memReadBytes (memWriteBytes (memWrite m a (BitVec.ofNat 8 b)) (a + 1) bs) a (bs.length + 1) = b :: bs
    rw [h1, h2, h3]
    simp [Nat.mod_eq_of_lt hb]

end Sys2Proof.Machine
end

