-- ==== Sys2Proof/Laws/State.lean ====
section
/-! SUPPORT. Laws/State.lean: what each named operation leaves of the device, one lemma for each field. -/

namespace Sys2Proof.Machine

/-! `wr` -/

@[simp] theorem Dev.wr_now (d : Dev) (f : Fld) (v i j : Nat) : (d.wr f v i j).now = d.now := rfl
@[simp] theorem Dev.wr_wait (d : Dev) (f : Fld) (v i j : Nat) : (d.wr f v i j).wait = d.wait := rfl
@[simp] theorem Dev.wr_built (d : Dev) (f : Fld) (v i j : Nat) : (d.wr f v i j).built = d.built := rfl
@[simp] theorem Dev.wr_points (d : Dev) (f : Fld) (v i j : Nat) : (d.wr f v i j).points = d.points := rfl
@[simp] theorem Dev.wr_sys (d : Dev) (f : Fld) (v i j : Nat) : (d.wr f v i j).sys = d.sys := rfl
@[simp] theorem Dev.wr_cfg (d : Dev) (f : Fld) (v i j : Nat) : (d.wr f v i j).cfg = d.cfg := rfl
@[simp] theorem Dev.wr_flt (d : Dev) (f : Fld) (v i j : Nat) : (d.wr f v i j).flt = d.flt := rfl
@[simp] theorem Dev.wr_recd (d : Dev) (f : Fld) (v i j : Nat) : (d.wr f v i j).recd = d.recd := rfl
@[simp] theorem Dev.wr_que (d : Dev) (f : Fld) (v i j : Nat) : (d.wr f v i j).que = d.que := rfl
@[simp] theorem Dev.wr_brineFree (d : Dev) (f : Fld) (v i j : Nat) : (d.wr f v i j).brineFree = d.brineFree := rfl
@[simp] theorem Dev.wr_brineTurn (d : Dev) (f : Fld) (v i j : Nat) : (d.wr f v i j).brineTurn = d.brineTurn := rfl
@[simp] theorem Dev.wr_tmb (d : Dev) (f : Fld) (v i j : Nat) : (d.wr f v i j).tmb = d.tmb := rfl
@[simp] theorem Dev.wr_lah (d : Dev) (f : Fld) (v i j : Nat) : (d.wr f v i j).lah = d.lah := rfl
@[simp] theorem Dev.wr_slu (d : Dev) (f : Fld) (v i j : Nat) : (d.wr f v i j).slu = d.slu := rfl
@[simp] theorem Dev.wr_ctl (d : Dev) (f : Fld) (v i j : Nat) : (d.wr f v i j).ctl = d.ctl := rfl
@[simp] theorem Dev.wr_fus (d : Dev) (f : Fld) (v i j : Nat) : (d.wr f v i j).fus = d.fus := rfl
@[simp] theorem Dev.wr_isp (d : Dev) (f : Fld) (v i j : Nat) : (d.wr f v i j).isp = d.isp := rfl
@[simp] theorem Dev.wr_gns (d : Dev) (f : Fld) (v i j : Nat) : (d.wr f v i j).gns = d.gns := rfl
@[simp] theorem Dev.wr_lsw (d : Dev) (f : Fld) (v i j : Nat) : (d.wr f v i j).lsw = d.lsw := rfl
@[simp] theorem Dev.wr_vdr (d : Dev) (f : Fld) (v i j : Nat) : (d.wr f v i j).vdr = d.vdr := rfl
@[simp] theorem Dev.wr_fio (d : Dev) (f : Fld) (v i j : Nat) : (d.wr f v i j).fio = d.fio := rfl
@[simp] theorem Dev.wr_blw (d : Dev) (f : Fld) (v i j : Nat) : (d.wr f v i j).blw = d.blw := rfl
@[simp] theorem Dev.wr_net (d : Dev) (f : Fld) (v i j : Nat) : (d.wr f v i j).net = d.net := rfl
@[simp] theorem Dev.wr_thm (d : Dev) (f : Fld) (v i j : Nat) : (d.wr f v i j).thm = d.thm := rfl
@[simp] theorem Dev.wr_upd (d : Dev) (f : Fld) (v i j : Nat) : (d.wr f v i j).upd = d.upd := rfl
@[simp] theorem Dev.wr_raised (d : Dev) (f : Fld) (v i j : Nat) : (d.wr f v i j).raised = d.raised := rfl
@[simp] theorem Dev.wr_out (d : Dev) (f : Fld) (v i j : Nat) : (d.wr f v i j).out = d.out := rfl
@[simp] theorem Dev.wr_freeSeq (d : Dev) (f : Fld) (v i j : Nat) : (d.wr f v i j).freeSeq = d.freeSeq := rfl

/-! `wrBit` -/

@[simp] theorem Dev.wrBit_now (d : Dev) (f : Fld) (k : Nat) (b : Bool) (i : Nat) : (d.wrBit f k b i).now = d.now := rfl
@[simp] theorem Dev.wrBit_wait (d : Dev) (f : Fld) (k : Nat) (b : Bool) (i : Nat) : (d.wrBit f k b i).wait = d.wait := rfl
@[simp] theorem Dev.wrBit_built (d : Dev) (f : Fld) (k : Nat) (b : Bool) (i : Nat) : (d.wrBit f k b i).built = d.built := rfl
@[simp] theorem Dev.wrBit_points (d : Dev) (f : Fld) (k : Nat) (b : Bool) (i : Nat) : (d.wrBit f k b i).points = d.points := rfl
@[simp] theorem Dev.wrBit_sys (d : Dev) (f : Fld) (k : Nat) (b : Bool) (i : Nat) : (d.wrBit f k b i).sys = d.sys := rfl
@[simp] theorem Dev.wrBit_cfg (d : Dev) (f : Fld) (k : Nat) (b : Bool) (i : Nat) : (d.wrBit f k b i).cfg = d.cfg := rfl
@[simp] theorem Dev.wrBit_flt (d : Dev) (f : Fld) (k : Nat) (b : Bool) (i : Nat) : (d.wrBit f k b i).flt = d.flt := rfl
@[simp] theorem Dev.wrBit_recd (d : Dev) (f : Fld) (k : Nat) (b : Bool) (i : Nat) : (d.wrBit f k b i).recd = d.recd := rfl
@[simp] theorem Dev.wrBit_que (d : Dev) (f : Fld) (k : Nat) (b : Bool) (i : Nat) : (d.wrBit f k b i).que = d.que := rfl
@[simp] theorem Dev.wrBit_brineFree (d : Dev) (f : Fld) (k : Nat) (b : Bool) (i : Nat) : (d.wrBit f k b i).brineFree = d.brineFree := rfl
@[simp] theorem Dev.wrBit_brineTurn (d : Dev) (f : Fld) (k : Nat) (b : Bool) (i : Nat) : (d.wrBit f k b i).brineTurn = d.brineTurn := rfl
@[simp] theorem Dev.wrBit_tmb (d : Dev) (f : Fld) (k : Nat) (b : Bool) (i : Nat) : (d.wrBit f k b i).tmb = d.tmb := rfl
@[simp] theorem Dev.wrBit_lah (d : Dev) (f : Fld) (k : Nat) (b : Bool) (i : Nat) : (d.wrBit f k b i).lah = d.lah := rfl
@[simp] theorem Dev.wrBit_slu (d : Dev) (f : Fld) (k : Nat) (b : Bool) (i : Nat) : (d.wrBit f k b i).slu = d.slu := rfl
@[simp] theorem Dev.wrBit_ctl (d : Dev) (f : Fld) (k : Nat) (b : Bool) (i : Nat) : (d.wrBit f k b i).ctl = d.ctl := rfl
@[simp] theorem Dev.wrBit_fus (d : Dev) (f : Fld) (k : Nat) (b : Bool) (i : Nat) : (d.wrBit f k b i).fus = d.fus := rfl
@[simp] theorem Dev.wrBit_isp (d : Dev) (f : Fld) (k : Nat) (b : Bool) (i : Nat) : (d.wrBit f k b i).isp = d.isp := rfl
@[simp] theorem Dev.wrBit_gns (d : Dev) (f : Fld) (k : Nat) (b : Bool) (i : Nat) : (d.wrBit f k b i).gns = d.gns := rfl
@[simp] theorem Dev.wrBit_lsw (d : Dev) (f : Fld) (k : Nat) (b : Bool) (i : Nat) : (d.wrBit f k b i).lsw = d.lsw := rfl
@[simp] theorem Dev.wrBit_vdr (d : Dev) (f : Fld) (k : Nat) (b : Bool) (i : Nat) : (d.wrBit f k b i).vdr = d.vdr := rfl
@[simp] theorem Dev.wrBit_fio (d : Dev) (f : Fld) (k : Nat) (b : Bool) (i : Nat) : (d.wrBit f k b i).fio = d.fio := rfl
@[simp] theorem Dev.wrBit_blw (d : Dev) (f : Fld) (k : Nat) (b : Bool) (i : Nat) : (d.wrBit f k b i).blw = d.blw := rfl
@[simp] theorem Dev.wrBit_net (d : Dev) (f : Fld) (k : Nat) (b : Bool) (i : Nat) : (d.wrBit f k b i).net = d.net := rfl
@[simp] theorem Dev.wrBit_thm (d : Dev) (f : Fld) (k : Nat) (b : Bool) (i : Nat) : (d.wrBit f k b i).thm = d.thm := rfl
@[simp] theorem Dev.wrBit_upd (d : Dev) (f : Fld) (k : Nat) (b : Bool) (i : Nat) : (d.wrBit f k b i).upd = d.upd := rfl
@[simp] theorem Dev.wrBit_raised (d : Dev) (f : Fld) (k : Nat) (b : Bool) (i : Nat) : (d.wrBit f k b i).raised = d.raised := rfl
@[simp] theorem Dev.wrBit_out (d : Dev) (f : Fld) (k : Nat) (b : Bool) (i : Nat) : (d.wrBit f k b i).out = d.out := rfl
@[simp] theorem Dev.wrBit_freeSeq (d : Dev) (f : Fld) (k : Nat) (b : Bool) (i : Nat) : (d.wrBit f k b i).freeSeq = d.freeSeq := rfl

/-! `wrS` -/

@[simp] theorem Dev.wrS_now (d : Dev) (f : Fld) (v : Int) (i j : Nat) : (d.wrS f v i j).now = d.now := rfl
@[simp] theorem Dev.wrS_wait (d : Dev) (f : Fld) (v : Int) (i j : Nat) : (d.wrS f v i j).wait = d.wait := rfl
@[simp] theorem Dev.wrS_built (d : Dev) (f : Fld) (v : Int) (i j : Nat) : (d.wrS f v i j).built = d.built := rfl
@[simp] theorem Dev.wrS_points (d : Dev) (f : Fld) (v : Int) (i j : Nat) : (d.wrS f v i j).points = d.points := rfl
@[simp] theorem Dev.wrS_sys (d : Dev) (f : Fld) (v : Int) (i j : Nat) : (d.wrS f v i j).sys = d.sys := rfl
@[simp] theorem Dev.wrS_cfg (d : Dev) (f : Fld) (v : Int) (i j : Nat) : (d.wrS f v i j).cfg = d.cfg := rfl
@[simp] theorem Dev.wrS_flt (d : Dev) (f : Fld) (v : Int) (i j : Nat) : (d.wrS f v i j).flt = d.flt := rfl
@[simp] theorem Dev.wrS_recd (d : Dev) (f : Fld) (v : Int) (i j : Nat) : (d.wrS f v i j).recd = d.recd := rfl
@[simp] theorem Dev.wrS_que (d : Dev) (f : Fld) (v : Int) (i j : Nat) : (d.wrS f v i j).que = d.que := rfl
@[simp] theorem Dev.wrS_brineFree (d : Dev) (f : Fld) (v : Int) (i j : Nat) : (d.wrS f v i j).brineFree = d.brineFree := rfl
@[simp] theorem Dev.wrS_brineTurn (d : Dev) (f : Fld) (v : Int) (i j : Nat) : (d.wrS f v i j).brineTurn = d.brineTurn := rfl
@[simp] theorem Dev.wrS_tmb (d : Dev) (f : Fld) (v : Int) (i j : Nat) : (d.wrS f v i j).tmb = d.tmb := rfl
@[simp] theorem Dev.wrS_lah (d : Dev) (f : Fld) (v : Int) (i j : Nat) : (d.wrS f v i j).lah = d.lah := rfl
@[simp] theorem Dev.wrS_slu (d : Dev) (f : Fld) (v : Int) (i j : Nat) : (d.wrS f v i j).slu = d.slu := rfl
@[simp] theorem Dev.wrS_ctl (d : Dev) (f : Fld) (v : Int) (i j : Nat) : (d.wrS f v i j).ctl = d.ctl := rfl
@[simp] theorem Dev.wrS_fus (d : Dev) (f : Fld) (v : Int) (i j : Nat) : (d.wrS f v i j).fus = d.fus := rfl
@[simp] theorem Dev.wrS_isp (d : Dev) (f : Fld) (v : Int) (i j : Nat) : (d.wrS f v i j).isp = d.isp := rfl
@[simp] theorem Dev.wrS_gns (d : Dev) (f : Fld) (v : Int) (i j : Nat) : (d.wrS f v i j).gns = d.gns := rfl
@[simp] theorem Dev.wrS_lsw (d : Dev) (f : Fld) (v : Int) (i j : Nat) : (d.wrS f v i j).lsw = d.lsw := rfl
@[simp] theorem Dev.wrS_vdr (d : Dev) (f : Fld) (v : Int) (i j : Nat) : (d.wrS f v i j).vdr = d.vdr := rfl
@[simp] theorem Dev.wrS_fio (d : Dev) (f : Fld) (v : Int) (i j : Nat) : (d.wrS f v i j).fio = d.fio := rfl
@[simp] theorem Dev.wrS_blw (d : Dev) (f : Fld) (v : Int) (i j : Nat) : (d.wrS f v i j).blw = d.blw := rfl
@[simp] theorem Dev.wrS_net (d : Dev) (f : Fld) (v : Int) (i j : Nat) : (d.wrS f v i j).net = d.net := rfl
@[simp] theorem Dev.wrS_thm (d : Dev) (f : Fld) (v : Int) (i j : Nat) : (d.wrS f v i j).thm = d.thm := rfl
@[simp] theorem Dev.wrS_upd (d : Dev) (f : Fld) (v : Int) (i j : Nat) : (d.wrS f v i j).upd = d.upd := rfl
@[simp] theorem Dev.wrS_raised (d : Dev) (f : Fld) (v : Int) (i j : Nat) : (d.wrS f v i j).raised = d.raised := rfl
@[simp] theorem Dev.wrS_out (d : Dev) (f : Fld) (v : Int) (i j : Nat) : (d.wrS f v i j).out = d.out := rfl
@[simp] theorem Dev.wrS_freeSeq (d : Dev) (f : Fld) (v : Int) (i j : Nat) : (d.wrS f v i j).freeSeq = d.freeSeq := rfl

/-! `count` -/

@[simp] theorem Dev.count_now (d : Dev) (f : Fld) (i j : Nat) : (d.count f i j).now = d.now := rfl
@[simp] theorem Dev.count_wait (d : Dev) (f : Fld) (i j : Nat) : (d.count f i j).wait = d.wait := rfl
@[simp] theorem Dev.count_built (d : Dev) (f : Fld) (i j : Nat) : (d.count f i j).built = d.built := rfl
@[simp] theorem Dev.count_points (d : Dev) (f : Fld) (i j : Nat) : (d.count f i j).points = d.points := rfl
@[simp] theorem Dev.count_sys (d : Dev) (f : Fld) (i j : Nat) : (d.count f i j).sys = d.sys := rfl
@[simp] theorem Dev.count_cfg (d : Dev) (f : Fld) (i j : Nat) : (d.count f i j).cfg = d.cfg := rfl
@[simp] theorem Dev.count_flt (d : Dev) (f : Fld) (i j : Nat) : (d.count f i j).flt = d.flt := rfl
@[simp] theorem Dev.count_recd (d : Dev) (f : Fld) (i j : Nat) : (d.count f i j).recd = d.recd := rfl
@[simp] theorem Dev.count_que (d : Dev) (f : Fld) (i j : Nat) : (d.count f i j).que = d.que := rfl
@[simp] theorem Dev.count_brineFree (d : Dev) (f : Fld) (i j : Nat) : (d.count f i j).brineFree = d.brineFree := rfl
@[simp] theorem Dev.count_brineTurn (d : Dev) (f : Fld) (i j : Nat) : (d.count f i j).brineTurn = d.brineTurn := rfl
@[simp] theorem Dev.count_tmb (d : Dev) (f : Fld) (i j : Nat) : (d.count f i j).tmb = d.tmb := rfl
@[simp] theorem Dev.count_lah (d : Dev) (f : Fld) (i j : Nat) : (d.count f i j).lah = d.lah := rfl
@[simp] theorem Dev.count_slu (d : Dev) (f : Fld) (i j : Nat) : (d.count f i j).slu = d.slu := rfl
@[simp] theorem Dev.count_ctl (d : Dev) (f : Fld) (i j : Nat) : (d.count f i j).ctl = d.ctl := rfl
@[simp] theorem Dev.count_fus (d : Dev) (f : Fld) (i j : Nat) : (d.count f i j).fus = d.fus := rfl
@[simp] theorem Dev.count_isp (d : Dev) (f : Fld) (i j : Nat) : (d.count f i j).isp = d.isp := rfl
@[simp] theorem Dev.count_gns (d : Dev) (f : Fld) (i j : Nat) : (d.count f i j).gns = d.gns := rfl
@[simp] theorem Dev.count_lsw (d : Dev) (f : Fld) (i j : Nat) : (d.count f i j).lsw = d.lsw := rfl
@[simp] theorem Dev.count_vdr (d : Dev) (f : Fld) (i j : Nat) : (d.count f i j).vdr = d.vdr := rfl
@[simp] theorem Dev.count_fio (d : Dev) (f : Fld) (i j : Nat) : (d.count f i j).fio = d.fio := rfl
@[simp] theorem Dev.count_blw (d : Dev) (f : Fld) (i j : Nat) : (d.count f i j).blw = d.blw := rfl
@[simp] theorem Dev.count_net (d : Dev) (f : Fld) (i j : Nat) : (d.count f i j).net = d.net := rfl
@[simp] theorem Dev.count_thm (d : Dev) (f : Fld) (i j : Nat) : (d.count f i j).thm = d.thm := rfl
@[simp] theorem Dev.count_upd (d : Dev) (f : Fld) (i j : Nat) : (d.count f i j).upd = d.upd := rfl
@[simp] theorem Dev.count_raised (d : Dev) (f : Fld) (i j : Nat) : (d.count f i j).raised = d.raised := rfl
@[simp] theorem Dev.count_out (d : Dev) (f : Fld) (i j : Nat) : (d.count f i j).out = d.out := rfl
@[simp] theorem Dev.count_freeSeq (d : Dev) (f : Fld) (i j : Nat) : (d.count f i j).freeSeq = d.freeSeq := rfl

/-! `bump` -/

@[simp] theorem Dev.bump_now (d : Dev) (f : Fld) (i j : Nat) : (d.bump f i j).now = d.now := rfl
@[simp] theorem Dev.bump_wait (d : Dev) (f : Fld) (i j : Nat) : (d.bump f i j).wait = d.wait := rfl
@[simp] theorem Dev.bump_built (d : Dev) (f : Fld) (i j : Nat) : (d.bump f i j).built = d.built := rfl
@[simp] theorem Dev.bump_points (d : Dev) (f : Fld) (i j : Nat) : (d.bump f i j).points = d.points := rfl
@[simp] theorem Dev.bump_sys (d : Dev) (f : Fld) (i j : Nat) : (d.bump f i j).sys = d.sys := rfl
@[simp] theorem Dev.bump_cfg (d : Dev) (f : Fld) (i j : Nat) : (d.bump f i j).cfg = d.cfg := rfl
@[simp] theorem Dev.bump_flt (d : Dev) (f : Fld) (i j : Nat) : (d.bump f i j).flt = d.flt := rfl
@[simp] theorem Dev.bump_recd (d : Dev) (f : Fld) (i j : Nat) : (d.bump f i j).recd = d.recd := rfl
@[simp] theorem Dev.bump_que (d : Dev) (f : Fld) (i j : Nat) : (d.bump f i j).que = d.que := rfl
@[simp] theorem Dev.bump_brineFree (d : Dev) (f : Fld) (i j : Nat) : (d.bump f i j).brineFree = d.brineFree := rfl
@[simp] theorem Dev.bump_brineTurn (d : Dev) (f : Fld) (i j : Nat) : (d.bump f i j).brineTurn = d.brineTurn := rfl
@[simp] theorem Dev.bump_tmb (d : Dev) (f : Fld) (i j : Nat) : (d.bump f i j).tmb = d.tmb := rfl
@[simp] theorem Dev.bump_lah (d : Dev) (f : Fld) (i j : Nat) : (d.bump f i j).lah = d.lah := rfl
@[simp] theorem Dev.bump_slu (d : Dev) (f : Fld) (i j : Nat) : (d.bump f i j).slu = d.slu := rfl
@[simp] theorem Dev.bump_ctl (d : Dev) (f : Fld) (i j : Nat) : (d.bump f i j).ctl = d.ctl := rfl
@[simp] theorem Dev.bump_fus (d : Dev) (f : Fld) (i j : Nat) : (d.bump f i j).fus = d.fus := rfl
@[simp] theorem Dev.bump_isp (d : Dev) (f : Fld) (i j : Nat) : (d.bump f i j).isp = d.isp := rfl
@[simp] theorem Dev.bump_gns (d : Dev) (f : Fld) (i j : Nat) : (d.bump f i j).gns = d.gns := rfl
@[simp] theorem Dev.bump_lsw (d : Dev) (f : Fld) (i j : Nat) : (d.bump f i j).lsw = d.lsw := rfl
@[simp] theorem Dev.bump_vdr (d : Dev) (f : Fld) (i j : Nat) : (d.bump f i j).vdr = d.vdr := rfl
@[simp] theorem Dev.bump_fio (d : Dev) (f : Fld) (i j : Nat) : (d.bump f i j).fio = d.fio := rfl
@[simp] theorem Dev.bump_blw (d : Dev) (f : Fld) (i j : Nat) : (d.bump f i j).blw = d.blw := rfl
@[simp] theorem Dev.bump_net (d : Dev) (f : Fld) (i j : Nat) : (d.bump f i j).net = d.net := rfl
@[simp] theorem Dev.bump_thm (d : Dev) (f : Fld) (i j : Nat) : (d.bump f i j).thm = d.thm := rfl
@[simp] theorem Dev.bump_upd (d : Dev) (f : Fld) (i j : Nat) : (d.bump f i j).upd = d.upd := rfl
@[simp] theorem Dev.bump_raised (d : Dev) (f : Fld) (i j : Nat) : (d.bump f i j).raised = d.raised := rfl
@[simp] theorem Dev.bump_out (d : Dev) (f : Fld) (i j : Nat) : (d.bump f i j).out = d.out := rfl
@[simp] theorem Dev.bump_freeSeq (d : Dev) (f : Fld) (i j : Nat) : (d.bump f i j).freeSeq = d.freeSeq := rfl

/-! `note` -/

@[simp] theorem Dev.note_now (d : Dev) (r : Raised) : (d.note r).now = d.now := rfl
@[simp] theorem Dev.note_regs (d : Dev) (r : Raised) : (d.note r).regs = d.regs := rfl
@[simp] theorem Dev.note_wait (d : Dev) (r : Raised) : (d.note r).wait = d.wait := rfl
@[simp] theorem Dev.note_built (d : Dev) (r : Raised) : (d.note r).built = d.built := rfl
@[simp] theorem Dev.note_points (d : Dev) (r : Raised) : (d.note r).points = d.points := rfl
@[simp] theorem Dev.note_sys (d : Dev) (r : Raised) : (d.note r).sys = d.sys := rfl
@[simp] theorem Dev.note_cfg (d : Dev) (r : Raised) : (d.note r).cfg = d.cfg := rfl
@[simp] theorem Dev.note_flt (d : Dev) (r : Raised) : (d.note r).flt = d.flt := rfl
@[simp] theorem Dev.note_recd (d : Dev) (r : Raised) : (d.note r).recd = d.recd := rfl
@[simp] theorem Dev.note_que (d : Dev) (r : Raised) : (d.note r).que = d.que := rfl
@[simp] theorem Dev.note_brineFree (d : Dev) (r : Raised) : (d.note r).brineFree = d.brineFree := rfl
@[simp] theorem Dev.note_brineTurn (d : Dev) (r : Raised) : (d.note r).brineTurn = d.brineTurn := rfl
@[simp] theorem Dev.note_tmb (d : Dev) (r : Raised) : (d.note r).tmb = d.tmb := rfl
@[simp] theorem Dev.note_lah (d : Dev) (r : Raised) : (d.note r).lah = d.lah := rfl
@[simp] theorem Dev.note_slu (d : Dev) (r : Raised) : (d.note r).slu = d.slu := rfl
@[simp] theorem Dev.note_ctl (d : Dev) (r : Raised) : (d.note r).ctl = d.ctl := rfl
@[simp] theorem Dev.note_fus (d : Dev) (r : Raised) : (d.note r).fus = d.fus := rfl
@[simp] theorem Dev.note_isp (d : Dev) (r : Raised) : (d.note r).isp = d.isp := rfl
@[simp] theorem Dev.note_gns (d : Dev) (r : Raised) : (d.note r).gns = d.gns := rfl
@[simp] theorem Dev.note_lsw (d : Dev) (r : Raised) : (d.note r).lsw = d.lsw := rfl
@[simp] theorem Dev.note_vdr (d : Dev) (r : Raised) : (d.note r).vdr = d.vdr := rfl
@[simp] theorem Dev.note_fio (d : Dev) (r : Raised) : (d.note r).fio = d.fio := rfl
@[simp] theorem Dev.note_blw (d : Dev) (r : Raised) : (d.note r).blw = d.blw := rfl
@[simp] theorem Dev.note_net (d : Dev) (r : Raised) : (d.note r).net = d.net := rfl
@[simp] theorem Dev.note_thm (d : Dev) (r : Raised) : (d.note r).thm = d.thm := rfl
@[simp] theorem Dev.note_upd (d : Dev) (r : Raised) : (d.note r).upd = d.upd := rfl
@[simp] theorem Dev.note_out (d : Dev) (r : Raised) : (d.note r).out = d.out := rfl
@[simp] theorem Dev.note_freeSeq (d : Dev) (r : Raised) : (d.note r).freeSeq = d.freeSeq := rfl
@[simp] theorem Dev.note_rd (d : Dev) (r : Raised) (g : Fld) (k l : Nat) : (d.note r).rd g k l = d.rd g k l := rfl

/-! `raise` -/

@[simp] theorem Dev.raise_now (d : Dev) (c n : Nat) : (d.raise c n).now = d.now := rfl
@[simp] theorem Dev.raise_regs (d : Dev) (c n : Nat) : (d.raise c n).regs = d.regs := rfl
@[simp] theorem Dev.raise_wait (d : Dev) (c n : Nat) : (d.raise c n).wait = d.wait := rfl
@[simp] theorem Dev.raise_built (d : Dev) (c n : Nat) : (d.raise c n).built = d.built := rfl
@[simp] theorem Dev.raise_points (d : Dev) (c n : Nat) : (d.raise c n).points = d.points := rfl
@[simp] theorem Dev.raise_sys (d : Dev) (c n : Nat) : (d.raise c n).sys = d.sys := rfl
@[simp] theorem Dev.raise_cfg (d : Dev) (c n : Nat) : (d.raise c n).cfg = d.cfg := rfl
@[simp] theorem Dev.raise_flt (d : Dev) (c n : Nat) : (d.raise c n).flt = d.flt := rfl
@[simp] theorem Dev.raise_recd (d : Dev) (c n : Nat) : (d.raise c n).recd = d.recd := rfl
@[simp] theorem Dev.raise_que (d : Dev) (c n : Nat) : (d.raise c n).que = d.que := rfl
@[simp] theorem Dev.raise_brineFree (d : Dev) (c n : Nat) : (d.raise c n).brineFree = d.brineFree := rfl
@[simp] theorem Dev.raise_brineTurn (d : Dev) (c n : Nat) : (d.raise c n).brineTurn = d.brineTurn := rfl
@[simp] theorem Dev.raise_tmb (d : Dev) (c n : Nat) : (d.raise c n).tmb = d.tmb := rfl
@[simp] theorem Dev.raise_lah (d : Dev) (c n : Nat) : (d.raise c n).lah = d.lah := rfl
@[simp] theorem Dev.raise_slu (d : Dev) (c n : Nat) : (d.raise c n).slu = d.slu := rfl
@[simp] theorem Dev.raise_ctl (d : Dev) (c n : Nat) : (d.raise c n).ctl = d.ctl := rfl
@[simp] theorem Dev.raise_fus (d : Dev) (c n : Nat) : (d.raise c n).fus = d.fus := rfl
@[simp] theorem Dev.raise_isp (d : Dev) (c n : Nat) : (d.raise c n).isp = d.isp := rfl
@[simp] theorem Dev.raise_gns (d : Dev) (c n : Nat) : (d.raise c n).gns = d.gns := rfl
@[simp] theorem Dev.raise_lsw (d : Dev) (c n : Nat) : (d.raise c n).lsw = d.lsw := rfl
@[simp] theorem Dev.raise_vdr (d : Dev) (c n : Nat) : (d.raise c n).vdr = d.vdr := rfl
@[simp] theorem Dev.raise_fio (d : Dev) (c n : Nat) : (d.raise c n).fio = d.fio := rfl
@[simp] theorem Dev.raise_blw (d : Dev) (c n : Nat) : (d.raise c n).blw = d.blw := rfl
@[simp] theorem Dev.raise_net (d : Dev) (c n : Nat) : (d.raise c n).net = d.net := rfl
@[simp] theorem Dev.raise_thm (d : Dev) (c n : Nat) : (d.raise c n).thm = d.thm := rfl
@[simp] theorem Dev.raise_upd (d : Dev) (c n : Nat) : (d.raise c n).upd = d.upd := rfl
@[simp] theorem Dev.raise_out (d : Dev) (c n : Nat) : (d.raise c n).out = d.out := rfl
@[simp] theorem Dev.raise_freeSeq (d : Dev) (c n : Nat) : (d.raise c n).freeSeq = d.freeSeq := rfl
@[simp] theorem Dev.raise_rd (d : Dev) (c n : Nat) (g : Fld) (k l : Nat) : (d.raise c n).rd g k l = d.rd g k l := rfl

/-! `recover` -/

@[simp] theorem Dev.recover_now (d : Dev) (c n : Nat) : (d.recover c n).now = d.now := rfl
@[simp] theorem Dev.recover_regs (d : Dev) (c n : Nat) : (d.recover c n).regs = d.regs := rfl
@[simp] theorem Dev.recover_wait (d : Dev) (c n : Nat) : (d.recover c n).wait = d.wait := rfl
@[simp] theorem Dev.recover_built (d : Dev) (c n : Nat) : (d.recover c n).built = d.built := rfl
@[simp] theorem Dev.recover_points (d : Dev) (c n : Nat) : (d.recover c n).points = d.points := rfl
@[simp] theorem Dev.recover_sys (d : Dev) (c n : Nat) : (d.recover c n).sys = d.sys := rfl
@[simp] theorem Dev.recover_cfg (d : Dev) (c n : Nat) : (d.recover c n).cfg = d.cfg := rfl
@[simp] theorem Dev.recover_flt (d : Dev) (c n : Nat) : (d.recover c n).flt = d.flt := rfl
@[simp] theorem Dev.recover_recd (d : Dev) (c n : Nat) : (d.recover c n).recd = d.recd := rfl
@[simp] theorem Dev.recover_que (d : Dev) (c n : Nat) : (d.recover c n).que = d.que := rfl
@[simp] theorem Dev.recover_brineFree (d : Dev) (c n : Nat) : (d.recover c n).brineFree = d.brineFree := rfl
@[simp] theorem Dev.recover_brineTurn (d : Dev) (c n : Nat) : (d.recover c n).brineTurn = d.brineTurn := rfl
@[simp] theorem Dev.recover_tmb (d : Dev) (c n : Nat) : (d.recover c n).tmb = d.tmb := rfl
@[simp] theorem Dev.recover_lah (d : Dev) (c n : Nat) : (d.recover c n).lah = d.lah := rfl
@[simp] theorem Dev.recover_slu (d : Dev) (c n : Nat) : (d.recover c n).slu = d.slu := rfl
@[simp] theorem Dev.recover_ctl (d : Dev) (c n : Nat) : (d.recover c n).ctl = d.ctl := rfl
@[simp] theorem Dev.recover_fus (d : Dev) (c n : Nat) : (d.recover c n).fus = d.fus := rfl
@[simp] theorem Dev.recover_isp (d : Dev) (c n : Nat) : (d.recover c n).isp = d.isp := rfl
@[simp] theorem Dev.recover_gns (d : Dev) (c n : Nat) : (d.recover c n).gns = d.gns := rfl
@[simp] theorem Dev.recover_lsw (d : Dev) (c n : Nat) : (d.recover c n).lsw = d.lsw := rfl
@[simp] theorem Dev.recover_vdr (d : Dev) (c n : Nat) : (d.recover c n).vdr = d.vdr := rfl
@[simp] theorem Dev.recover_fio (d : Dev) (c n : Nat) : (d.recover c n).fio = d.fio := rfl
@[simp] theorem Dev.recover_blw (d : Dev) (c n : Nat) : (d.recover c n).blw = d.blw := rfl
@[simp] theorem Dev.recover_net (d : Dev) (c n : Nat) : (d.recover c n).net = d.net := rfl
@[simp] theorem Dev.recover_thm (d : Dev) (c n : Nat) : (d.recover c n).thm = d.thm := rfl
@[simp] theorem Dev.recover_upd (d : Dev) (c n : Nat) : (d.recover c n).upd = d.upd := rfl
@[simp] theorem Dev.recover_out (d : Dev) (c n : Nat) : (d.recover c n).out = d.out := rfl
@[simp] theorem Dev.recover_freeSeq (d : Dev) (c n : Nat) : (d.recover c n).freeSeq = d.freeSeq := rfl
@[simp] theorem Dev.recover_rd (d : Dev) (c n : Nat) (g : Fld) (k l : Nat) : (d.recover c n).rd g k l = d.rd g k l := rfl

/-! `cause` -/

@[simp] theorem Dev.cause_now (d : Dev) (f : Fld) (k : Nat) : (d.cause f k).now = d.now := rfl
@[simp] theorem Dev.cause_wait (d : Dev) (f : Fld) (k : Nat) : (d.cause f k).wait = d.wait := rfl
@[simp] theorem Dev.cause_built (d : Dev) (f : Fld) (k : Nat) : (d.cause f k).built = d.built := rfl
@[simp] theorem Dev.cause_points (d : Dev) (f : Fld) (k : Nat) : (d.cause f k).points = d.points := rfl
@[simp] theorem Dev.cause_sys (d : Dev) (f : Fld) (k : Nat) : (d.cause f k).sys = d.sys := rfl
@[simp] theorem Dev.cause_cfg (d : Dev) (f : Fld) (k : Nat) : (d.cause f k).cfg = d.cfg := rfl
@[simp] theorem Dev.cause_flt (d : Dev) (f : Fld) (k : Nat) : (d.cause f k).flt = d.flt := rfl
@[simp] theorem Dev.cause_recd (d : Dev) (f : Fld) (k : Nat) : (d.cause f k).recd = d.recd := rfl
@[simp] theorem Dev.cause_que (d : Dev) (f : Fld) (k : Nat) : (d.cause f k).que = d.que := rfl
@[simp] theorem Dev.cause_brineFree (d : Dev) (f : Fld) (k : Nat) : (d.cause f k).brineFree = d.brineFree := rfl
@[simp] theorem Dev.cause_brineTurn (d : Dev) (f : Fld) (k : Nat) : (d.cause f k).brineTurn = d.brineTurn := rfl
@[simp] theorem Dev.cause_tmb (d : Dev) (f : Fld) (k : Nat) : (d.cause f k).tmb = d.tmb := rfl
@[simp] theorem Dev.cause_lah (d : Dev) (f : Fld) (k : Nat) : (d.cause f k).lah = d.lah := rfl
@[simp] theorem Dev.cause_slu (d : Dev) (f : Fld) (k : Nat) : (d.cause f k).slu = d.slu := rfl
@[simp] theorem Dev.cause_ctl (d : Dev) (f : Fld) (k : Nat) : (d.cause f k).ctl = d.ctl := rfl
@[simp] theorem Dev.cause_fus (d : Dev) (f : Fld) (k : Nat) : (d.cause f k).fus = d.fus := rfl
@[simp] theorem Dev.cause_isp (d : Dev) (f : Fld) (k : Nat) : (d.cause f k).isp = d.isp := rfl
@[simp] theorem Dev.cause_gns (d : Dev) (f : Fld) (k : Nat) : (d.cause f k).gns = d.gns := rfl
@[simp] theorem Dev.cause_lsw (d : Dev) (f : Fld) (k : Nat) : (d.cause f k).lsw = d.lsw := rfl
@[simp] theorem Dev.cause_vdr (d : Dev) (f : Fld) (k : Nat) : (d.cause f k).vdr = d.vdr := rfl
@[simp] theorem Dev.cause_fio (d : Dev) (f : Fld) (k : Nat) : (d.cause f k).fio = d.fio := rfl
@[simp] theorem Dev.cause_blw (d : Dev) (f : Fld) (k : Nat) : (d.cause f k).blw = d.blw := rfl
@[simp] theorem Dev.cause_net (d : Dev) (f : Fld) (k : Nat) : (d.cause f k).net = d.net := rfl
@[simp] theorem Dev.cause_thm (d : Dev) (f : Fld) (k : Nat) : (d.cause f k).thm = d.thm := rfl
@[simp] theorem Dev.cause_upd (d : Dev) (f : Fld) (k : Nat) : (d.cause f k).upd = d.upd := rfl
@[simp] theorem Dev.cause_out (d : Dev) (f : Fld) (k : Nat) : (d.cause f k).out = d.out := rfl
@[simp] theorem Dev.cause_freeSeq (d : Dev) (f : Fld) (k : Nat) : (d.cause f k).freeSeq = d.freeSeq := rfl

/-! `emit` -/

@[simp] theorem Dev.emit_now (d : Dev) (e : Emission) : (d.emit e).now = d.now := rfl
@[simp] theorem Dev.emit_regs (d : Dev) (e : Emission) : (d.emit e).regs = d.regs := rfl
@[simp] theorem Dev.emit_wait (d : Dev) (e : Emission) : (d.emit e).wait = d.wait := rfl
@[simp] theorem Dev.emit_built (d : Dev) (e : Emission) : (d.emit e).built = d.built := rfl
@[simp] theorem Dev.emit_points (d : Dev) (e : Emission) : (d.emit e).points = d.points := rfl
@[simp] theorem Dev.emit_sys (d : Dev) (e : Emission) : (d.emit e).sys = d.sys := rfl
@[simp] theorem Dev.emit_cfg (d : Dev) (e : Emission) : (d.emit e).cfg = d.cfg := rfl
@[simp] theorem Dev.emit_flt (d : Dev) (e : Emission) : (d.emit e).flt = d.flt := rfl
@[simp] theorem Dev.emit_recd (d : Dev) (e : Emission) : (d.emit e).recd = d.recd := rfl
@[simp] theorem Dev.emit_que (d : Dev) (e : Emission) : (d.emit e).que = d.que := rfl
@[simp] theorem Dev.emit_brineFree (d : Dev) (e : Emission) : (d.emit e).brineFree = d.brineFree := rfl
@[simp] theorem Dev.emit_brineTurn (d : Dev) (e : Emission) : (d.emit e).brineTurn = d.brineTurn := rfl
@[simp] theorem Dev.emit_tmb (d : Dev) (e : Emission) : (d.emit e).tmb = d.tmb := rfl
@[simp] theorem Dev.emit_lah (d : Dev) (e : Emission) : (d.emit e).lah = d.lah := rfl
@[simp] theorem Dev.emit_slu (d : Dev) (e : Emission) : (d.emit e).slu = d.slu := rfl
@[simp] theorem Dev.emit_ctl (d : Dev) (e : Emission) : (d.emit e).ctl = d.ctl := rfl
@[simp] theorem Dev.emit_fus (d : Dev) (e : Emission) : (d.emit e).fus = d.fus := rfl
@[simp] theorem Dev.emit_isp (d : Dev) (e : Emission) : (d.emit e).isp = d.isp := rfl
@[simp] theorem Dev.emit_gns (d : Dev) (e : Emission) : (d.emit e).gns = d.gns := rfl
@[simp] theorem Dev.emit_lsw (d : Dev) (e : Emission) : (d.emit e).lsw = d.lsw := rfl
@[simp] theorem Dev.emit_vdr (d : Dev) (e : Emission) : (d.emit e).vdr = d.vdr := rfl
@[simp] theorem Dev.emit_fio (d : Dev) (e : Emission) : (d.emit e).fio = d.fio := rfl
@[simp] theorem Dev.emit_blw (d : Dev) (e : Emission) : (d.emit e).blw = d.blw := rfl
@[simp] theorem Dev.emit_net (d : Dev) (e : Emission) : (d.emit e).net = d.net := rfl
@[simp] theorem Dev.emit_thm (d : Dev) (e : Emission) : (d.emit e).thm = d.thm := rfl
@[simp] theorem Dev.emit_upd (d : Dev) (e : Emission) : (d.emit e).upd = d.upd := rfl
@[simp] theorem Dev.emit_raised (d : Dev) (e : Emission) : (d.emit e).raised = d.raised := rfl
@[simp] theorem Dev.emit_freeSeq (d : Dev) (e : Emission) : (d.emit e).freeSeq = d.freeSeq := rfl
@[simp] theorem Dev.emit_rd (d : Dev) (e : Emission) (g : Fld) (k l : Nat) : (d.emit e).rd g k l = d.rd g k l := rfl

/-! `busOk` -/

@[simp] theorem Dev.busOk_now (d : Dev) : (d.busOk).now = d.now := rfl
@[simp] theorem Dev.busOk_regs (d : Dev) : (d.busOk).regs = d.regs := rfl
@[simp] theorem Dev.busOk_wait (d : Dev) : (d.busOk).wait = d.wait := rfl
@[simp] theorem Dev.busOk_built (d : Dev) : (d.busOk).built = d.built := rfl
@[simp] theorem Dev.busOk_points (d : Dev) : (d.busOk).points = d.points := rfl
@[simp] theorem Dev.busOk_sys (d : Dev) : (d.busOk).sys = d.sys := rfl
@[simp] theorem Dev.busOk_cfg (d : Dev) : (d.busOk).cfg = d.cfg := rfl
@[simp] theorem Dev.busOk_flt (d : Dev) : (d.busOk).flt = d.flt := rfl
@[simp] theorem Dev.busOk_recd (d : Dev) : (d.busOk).recd = d.recd := rfl
@[simp] theorem Dev.busOk_que (d : Dev) : (d.busOk).que = d.que := rfl
@[simp] theorem Dev.busOk_brineFree (d : Dev) : (d.busOk).brineFree = d.brineFree := rfl
@[simp] theorem Dev.busOk_brineTurn (d : Dev) : (d.busOk).brineTurn = d.brineTurn := rfl
@[simp] theorem Dev.busOk_tmb (d : Dev) : (d.busOk).tmb = d.tmb := rfl
@[simp] theorem Dev.busOk_lah (d : Dev) : (d.busOk).lah = d.lah := rfl
@[simp] theorem Dev.busOk_slu (d : Dev) : (d.busOk).slu = d.slu := rfl
@[simp] theorem Dev.busOk_ctl (d : Dev) : (d.busOk).ctl = d.ctl := rfl
@[simp] theorem Dev.busOk_fus (d : Dev) : (d.busOk).fus = d.fus := rfl
@[simp] theorem Dev.busOk_isp (d : Dev) : (d.busOk).isp = d.isp := rfl
@[simp] theorem Dev.busOk_gns (d : Dev) : (d.busOk).gns = d.gns := rfl
@[simp] theorem Dev.busOk_lsw (d : Dev) : (d.busOk).lsw = d.lsw := rfl
@[simp] theorem Dev.busOk_vdr (d : Dev) : (d.busOk).vdr = d.vdr := rfl
@[simp] theorem Dev.busOk_fio (d : Dev) : (d.busOk).fio = d.fio := rfl
@[simp] theorem Dev.busOk_blw (d : Dev) : (d.busOk).blw = d.blw := rfl
@[simp] theorem Dev.busOk_net (d : Dev) : (d.busOk).net = d.net := rfl
@[simp] theorem Dev.busOk_thm (d : Dev) : (d.busOk).thm = d.thm := rfl
@[simp] theorem Dev.busOk_upd (d : Dev) : (d.busOk).upd = d.upd := rfl
@[simp] theorem Dev.busOk_raised (d : Dev) : (d.busOk).raised = d.raised := rfl
@[simp] theorem Dev.busOk_freeSeq (d : Dev) : (d.busOk).freeSeq = d.freeSeq := rfl
@[simp] theorem Dev.busOk_rd (d : Dev) (g : Fld) (k l : Nat) : (d.busOk).rd g k l = d.rd g k l := rfl

/-! `busError` -/

@[simp] theorem Dev.busError_now (d : Dev) : (d.busError).now = d.now := rfl
@[simp] theorem Dev.busError_regs (d : Dev) : (d.busError).regs = d.regs := rfl
@[simp] theorem Dev.busError_wait (d : Dev) : (d.busError).wait = d.wait := rfl
@[simp] theorem Dev.busError_built (d : Dev) : (d.busError).built = d.built := rfl
@[simp] theorem Dev.busError_points (d : Dev) : (d.busError).points = d.points := rfl
@[simp] theorem Dev.busError_sys (d : Dev) : (d.busError).sys = d.sys := rfl
@[simp] theorem Dev.busError_cfg (d : Dev) : (d.busError).cfg = d.cfg := rfl
@[simp] theorem Dev.busError_flt (d : Dev) : (d.busError).flt = d.flt := rfl
@[simp] theorem Dev.busError_recd (d : Dev) : (d.busError).recd = d.recd := rfl
@[simp] theorem Dev.busError_que (d : Dev) : (d.busError).que = d.que := rfl
@[simp] theorem Dev.busError_brineFree (d : Dev) : (d.busError).brineFree = d.brineFree := rfl
@[simp] theorem Dev.busError_brineTurn (d : Dev) : (d.busError).brineTurn = d.brineTurn := rfl
@[simp] theorem Dev.busError_tmb (d : Dev) : (d.busError).tmb = d.tmb := rfl
@[simp] theorem Dev.busError_lah (d : Dev) : (d.busError).lah = d.lah := rfl
@[simp] theorem Dev.busError_slu (d : Dev) : (d.busError).slu = d.slu := rfl
@[simp] theorem Dev.busError_ctl (d : Dev) : (d.busError).ctl = d.ctl := rfl
@[simp] theorem Dev.busError_fus (d : Dev) : (d.busError).fus = d.fus := rfl
@[simp] theorem Dev.busError_isp (d : Dev) : (d.busError).isp = d.isp := rfl
@[simp] theorem Dev.busError_gns (d : Dev) : (d.busError).gns = d.gns := rfl
@[simp] theorem Dev.busError_lsw (d : Dev) : (d.busError).lsw = d.lsw := rfl
@[simp] theorem Dev.busError_vdr (d : Dev) : (d.busError).vdr = d.vdr := rfl
@[simp] theorem Dev.busError_fio (d : Dev) : (d.busError).fio = d.fio := rfl
@[simp] theorem Dev.busError_blw (d : Dev) : (d.busError).blw = d.blw := rfl
@[simp] theorem Dev.busError_net (d : Dev) : (d.busError).net = d.net := rfl
@[simp] theorem Dev.busError_thm (d : Dev) : (d.busError).thm = d.thm := rfl
@[simp] theorem Dev.busError_upd (d : Dev) : (d.busError).upd = d.upd := rfl
@[simp] theorem Dev.busError_raised (d : Dev) : (d.busError).raised = d.raised := rfl
@[simp] theorem Dev.busError_freeSeq (d : Dev) : (d.busError).freeSeq = d.freeSeq := rfl
@[simp] theorem Dev.busError_rd (d : Dev) (g : Fld) (k l : Nat) : (d.busError).rd g k l = d.rd g k l := rfl

/-! `freeTaken` -/

@[simp] theorem Dev.freeTaken_now (d : Dev) : (d.freeTaken).now = d.now := rfl
@[simp] theorem Dev.freeTaken_regs (d : Dev) : (d.freeTaken).regs = d.regs := rfl
@[simp] theorem Dev.freeTaken_wait (d : Dev) : (d.freeTaken).wait = d.wait := rfl
@[simp] theorem Dev.freeTaken_built (d : Dev) : (d.freeTaken).built = d.built := rfl
@[simp] theorem Dev.freeTaken_points (d : Dev) : (d.freeTaken).points = d.points := rfl
@[simp] theorem Dev.freeTaken_sys (d : Dev) : (d.freeTaken).sys = d.sys := rfl
@[simp] theorem Dev.freeTaken_cfg (d : Dev) : (d.freeTaken).cfg = d.cfg := rfl
@[simp] theorem Dev.freeTaken_flt (d : Dev) : (d.freeTaken).flt = d.flt := rfl
@[simp] theorem Dev.freeTaken_recd (d : Dev) : (d.freeTaken).recd = d.recd := rfl
@[simp] theorem Dev.freeTaken_que (d : Dev) : (d.freeTaken).que = d.que := rfl
@[simp] theorem Dev.freeTaken_brineFree (d : Dev) : (d.freeTaken).brineFree = d.brineFree := rfl
@[simp] theorem Dev.freeTaken_brineTurn (d : Dev) : (d.freeTaken).brineTurn = d.brineTurn := rfl
@[simp] theorem Dev.freeTaken_tmb (d : Dev) : (d.freeTaken).tmb = d.tmb := rfl
@[simp] theorem Dev.freeTaken_lah (d : Dev) : (d.freeTaken).lah = d.lah := rfl
@[simp] theorem Dev.freeTaken_slu (d : Dev) : (d.freeTaken).slu = d.slu := rfl
@[simp] theorem Dev.freeTaken_ctl (d : Dev) : (d.freeTaken).ctl = d.ctl := rfl
@[simp] theorem Dev.freeTaken_fus (d : Dev) : (d.freeTaken).fus = d.fus := rfl
@[simp] theorem Dev.freeTaken_isp (d : Dev) : (d.freeTaken).isp = d.isp := rfl
@[simp] theorem Dev.freeTaken_gns (d : Dev) : (d.freeTaken).gns = d.gns := rfl
@[simp] theorem Dev.freeTaken_lsw (d : Dev) : (d.freeTaken).lsw = d.lsw := rfl
@[simp] theorem Dev.freeTaken_vdr (d : Dev) : (d.freeTaken).vdr = d.vdr := rfl
@[simp] theorem Dev.freeTaken_fio (d : Dev) : (d.freeTaken).fio = d.fio := rfl
@[simp] theorem Dev.freeTaken_blw (d : Dev) : (d.freeTaken).blw = d.blw := rfl
@[simp] theorem Dev.freeTaken_net (d : Dev) : (d.freeTaken).net = d.net := rfl
@[simp] theorem Dev.freeTaken_thm (d : Dev) : (d.freeTaken).thm = d.thm := rfl
@[simp] theorem Dev.freeTaken_upd (d : Dev) : (d.freeTaken).upd = d.upd := rfl
@[simp] theorem Dev.freeTaken_raised (d : Dev) : (d.freeTaken).raised = d.raised := rfl
@[simp] theorem Dev.freeTaken_out (d : Dev) : (d.freeTaken).out = d.out := rfl
@[simp] theorem Dev.freeTaken_rd (d : Dev) (g : Fld) (k l : Nat) : (d.freeTaken).rd g k l = d.rd g k l := rfl

/-! `setQueue` -/

@[simp] theorem Dev.setQueue_now (d : Dev) (q : Nat) (h : QueH) : (d.setQueue q h).now = d.now := rfl
@[simp] theorem Dev.setQueue_regs (d : Dev) (q : Nat) (h : QueH) : (d.setQueue q h).regs = d.regs := rfl
@[simp] theorem Dev.setQueue_wait (d : Dev) (q : Nat) (h : QueH) : (d.setQueue q h).wait = d.wait := rfl
@[simp] theorem Dev.setQueue_built (d : Dev) (q : Nat) (h : QueH) : (d.setQueue q h).built = d.built := rfl
@[simp] theorem Dev.setQueue_points (d : Dev) (q : Nat) (h : QueH) : (d.setQueue q h).points = d.points := rfl
@[simp] theorem Dev.setQueue_sys (d : Dev) (q : Nat) (h : QueH) : (d.setQueue q h).sys = d.sys := rfl
@[simp] theorem Dev.setQueue_cfg (d : Dev) (q : Nat) (h : QueH) : (d.setQueue q h).cfg = d.cfg := rfl
@[simp] theorem Dev.setQueue_flt (d : Dev) (q : Nat) (h : QueH) : (d.setQueue q h).flt = d.flt := rfl
@[simp] theorem Dev.setQueue_recd (d : Dev) (q : Nat) (h : QueH) : (d.setQueue q h).recd = d.recd := rfl
@[simp] theorem Dev.setQueue_brineFree (d : Dev) (q : Nat) (h : QueH) : (d.setQueue q h).brineFree = d.brineFree := rfl
@[simp] theorem Dev.setQueue_brineTurn (d : Dev) (q : Nat) (h : QueH) : (d.setQueue q h).brineTurn = d.brineTurn := rfl
@[simp] theorem Dev.setQueue_tmb (d : Dev) (q : Nat) (h : QueH) : (d.setQueue q h).tmb = d.tmb := rfl
@[simp] theorem Dev.setQueue_lah (d : Dev) (q : Nat) (h : QueH) : (d.setQueue q h).lah = d.lah := rfl
@[simp] theorem Dev.setQueue_slu (d : Dev) (q : Nat) (h : QueH) : (d.setQueue q h).slu = d.slu := rfl
@[simp] theorem Dev.setQueue_ctl (d : Dev) (q : Nat) (h : QueH) : (d.setQueue q h).ctl = d.ctl := rfl
@[simp] theorem Dev.setQueue_fus (d : Dev) (q : Nat) (h : QueH) : (d.setQueue q h).fus = d.fus := rfl
@[simp] theorem Dev.setQueue_isp (d : Dev) (q : Nat) (h : QueH) : (d.setQueue q h).isp = d.isp := rfl
@[simp] theorem Dev.setQueue_gns (d : Dev) (q : Nat) (h : QueH) : (d.setQueue q h).gns = d.gns := rfl
@[simp] theorem Dev.setQueue_lsw (d : Dev) (q : Nat) (h : QueH) : (d.setQueue q h).lsw = d.lsw := rfl
@[simp] theorem Dev.setQueue_vdr (d : Dev) (q : Nat) (h : QueH) : (d.setQueue q h).vdr = d.vdr := rfl
@[simp] theorem Dev.setQueue_fio (d : Dev) (q : Nat) (h : QueH) : (d.setQueue q h).fio = d.fio := rfl
@[simp] theorem Dev.setQueue_blw (d : Dev) (q : Nat) (h : QueH) : (d.setQueue q h).blw = d.blw := rfl
@[simp] theorem Dev.setQueue_net (d : Dev) (q : Nat) (h : QueH) : (d.setQueue q h).net = d.net := rfl
@[simp] theorem Dev.setQueue_thm (d : Dev) (q : Nat) (h : QueH) : (d.setQueue q h).thm = d.thm := rfl
@[simp] theorem Dev.setQueue_upd (d : Dev) (q : Nat) (h : QueH) : (d.setQueue q h).upd = d.upd := rfl
@[simp] theorem Dev.setQueue_raised (d : Dev) (q : Nat) (h : QueH) : (d.setQueue q h).raised = d.raised := rfl
@[simp] theorem Dev.setQueue_out (d : Dev) (q : Nat) (h : QueH) : (d.setQueue q h).out = d.out := rfl
@[simp] theorem Dev.setQueue_freeSeq (d : Dev) (q : Nat) (h : QueH) : (d.setQueue q h).freeSeq = d.freeSeq := rfl
@[simp] theorem Dev.setQueue_rd (d : Dev) (q : Nat) (h : QueH) (g : Fld) (k l : Nat) : (d.setQueue q h).rd g k l = d.rd g k l := rfl

end Sys2Proof.Machine
end

