-- ==== Sys2Proof/Laws/Regs.lean ====
section
/-! SUPPORT. Laws/Regs.lean: reading a register field after a write. -/

namespace Sys2Proof.Machine

/-- The entry of a field just written. -/
theorem Dev.wr_entry (d : Dev) (f : Fld) (v i j : Nat) :
    tget? (f.key i j) (d.wr f v i j).regs = if v % 2 ^ f.w = f.resetAt i j then none else some (v % 2 ^ f.w) := by
  unfold Dev.wr
  split <;> simp [*]

/-- A write leaves the entries of other keys. -/
theorem Dev.wr_entry_ne (d : Dev) (f : Fld) (v i j k : Nat) (h : k ≠ f.key i j) :
    tget? k (d.wr f v i j).regs = tget? k d.regs := by
  unfold Dev.wr
  split
  · exact tget?_tdel_ne h _
  · exact tget?_tset_ne h _ _

/-- A field just written reads as the value, cut to its width. -/
@[simp] theorem Dev.rd_wr (d : Dev) (f : Fld) (v i j : Nat) : (d.wr f v i j).rd f i j = v % 2 ^ f.w := by
  unfold Dev.rd
  rw [Dev.wr_entry]
  split
  · rename_i h; rw [h]; rfl
  · rfl

/-- A write leaves every field of another key. -/
theorem Dev.rd_wr_ne (d : Dev) (f g : Fld) (v i j k l : Nat) (h : g.key k l ≠ f.key i j) :
    (d.wr f v i j).rd g k l = d.rd g k l := by
  unfold Dev.rd
  rw [Dev.wr_entry_ne _ _ _ _ _ _ h]

/-- Two writes to one field: the second stands. -/
theorem Dev.rd_wr_if (d : Dev) (f g : Fld) (v i j k l : Nat) :
    (d.wr f v i j).rd g k l = if g.key k l = f.key i j then (if v % 2 ^ f.w = f.resetAt i j then g.resetAt k l else v % 2 ^ f.w)
      else d.rd g k l := by
  by_cases h : g.key k l = f.key i j
  · rw [if_pos h]
    unfold Dev.rd
    rw [h, Dev.wr_entry]
    split <;> rfl
  · rw [if_neg h, Dev.rd_wr_ne _ _ _ _ _ _ _ _ h]

@[simp] theorem Dev.rd_count (d : Dev) (f : Fld) (i j : Nat) : (d.count f i j).rd f i j = satInc f.w (d.rd f i j) % 2 ^ f.w :=
  Dev.rd_wr ..

@[simp] theorem Dev.rd_bump (d : Dev) (f : Fld) (i j : Nat) : (d.bump f i j).rd f i j = (d.rd f i j + 1) % 2 ^ f.w :=
  Dev.rd_wr ..

theorem Dev.count_entry_ne (d : Dev) (f : Fld) (i j k : Nat) (h : k ≠ f.key i j) :
    tget? k (d.count f i j).regs = tget? k d.regs := Dev.wr_entry_ne _ _ _ _ _ _ h

theorem Dev.bump_entry_ne (d : Dev) (f : Fld) (i j k : Nat) (h : k ≠ f.key i j) :
    tget? k (d.bump f i j).regs = tget? k d.regs := Dev.wr_entry_ne _ _ _ _ _ _ h

theorem Dev.wrBit_entry_ne (d : Dev) (f : Fld) (n : Nat) (b : Bool) (i k : Nat) (h : k ≠ f.key i 0) :
    tget? k (d.wrBit f n b i).regs = tget? k d.regs := Dev.wr_entry_ne _ _ _ _ _ _ h

theorem Dev.wrS_entry_ne (d : Dev) (f : Fld) (v : Int) (i j k : Nat) (h : k ≠ f.key i j) :
    tget? k (d.wrS f v i j).regs = tget? k d.regs := Dev.wr_entry_ne _ _ _ _ _ _ h

theorem Dev.cause_entry_ne (d : Dev) (f : Fld) (n k : Nat) (h : k ≠ f.key 0 0) :
    tget? k (d.cause f n).regs = tget? k d.regs := Dev.wr_entry_ne _ _ _ _ _ _ h

end Sys2Proof.Machine
end

