-- ==== Sys2Proof/Laws/Run.lean ====
section
/-! SUPPORT. Laws/Run.lean: what the wrappers of every command, and the passing of time, can do. -/

namespace Sys2Proof.Machine

/-! Time: nothing but module time and the timebase. -/

@[simp] theorem Dev.clock_regs (d : Dev) (n : Nat) : (d.clock n).regs = d.regs := by unfold Dev.clock; split <;> rfl
@[simp] theorem Dev.cycles_regs (d : Dev) (n : Nat) : (d.cycles n).regs = d.regs := Dev.clock_regs d n
@[simp] theorem Dev.waitUntil_regs (d : Dev) (t : Nat) : (d.waitUntil t).regs = d.regs := by unfold Dev.waitUntil; split <;> simp
@[simp] theorem Dev.waitMt_regs (d : Dev) (t : Nat) : (d.waitMt t).regs = d.regs := by unfold Dev.waitMt; split <;> simp
@[simp] theorem Dev.clock_wait (d : Dev) (n : Nat) : (d.clock n).wait = d.wait := by unfold Dev.clock; split <;> rfl
@[simp] theorem Dev.cycles_wait (d : Dev) (n : Nat) : (d.cycles n).wait = d.wait := Dev.clock_wait d n
@[simp] theorem Dev.waitUntil_wait (d : Dev) (t : Nat) : (d.waitUntil t).wait = d.wait := by unfold Dev.waitUntil; split <;> simp
@[simp] theorem Dev.waitMt_wait (d : Dev) (t : Nat) : (d.waitMt t).wait = d.wait := by unfold Dev.waitMt; split <;> simp
@[simp] theorem Dev.clock_built (d : Dev) (n : Nat) : (d.clock n).built = d.built := by unfold Dev.clock; split <;> rfl
@[simp] theorem Dev.cycles_built (d : Dev) (n : Nat) : (d.cycles n).built = d.built := Dev.clock_built d n
@[simp] theorem Dev.waitUntil_built (d : Dev) (t : Nat) : (d.waitUntil t).built = d.built := by unfold Dev.waitUntil; split <;> simp
@[simp] theorem Dev.waitMt_built (d : Dev) (t : Nat) : (d.waitMt t).built = d.built := by unfold Dev.waitMt; split <;> simp
@[simp] theorem Dev.clock_points (d : Dev) (n : Nat) : (d.clock n).points = d.points := by unfold Dev.clock; split <;> rfl
@[simp] theorem Dev.cycles_points (d : Dev) (n : Nat) : (d.cycles n).points = d.points := Dev.clock_points d n
@[simp] theorem Dev.waitUntil_points (d : Dev) (t : Nat) : (d.waitUntil t).points = d.points := by unfold Dev.waitUntil; split <;> simp
@[simp] theorem Dev.waitMt_points (d : Dev) (t : Nat) : (d.waitMt t).points = d.points := by unfold Dev.waitMt; split <;> simp
@[simp] theorem Dev.clock_sys (d : Dev) (n : Nat) : (d.clock n).sys = d.sys := by unfold Dev.clock; split <;> rfl
@[simp] theorem Dev.cycles_sys (d : Dev) (n : Nat) : (d.cycles n).sys = d.sys := Dev.clock_sys d n
@[simp] theorem Dev.waitUntil_sys (d : Dev) (t : Nat) : (d.waitUntil t).sys = d.sys := by unfold Dev.waitUntil; split <;> simp
@[simp] theorem Dev.waitMt_sys (d : Dev) (t : Nat) : (d.waitMt t).sys = d.sys := by unfold Dev.waitMt; split <;> simp
@[simp] theorem Dev.clock_cfg (d : Dev) (n : Nat) : (d.clock n).cfg = d.cfg := by unfold Dev.clock; split <;> rfl
@[simp] theorem Dev.cycles_cfg (d : Dev) (n : Nat) : (d.cycles n).cfg = d.cfg := Dev.clock_cfg d n
@[simp] theorem Dev.waitUntil_cfg (d : Dev) (t : Nat) : (d.waitUntil t).cfg = d.cfg := by unfold Dev.waitUntil; split <;> simp
@[simp] theorem Dev.waitMt_cfg (d : Dev) (t : Nat) : (d.waitMt t).cfg = d.cfg := by unfold Dev.waitMt; split <;> simp
@[simp] theorem Dev.clock_flt (d : Dev) (n : Nat) : (d.clock n).flt = d.flt := by unfold Dev.clock; split <;> rfl
@[simp] theorem Dev.cycles_flt (d : Dev) (n : Nat) : (d.cycles n).flt = d.flt := Dev.clock_flt d n
@[simp] theorem Dev.waitUntil_flt (d : Dev) (t : Nat) : (d.waitUntil t).flt = d.flt := by unfold Dev.waitUntil; split <;> simp
@[simp] theorem Dev.waitMt_flt (d : Dev) (t : Nat) : (d.waitMt t).flt = d.flt := by unfold Dev.waitMt; split <;> simp
@[simp] theorem Dev.clock_recd (d : Dev) (n : Nat) : (d.clock n).recd = d.recd := by unfold Dev.clock; split <;> rfl
@[simp] theorem Dev.cycles_recd (d : Dev) (n : Nat) : (d.cycles n).recd = d.recd := Dev.clock_recd d n
@[simp] theorem Dev.waitUntil_recd (d : Dev) (t : Nat) : (d.waitUntil t).recd = d.recd := by unfold Dev.waitUntil; split <;> simp
@[simp] theorem Dev.waitMt_recd (d : Dev) (t : Nat) : (d.waitMt t).recd = d.recd := by unfold Dev.waitMt; split <;> simp
@[simp] theorem Dev.clock_que (d : Dev) (n : Nat) : (d.clock n).que = d.que := by unfold Dev.clock; split <;> rfl
@[simp] theorem Dev.cycles_que (d : Dev) (n : Nat) : (d.cycles n).que = d.que := Dev.clock_que d n
@[simp] theorem Dev.waitUntil_que (d : Dev) (t : Nat) : (d.waitUntil t).que = d.que := by unfold Dev.waitUntil; split <;> simp
@[simp] theorem Dev.waitMt_que (d : Dev) (t : Nat) : (d.waitMt t).que = d.que := by unfold Dev.waitMt; split <;> simp
@[simp] theorem Dev.clock_brineFree (d : Dev) (n : Nat) : (d.clock n).brineFree = d.brineFree := by unfold Dev.clock; split <;> rfl
@[simp] theorem Dev.cycles_brineFree (d : Dev) (n : Nat) : (d.cycles n).brineFree = d.brineFree := Dev.clock_brineFree d n
@[simp] theorem Dev.waitUntil_brineFree (d : Dev) (t : Nat) : (d.waitUntil t).brineFree = d.brineFree := by unfold Dev.waitUntil; split <;> simp
@[simp] theorem Dev.waitMt_brineFree (d : Dev) (t : Nat) : (d.waitMt t).brineFree = d.brineFree := by unfold Dev.waitMt; split <;> simp
@[simp] theorem Dev.clock_brineTurn (d : Dev) (n : Nat) : (d.clock n).brineTurn = d.brineTurn := by unfold Dev.clock; split <;> rfl
@[simp] theorem Dev.cycles_brineTurn (d : Dev) (n : Nat) : (d.cycles n).brineTurn = d.brineTurn := Dev.clock_brineTurn d n
@[simp] theorem Dev.waitUntil_brineTurn (d : Dev) (t : Nat) : (d.waitUntil t).brineTurn = d.brineTurn := by unfold Dev.waitUntil; split <;> simp
@[simp] theorem Dev.waitMt_brineTurn (d : Dev) (t : Nat) : (d.waitMt t).brineTurn = d.brineTurn := by unfold Dev.waitMt; split <;> simp
@[simp] theorem Dev.clock_lah (d : Dev) (n : Nat) : (d.clock n).lah = d.lah := by unfold Dev.clock; split <;> rfl
@[simp] theorem Dev.cycles_lah (d : Dev) (n : Nat) : (d.cycles n).lah = d.lah := Dev.clock_lah d n
@[simp] theorem Dev.waitUntil_lah (d : Dev) (t : Nat) : (d.waitUntil t).lah = d.lah := by unfold Dev.waitUntil; split <;> simp
@[simp] theorem Dev.waitMt_lah (d : Dev) (t : Nat) : (d.waitMt t).lah = d.lah := by unfold Dev.waitMt; split <;> simp
@[simp] theorem Dev.clock_slu (d : Dev) (n : Nat) : (d.clock n).slu = d.slu := by unfold Dev.clock; split <;> rfl
@[simp] theorem Dev.cycles_slu (d : Dev) (n : Nat) : (d.cycles n).slu = d.slu := Dev.clock_slu d n
@[simp] theorem Dev.waitUntil_slu (d : Dev) (t : Nat) : (d.waitUntil t).slu = d.slu := by unfold Dev.waitUntil; split <;> simp
@[simp] theorem Dev.waitMt_slu (d : Dev) (t : Nat) : (d.waitMt t).slu = d.slu := by unfold Dev.waitMt; split <;> simp
@[simp] theorem Dev.clock_ctl (d : Dev) (n : Nat) : (d.clock n).ctl = d.ctl := by unfold Dev.clock; split <;> rfl
@[simp] theorem Dev.cycles_ctl (d : Dev) (n : Nat) : (d.cycles n).ctl = d.ctl := Dev.clock_ctl d n
@[simp] theorem Dev.waitUntil_ctl (d : Dev) (t : Nat) : (d.waitUntil t).ctl = d.ctl := by unfold Dev.waitUntil; split <;> simp
@[simp] theorem Dev.waitMt_ctl (d : Dev) (t : Nat) : (d.waitMt t).ctl = d.ctl := by unfold Dev.waitMt; split <;> simp
@[simp] theorem Dev.clock_fus (d : Dev) (n : Nat) : (d.clock n).fus = d.fus := by unfold Dev.clock; split <;> rfl
@[simp] theorem Dev.cycles_fus (d : Dev) (n : Nat) : (d.cycles n).fus = d.fus := Dev.clock_fus d n
@[simp] theorem Dev.waitUntil_fus (d : Dev) (t : Nat) : (d.waitUntil t).fus = d.fus := by unfold Dev.waitUntil; split <;> simp
@[simp] theorem Dev.waitMt_fus (d : Dev) (t : Nat) : (d.waitMt t).fus = d.fus := by unfold Dev.waitMt; split <;> simp
@[simp] theorem Dev.clock_isp (d : Dev) (n : Nat) : (d.clock n).isp = d.isp := by unfold Dev.clock; split <;> rfl
@[simp] theorem Dev.cycles_isp (d : Dev) (n : Nat) : (d.cycles n).isp = d.isp := Dev.clock_isp d n
@[simp] theorem Dev.waitUntil_isp (d : Dev) (t : Nat) : (d.waitUntil t).isp = d.isp := by unfold Dev.waitUntil; split <;> simp
@[simp] theorem Dev.waitMt_isp (d : Dev) (t : Nat) : (d.waitMt t).isp = d.isp := by unfold Dev.waitMt; split <;> simp
@[simp] theorem Dev.clock_gns (d : Dev) (n : Nat) : (d.clock n).gns = d.gns := by unfold Dev.clock; split <;> rfl
@[simp] theorem Dev.cycles_gns (d : Dev) (n : Nat) : (d.cycles n).gns = d.gns := Dev.clock_gns d n
@[simp] theorem Dev.waitUntil_gns (d : Dev) (t : Nat) : (d.waitUntil t).gns = d.gns := by unfold Dev.waitUntil; split <;> simp
@[simp] theorem Dev.waitMt_gns (d : Dev) (t : Nat) : (d.waitMt t).gns = d.gns := by unfold Dev.waitMt; split <;> simp
@[simp] theorem Dev.clock_lsw (d : Dev) (n : Nat) : (d.clock n).lsw = d.lsw := by unfold Dev.clock; split <;> rfl
@[simp] theorem Dev.cycles_lsw (d : Dev) (n : Nat) : (d.cycles n).lsw = d.lsw := Dev.clock_lsw d n
@[simp] theorem Dev.waitUntil_lsw (d : Dev) (t : Nat) : (d.waitUntil t).lsw = d.lsw := by unfold Dev.waitUntil; split <;> simp
@[simp] theorem Dev.waitMt_lsw (d : Dev) (t : Nat) : (d.waitMt t).lsw = d.lsw := by unfold Dev.waitMt; split <;> simp
@[simp] theorem Dev.clock_vdr (d : Dev) (n : Nat) : (d.clock n).vdr = d.vdr := by unfold Dev.clock; split <;> rfl
@[simp] theorem Dev.cycles_vdr (d : Dev) (n : Nat) : (d.cycles n).vdr = d.vdr := Dev.clock_vdr d n
@[simp] theorem Dev.waitUntil_vdr (d : Dev) (t : Nat) : (d.waitUntil t).vdr = d.vdr := by unfold Dev.waitUntil; split <;> simp
@[simp] theorem Dev.waitMt_vdr (d : Dev) (t : Nat) : (d.waitMt t).vdr = d.vdr := by unfold Dev.waitMt; split <;> simp
@[simp] theorem Dev.clock_fio (d : Dev) (n : Nat) : (d.clock n).fio = d.fio := by unfold Dev.clock; split <;> rfl
@[simp] theorem Dev.cycles_fio (d : Dev) (n : Nat) : (d.cycles n).fio = d.fio := Dev.clock_fio d n
@[simp] theorem Dev.waitUntil_fio (d : Dev) (t : Nat) : (d.waitUntil t).fio = d.fio := by unfold Dev.waitUntil; split <;> simp
@[simp] theorem Dev.waitMt_fio (d : Dev) (t : Nat) : (d.waitMt t).fio = d.fio := by unfold Dev.waitMt; split <;> simp
@[simp] theorem Dev.clock_blw (d : Dev) (n : Nat) : (d.clock n).blw = d.blw := by unfold Dev.clock; split <;> rfl
@[simp] theorem Dev.cycles_blw (d : Dev) (n : Nat) : (d.cycles n).blw = d.blw := Dev.clock_blw d n
@[simp] theorem Dev.waitUntil_blw (d : Dev) (t : Nat) : (d.waitUntil t).blw = d.blw := by unfold Dev.waitUntil; split <;> simp
@[simp] theorem Dev.waitMt_blw (d : Dev) (t : Nat) : (d.waitMt t).blw = d.blw := by unfold Dev.waitMt; split <;> simp
@[simp] theorem Dev.clock_net (d : Dev) (n : Nat) : (d.clock n).net = d.net := by unfold Dev.clock; split <;> rfl
@[simp] theorem Dev.cycles_net (d : Dev) (n : Nat) : (d.cycles n).net = d.net := Dev.clock_net d n
@[simp] theorem Dev.waitUntil_net (d : Dev) (t : Nat) : (d.waitUntil t).net = d.net := by unfold Dev.waitUntil; split <;> simp
@[simp] theorem Dev.waitMt_net (d : Dev) (t : Nat) : (d.waitMt t).net = d.net := by unfold Dev.waitMt; split <;> simp
@[simp] theorem Dev.clock_thm (d : Dev) (n : Nat) : (d.clock n).thm = d.thm := by unfold Dev.clock; split <;> rfl
@[simp] theorem Dev.cycles_thm (d : Dev) (n : Nat) : (d.cycles n).thm = d.thm := Dev.clock_thm d n
@[simp] theorem Dev.waitUntil_thm (d : Dev) (t : Nat) : (d.waitUntil t).thm = d.thm := by unfold Dev.waitUntil; split <;> simp
@[simp] theorem Dev.waitMt_thm (d : Dev) (t : Nat) : (d.waitMt t).thm = d.thm := by unfold Dev.waitMt; split <;> simp
@[simp] theorem Dev.clock_upd (d : Dev) (n : Nat) : (d.clock n).upd = d.upd := by unfold Dev.clock; split <;> rfl
@[simp] theorem Dev.cycles_upd (d : Dev) (n : Nat) : (d.cycles n).upd = d.upd := Dev.clock_upd d n
@[simp] theorem Dev.waitUntil_upd (d : Dev) (t : Nat) : (d.waitUntil t).upd = d.upd := by unfold Dev.waitUntil; split <;> simp
@[simp] theorem Dev.waitMt_upd (d : Dev) (t : Nat) : (d.waitMt t).upd = d.upd := by unfold Dev.waitMt; split <;> simp
@[simp] theorem Dev.clock_raised (d : Dev) (n : Nat) : (d.clock n).raised = d.raised := by unfold Dev.clock; split <;> rfl
@[simp] theorem Dev.cycles_raised (d : Dev) (n : Nat) : (d.cycles n).raised = d.raised := Dev.clock_raised d n
@[simp] theorem Dev.waitUntil_raised (d : Dev) (t : Nat) : (d.waitUntil t).raised = d.raised := by unfold Dev.waitUntil; split <;> simp
@[simp] theorem Dev.waitMt_raised (d : Dev) (t : Nat) : (d.waitMt t).raised = d.raised := by unfold Dev.waitMt; split <;> simp
@[simp] theorem Dev.clock_out (d : Dev) (n : Nat) : (d.clock n).out = d.out := by unfold Dev.clock; split <;> rfl
@[simp] theorem Dev.cycles_out (d : Dev) (n : Nat) : (d.cycles n).out = d.out := Dev.clock_out d n
@[simp] theorem Dev.waitUntil_out (d : Dev) (t : Nat) : (d.waitUntil t).out = d.out := by unfold Dev.waitUntil; split <;> simp
@[simp] theorem Dev.waitMt_out (d : Dev) (t : Nat) : (d.waitMt t).out = d.out := by unfold Dev.waitMt; split <;> simp
@[simp] theorem Dev.clock_freeSeq (d : Dev) (n : Nat) : (d.clock n).freeSeq = d.freeSeq := by unfold Dev.clock; split <;> rfl
@[simp] theorem Dev.cycles_freeSeq (d : Dev) (n : Nat) : (d.cycles n).freeSeq = d.freeSeq := Dev.clock_freeSeq d n
@[simp] theorem Dev.waitUntil_freeSeq (d : Dev) (t : Nat) : (d.waitUntil t).freeSeq = d.freeSeq := by unfold Dev.waitUntil; split <;> simp
@[simp] theorem Dev.waitMt_freeSeq (d : Dev) (t : Nat) : (d.waitMt t).freeSeq = d.freeSeq := by unfold Dev.waitMt; split <;> simp

/-- Module time after `n` cycles of 4 ns. -/
@[simp] theorem Dev.clock_now (d : Dev) (n : Nat) : (d.clock n).now = d.now + 4 * n := by unfold Dev.clock; split <;> rfl

@[simp] theorem Dev.cycles_now (d : Dev) (n : Nat) : (d.cycles n).now = d.now + 4 * n := Dev.clock_now d n

/-- Waiting reaches the instant waited for. -/
theorem Dev.waitUntil_now (d : Dev) (t : Nat) : t ≤ (d.waitUntil t).now ∧ d.now ≤ (d.waitUntil t).now := by
  unfold Dev.waitUntil ceilDiv
  split
  · simp only [Dev.cycles_now]; omega
  · omega

@[simp] theorem Dev.waitUntil_rd (d : Dev) (t : Nat) (f : Fld) (i j : Nat) : (d.waitUntil t).rd f i j = d.rd f i j := by
  simp [Dev.rd]

@[simp] theorem Dev.waitMt_rd (d : Dev) (t : Nat) (f : Fld) (i j : Nat) : (d.waitMt t).rd f i j = d.rd f i j := by
  simp [Dev.rd]

@[simp] theorem Dev.cycles_rd (d : Dev) (n : Nat) (f : Fld) (i j : Nat) : (d.cycles n).rd f i j = d.rd f i j := by
  simp [Dev.rd]

/-! The wrappers. -/

/-- A register write of a live block: its effect, and an accepted bus access. -/
theorem onReg_live {b : Nat} {d : Dev} (f : Dev → Dev) (h : d.live b) : onReg b f d = (f d).busOk := by
  unfold onReg; simp only [h.1, h.2]; rfl

theorem onRegM_live {b : Nat} {d : Dev} (f : Memory → Dev → Dev × Memory) (m : Memory) (h : d.live b) :
    onRegM b f m d = ((f m d).1.busOk, (f m d).2) := by
  unfold onRegM; simp only [h.1, h.2]; rfl

theorem onPort_live {b : Nat} {d : Dev} (f : Dev → Dev) (h : d.live b) : onPort b f d = f d := by
  unfold onPort; simp only [h.1, h.2]; rfl

/-- A happening at a live block has its effect. -/
theorem onBlock_live {b : Nat} {d : Dev} (f : Dev → Dev) (h : d.live b) : onBlock b f d = f d := by
  unfold onBlock Dev.blockWorks; simp only [h.1, h.2]; simp

theorem onBlockM_live {b : Nat} {d : Dev} (f : Memory → Dev → Dev × Memory) (m : Memory) (h : d.live b) : onBlockM b f m d = f m d := by
  unfold onBlockM Dev.blockWorks; simp only [h.1, h.2]; simp

/-- A register of a block whose domain is off answers a bus error (R37). -/
theorem onReg_off {b : Nat} {d : Dev} (f : Dev → Dev) (h : d.powered b = false) : onReg b f d = d.busError := by
  unfold onReg; simp only [h]; rfl

/-- Nothing happens at a block whose domain is off. -/
theorem onBlock_off {b : Nat} {d : Dev} (f : Dev → Dev) (h : d.powered b = false) : onBlock b f d = d := by
  unfold onBlock Dev.blockWorks; simp [h]

/-- What the waiting writes of a list do: registers they name, nothing else. -/
theorem applyList_spec (l : List (Nat × Nat)) (g : Nat → Option (Fld × Nat × Nat)) : ∀ d : Dev, ∀ r,
    r = forAll l (fun e d => match g e.1 with | some (f, i, j) => d.wr f e.2 i j | none => d) d →
    (∃ rs, r = { d with regs := rs }) ∧ ∀ k, (∀ p ∈ l, ∀ q, g p.1 = some q → k ≠ q.1.key q.2.1 q.2.2) → tget? k r.regs = tget? k d.regs := by
  induction l with
  | nil => intro d r hr; rw [hr]; exact ⟨⟨d.regs, rfl⟩, fun _ _ => rfl⟩
  | cons e l ih =>
    intro d r hr
    rw [forAll_cons] at hr
    rcases hg : g e.1 with _ | ⟨f, i, j⟩
    · rw [hg] at hr
      obtain ⟨h1, h2⟩ := ih d r hr
      exact ⟨h1, fun k hk => h2 k fun p hp => hk p (List.mem_cons_of_mem _ hp)⟩
    · rw [hg] at hr
      obtain ⟨⟨rs, h1⟩, h2⟩ := ih (d.wr f e.2 i j) r hr
      refine ⟨⟨rs, by rw [h1]; rfl⟩, fun k hk => ?_⟩
      rw [h2 k fun p hp => hk p (List.mem_cons_of_mem _ hp)]
      exact Dev.wr_entry_ne d f e.2 i j k (hk e List.mem_cons_self (f, i, j) hg)

/-- Everything a safe boundary can do: the picked writes wait no longer, and only registers they name change. -/
theorem applyWaiting_spec (d : Dev) (p : Nat → Bool) (g : Nat → Option (Fld × Nat × Nat)) :
    (∃ rs, d.applyWaiting p g = { d with regs := rs, wait := d.wait.filter (fun e => !p e.1) })
    ∧ ∀ k, (∀ e ∈ d.wait, p e.1 = true → ∀ q, g e.1 = some q → k ≠ q.1.key q.2.1 q.2.2) →
        tget? k (d.applyWaiting p g).regs = tget? k d.regs := by
  obtain ⟨⟨rs, h1⟩, h2⟩ := applyList_spec (d.wait.filter (fun e => p e.1)) g { d with wait := d.wait.filter (fun e => !p e.1) } _ rfl
  refine ⟨⟨rs, h1⟩, fun k hk => h2 k fun e he q hq => ?_⟩
  exact hk e (List.mem_filter.mp he).1 (List.mem_filter.mp he).2 q hq

theorem applyWaiting_wait (d : Dev) (p : Nat → Bool) (g : Nat → Option (Fld × Nat × Nat)) :
    (d.applyWaiting p g).wait = d.wait.filter (fun e => !p e.1) := by
  obtain ⟨⟨rs, h⟩, -⟩ := applyWaiting_spec d p g; rw [h]

theorem applyWaiting_points (d : Dev) (p : Nat → Bool) (g : Nat → Option (Fld × Nat × Nat)) :
    (d.applyWaiting p g).points = d.points := by
  obtain ⟨⟨rs, h⟩, -⟩ := applyWaiting_spec d p g; rw [h]

theorem applyWaiting_out (d : Dev) (p : Nat → Bool) (g : Nat → Option (Fld × Nat × Nat)) :
    (d.applyWaiting p g).out = d.out := by
  obtain ⟨⟨rs, h⟩, -⟩ := applyWaiting_spec d p g; rw [h]

end Sys2Proof.Machine
end

