-- ==== Sys2Proof/Tests/Slice0.lean ====
section
/-! SUPPORT. Tests/Slice0.lean: smoke tests of the well-formedness checks, small runs of single commands whose expected values come from
the spec's tables and worked examples, and for every statement with hypotheses a theorem that shows them met together. -/

open Sys2Proof Sys2Proof.Machine

namespace Sys2Proof.Tests

set_option Elab.async false

/-! Helpers: devices built from reset by a few registers. -/

/-- Fields by element, with their values. -/
def withRegs (l : List (Fld × Nat × Nat)) (d : Dev) : Dev := l.foldl (fun d e => d.wr e.1 e.2.2 e.2.1) d

/-- A device with every domain fed, in a mode, its timebase running, MD valid. -/
def fed (mode : Nat) (l : List (Fld × Nat × Nat)) : Dev :=
  withRegs ([(SYS.PD_ON, 0, 0x3FF), (SYS.MODE, 0, mode), (TMB.RUN, 0, 1), (TMB.MD_VALID, 0, 1)] ++ l) State.reset.dev

/-- Structure of one region put in place. -/
def withItems (r : Nat) (l : List BuildItem) (d : Dev) : Dev := { d with built := tset r l d.built }

/-- A state with no command waiting and DRAM empty. -/
def at_ (d : Dev) : State := { State.reset with dev := d }

/-- The device as a command finds it. -/
def found (d : Dev) : Dev := (at_ d).dev.begin

/-- The device after one command; the same where it stops. -/
def after (i : Instr) (d : Dev) : Dev := match exec i (at_ d) with | .next t => t.dev | _ => d

/-- The command answers a next state. -/
def runs (i : Instr) (d : Dev) : Bool := match exec i (at_ d) with | .next _ => true | _ => false

/-! Well-formedness: an ill-formed term for each check is refused. -/

theorem test_illFormed_1 : ([.registerWrite .core 0 9 0 default,
    .registerWrite .core 0 8 256 default,
    .shadowedWriteApply 21 0,
    .pointValueWrite 0 9 0,
    .pointValueWrite 0 8 256,
    .freshnessExpiry 131072,
    .gateWrite (.bl 4) false,
    .modeRequest 16,
    .supplyBandChange 3 0 0 false,
    .resetRequest 16 0,
    .resetRequest 0 65536,
    .fcwdKick 256] : List Instr).all (fun i => !i.wf) = true := by decide +kernel
theorem test_illFormed_2 : ([.shutdownAck 2 [] 0 0,
    .shutdownPresetWrite 4,
    .liveRegionSwap 16 false,
    .liveSwapTimeout 16,
    .pregWrite .core 4096 0 none none,
    .pregWrite .core 0 4294967296 none none,
    .mdPresetWrite 4,
    .ppsEdgeMeasure 3 0,
    .fileEvent 32,
    .cancelEvent 65536,
    .floodRequest 256,
    .masterWrite 256] : List Instr).all (fun i => !i.wf) = true := by decide +kernel
theorem test_illFormed_3 : ([.overlapPresetWrite 4,
    .mapOriginWrite .lat0 4294967296,
    .rateFile 8,
    .sluiceArm 256,
    .sluicePrepare 256,
    .voteMsg [256],
    .sluiceDecide 256,
    .sluiceCommit 256,
    .outcomeMsg [256],
    .sluiceCancel 256,
    .carsilPresetWrite 4,
    .prepareMsg [256]] : List Instr).all (fun i => !i.wf) = true := by decide +kernel
theorem test_illFormed_4 : ([.commitMsg [256],
    .abortMsg [256],
    .graceExpiry 256 0 0,
    .graceExpiry 0 256 0,
    .compMsg [256],
    .queryMsg [256],
    .ctlTrip 32768,
    .resume 256,
    .slotEnableWrite 256 false,
    .supPresetWrite 256 0,
    .supPresetWrite 0 4,
    .fusePresetWrite 4] : List Instr).all (fun i => !i.wf) = true := by decide +kernel
theorem test_illFormed_5 : ([.frameStart 2 0 ⟨0, 0⟩,
    .frameStart 0 16 ⟨0, 0⟩,
    .lineMsg 2 0 2 0 0 false [],
    .lineMsg 0 16 2 0 0 false [],
    .lineMsg 0 0 2 3 0 false [],
    .frameEnd 2 0 0,
    .frameEnd 0 16 0,
    .linkDown 2,
    .camLinkLost 2,
    .pocTrip 2,
    .pocEnWrite 2 false,
    .fsyncTrigger 2] : List Instr).all (fun i => !i.wf) = true := by decide +kernel
theorem test_illFormed_6 : ([.i2cGo 2,
    .i2cDone 2 false 0,
    .i2cDone 0 false 256,
    .dpcPresetWrite 8 0,
    .dpcPresetWrite 0 4,
    .tonePresetWrite 8 0,
    .tonePresetWrite 0 4,
    .cameraEnWrite (some 8) true,
    .antShort 2,
    .antBiasRetry 2 false,
    .antOpen 2,
    .gnssPresetWrite 4] : List Instr).all (fun i => !i.wf) = true := by decide +kernel
theorem test_illFormed_7 : ([.switchCommand 64 false,
    .lswRearm 64,
    .slewDone 64,
    .wireModelUpdate 64 0,
    .instantaneousTrip 64,
    .retryWaitEnd 64,
    .junctionOvertemp 64 0,
    .thermalResume 64 0,
    .clampPulse 64 0 0,
    .clampCoolEnd 64 0,
    .loadShed 3,
    .lswDiagnosticPeriod 64 0 0 0] : List Instr).all (fun i => !i.wf) = true := by decide +kernel
theorem test_illFormed_8 : ([.inputUndervolt 2,
    .undervoltRecover 2,
    .deferredSwitchOff 64,
    .openLoad 64 false,
    .shortToBat 64,
    .loadPresetWrite 64 0,
    .loadPresetWrite 0 4,
    .startCmd 32 0,
    .startCmd 0 32,
    .stopCmd 32,
    .phaseEnd 32 0 0 0 0,
    .currentLoopTick 32 0 ⟨0, 0⟩ 0] : List Instr).all (fun i => !i.wf) = true := by decide +kernel
theorem test_illFormed_9 : ([.starveTimeout 32,
    .closingDetectionDone 32 0 [] 0 0,
    .valveOvercurrent 32,
    .valveOpen 32,
    .valveOvertemp 32 0,
    .valvePresetWrite 32 0,
    .valvePresetWrite 0 4,
    .downstreamFrame 8 none,
    .upstreamFrame 8 [] 0 0 none,
    .fioRearm 8,
    .ioOutputCommand 64 false,
    .ioOutputFault 64] : List Instr).all (fun i => !i.wf) = true := by decide +kernel
theorem test_illFormed_10 : ([.aiPublish 32 [] [],
    .aiRange 32 0,
    .aiOvercurrent 32,
    .shuntReclose 32,
    .aiSupplyTrip 2,
    .aiSupplyRetry 2,
    .impactPeriod 32 [],
    .fiEdge 16 false false 0,
    .fiPublish 16,
    .kickTimeout 4 0,
    .blockWaitEnd 4,
    .tachTimeout 4 0] : List Instr).all (fun i => !i.wf) = true := by decide +kernel
theorem test_illFormed_11 : ([.blowerShort 4,
    .blwWdKick 256,
    .blowerRearm 4,
    .commission 4,
    .commissionDone 4,
    .ageingCheck 4,
    .blwPresetWrite 4 0,
    .blwPresetWrite 0 4,
    .canFrameRx 8 0 (some []),
    .canFrameRx 0 2048 none,
    .canFrameRx 0 0 (some [256]),
    .canWindow 8 0 0 false] : List Instr).all (fun i => !i.wf) = true := by decide +kernel
theorem test_illFormed_12 : ([.busOff 8,
    .busOffRecovery 8,
    .referenceMessage 8 0 [],
    .referenceMessage 0 8 [],
    .referenceMessage 0 0 [256],
    .backupReferenceSend 8,
    .syncLost 8,
    .canPresetWrite 8 0,
    .canPresetWrite 0 4,
    .syncMsg 6 0 0,
    .announceMsg 6,
    .udpDatagram 7 0 false false []] : List Instr).all (fun i => !i.wf) = true := by decide +kernel
theorem test_illFormed_13 : ([.udpDatagram 0 65536 false false [],
    .udpDatagram 0 0 false false [256],
    .arpRequest 7 0,
    .arpRequest 0 4294967296,
    .ethLinkDown 7,
    .addressClaim 8 none,
    .transportProtocol 8 0 [],
    .transportProtocol 0 2048 [],
    .transportProtocol 0 0 [256],
    .processData 128,
    .nodeTimeout 2048,
    .statusMsg [256]] : List Instr).all (fun i => !i.wf) = true := by decide +kernel
theorem test_illFormed_14 : ([.peerLoss 16,
    .mirrorMsg [256],
    .safeMsg [256],
    .wrStart 64 0,
    .wrStart 0 4294967296,
    .wrCont 64 0,
    .wrCont 0 4294967296,
    .wrEnd 64 0,
    .wrEnd 0 4294967296,
    .wrOne 64 0,
    .wrOne 0 4294967296,
    .queueWordWrite 64 .start 0] : List Instr).all (fun i => !i.wf) = true := by decide +kernel
theorem test_illFormed_15 : ([.queueWordWrite 0 .start 4294967296,
    .tailWaitTimeout 64,
    .brineSpill 64 0,
    .brineSpill 0 9,
    .brineRefill 64 0,
    .brineRefill 0 9,
    .entryPresentation 64 .clean,
    .popEntry 64 0,
    .popEntry 0 8,
    .popItem 64 0,
    .popItem 0 8,
    .dataPathTake 64] : List Instr).all (fun i => !i.wf) = true := by decide +kernel
theorem test_illFormed_16 : ([.flush 64,
    .wmPresetWrite 64 0,
    .wmPresetWrite 0 4,
    .queueStale 64,
    .recCursorWrite 4294967296,
    .clearTide 16 0,
    .clearAll 16 0,
    .userRecord 65536,
    .thermalSample 4 [] 0,
    .thmPresetWrite 4,
    .lockCmd 16 0 0,
    .unlockCmd 16 0 0] : List Instr).all (fun i => !i.wf) = true := by decide +kernel
theorem test_illFormed_17 : ([.openMsg 2 0 0 0,
    .dataMsg 2 0 0 0 [] false,
    .dataMsg 0 0 0 0 [256] false,
    .endMsg 2 0 0 0 (0, 0) false,
    .opdofyAbort 2 0 0,
    .leaveMsg 2 0 0,
    .swSet 4294967296,
    .safeAck 65536,
    .sevPresetWrite 4,
    .cameraLinkUp 2,
    .ethLinkUp 7,
    .pdFaultChange 10 false] : List Instr).all (fun i => !i.wf) = true := by decide +kernel
theorem test_illFormed_18 : ([.antOpenClear 2,
    .shortToBatClear 64,
    .pdelayReq 6,
    .frameStart 0 0 ⟨0, 3⟩,
    .lineMsg 0 0 1 0 0 false [],
    .lineMsg 0 0 64 0 0 false [],
    .frameEnd 0 0 3,
    .ppsQerrPublish 0 2001 0,
    .ppsQerrPublish 0 (-2001) 0] : List Instr).all (fun i => !i.wf) = true := by decide +kernel

/-! Witnesses: for each statement a state and operands that meet its hypotheses. -/

theorem test_wellFormed : ([.registerWrite .core 0x40000000 32 5 default, .shadowedWriteApply 20 3, .gateWrite (.bl 3) true, .modeRequest 15,
    .fileEvent 31, .canFrameRx 7 0x7FF (some [1, 2]), .flush 63, .safeAck 0xC3A5] : List Instr).all Instr.wf = true := by decide +kernel

theorem meets_StepRunsTheFrontCommand : ({ State.reset with pending := [.forwardConfirm, .flush 0] } : State).pending = .forwardConfirm :: [.flush 0] := rfl

/-- The queue is first in, first out, and a step takes its front. -/
theorem test_step_takes_front : (match step { State.reset with pending := [.forwardConfirm, .flush 0] } with | .next t => t.pending | _ => [])
    = [.flush 0] := by decide +kernel

theorem meets_EmptyQueuePassesOneCycle : (at_ (fed 6 [])).pending = [] ∧ (found (fed 6 [])).running = true ∧ (found (fed 6 [])).slew = 0
    ∧ 0 ≤ (found (fed 6 [])).tmb.mtFrac ∧ (found (fed 6 [])).tmb.mtFrac < 1000000000 := by decide +kernel

theorem meets_BeginKeepsRegisters : State.reset.dev.flt.window = none ∧ (∀ p ∈ State.reset.dev.flt.due, State.reset.dev.now < p.1)
    ∧ State.reset.dev.recd.backlog = [] ∧ State.reset.dev.flag REC.CLR_BUSY = false ∧ State.reset.dev.cfg.checking = none := by decide +kernel

theorem meets_FinishCalm : State.reset.dev.raised = [] ∧ State.reset.dev.wait = [] ∧ State.reset.dev.powered 14 = false
    ∧ State.reset.dev.powered 15 = false ∧ ∀ q ∈ [60, 61, 62, 63], ∀ e ∈ (State.reset.dev.queue q).head.head?, e.void = false := by decide +kernel

theorem meets_StepKeepsDramCanonical : State.reset.dramOk ∧ ({ State.reset with dram := [(0x80000000, 1)] } : State).dramOk
    ∧ (match step State.reset with | .next _ => true | _ => false) = true := by unfold State.dramOk; decide +kernel

theorem meets_BusErrorAccesses : (0x40000000 ≤ 0x4014FFFE ∧ 0x4014FFFE < 0x40150000 ∧ 0x4014FFFE % 4 ≠ 0 ∧ 16 ≠ 32) ∧ (0x40150000 ≤ 0x4FFFFFFC ∧ 0x4FFFFFFC < 0x50000000)
    ∧ (found State.reset.dev).powered ((0x40040000 - 0x40000000) / 0x10000) = false ∧ (found State.reset.dev).live ((0x4000FFFC - 0x40000000) / 0x10000)
    ∧ fieldsAt 0x4000FFFC = [] ∧ fieldsAt 0x4014FFFC = [] := by unfold Dev.live; decide +kernel

theorem meets_WriterSetRefuses : (∃ p ∈ fieldsAt (THM.FC_DIV2_C.addr 0 0), p.1.acc ≠ .ro ∧ p.1.wset.admits .core = false)
    ∧ (found State.reset.dev).powered ((THM.FC_DIV2_C.addr 0 0 - 0x40000000) / 0x10000) = true := by decide +kernel

/-- An RW register, one with an RWS field, one with an RWL field, one with W1C fields, one of a queue that is not built. -/
theorem meets_RegisterWriteByAccessCode : ∀ a ∈ [REC.REC_USER0.addr 0 0, VDR.CH_KP.addr 31 0, CAN.P_NBRP.addr 7 0, LAH.LOCKED_WRITE.addr 0 0 + 4, 0x40100110],
    (plainRegister a ∧ a % 0x10000 ≠ 4 ∧ (found (fed 6 [])).live ((a - 0x40000000) / 0x10000) ∧ busAdmits (fieldsAt a) .core = true) := by
  unfold plainRegister Dev.live; decide +kernel

theorem meets_BoundaryAppliesWaiting : (found { fed 6 [] with wait := [(THM.FC_DIV2_C.key 0 0, 90)] }).live 18 := by unfold Dev.live; decide +kernel

/-- Points 0 and 131071 built for the field cores and for a block. -/
def pointDev : Dev := withItems 15 [.point 0 .q15 .cores 50, .point 131071 .bool (.block 4) 60000000] (fed 6 [])

theorem meets_ProcessImageWindow : (found pointDev).running = true ∧ (found pointDev).pointRow 0 = some (.q15, .cores, 50)
    ∧ (found pointDev).pointRow 131071 = some (.bool, .block 4, 60000000) ∧ (found pointDev).pointRow 1 = none
    ∧ ((found pointDev).point 0).value < 2 ^ 32 ∧ ((found pointDev).point 0).stamp < 2 ^ 64 := by decide +kernel

/-- R30: a Q15 word is sign-extended, SEQ counts, VALID is set. -/
theorem test_point_q15 : ((after (.pointValueWrite 0x50000000 32 0x12348000) pointDev).point 0).value = 0xFFFF8000
    ∧ ((after (.pointValueWrite 0x50000000 32 0x12348000) pointDev).point 0).status = 1 := by decide +kernel

theorem meets_FreshnessExpirySetsStale : (found pointDev).pointRow 0 = some (.q15, .cores, 50) := by decide +kernel

/-! Chapter 2. -/

theorem meets_ModeRequestAnswers : (found State.reset.dev).powered 0 = true ∧ (found (fed 4 [])).transition 5 = some none
    ∧ (found (fed 6 [])).transition 4 = some (some 1) ∧ (found (fed 2 [])).transition 6 = none ∧ (found (fed 7 [])).mode = 7
    ∧ (found (fed 5 [(ETH.JOIN_STATE, 0, 2)])).follows = true ∧ (found (fed 4 [(SYS.TRANS_BUSY, 0, 1)])).flag SYS.TRANS_BUSY = true := by decide +kernel

/-- Table 2.2: SERVICE to ROAD is granted; ROAD to SERVICE while moving is refused with cause 1. -/
theorem test_mode_request : (after (.modeRequest 5) (fed 4 [])).rd SYS.TRANS_BUSY = 1 ∧ (after (.modeRequest 4) (fed 5 [])).rd SYS.REFUSE_CAUSE = 1 := by
  decide +kernel

/-- A granted transition to ROAD. -/
def granted : Dev := let d := fed 4 [(SYS.TRANS_BUSY, 0, 1)]; { d with sys := { d.sys with target := some 5 } }

/-- Slow since MT 7 and fast since MT 9. -/
def slowDev : Dev := let d := fed 4 []; { d with tmb := { d.tmb with slowFrom := some 7, fastFrom := some 9 } }

theorem meets_TransitionsComplete : (found granted).sys.target = some 5 ∧ (found slowDev).tmb.slowFrom = some 7 ∧ (found slowDev).mode = 4
    ∧ (found slowDev).tmb.fastFrom = some 9 ∧ (found slowDev).flag TMB.MD_VALID = true ∧ (found slowDev).running = true ∧ 0 ≤ (found slowDev).tmb.mtFrac
    ∧ (found (fed 4 [])).tmb.slowFrom = none ∧ (5 : Nat) < 8 := by decide +kernel

theorem test_transition : (after .transitionComplete granted).mode = 5 ∧ (after .transitionComplete granted).rd SYS.PREV_MODE = 4 := by decide +kernel

theorem meets_ResetsOfTable28 : (found (fed 0 [])).mode ≤ 1 ∧ (found (fed 1 [])).mode ≤ 1 ∧ (found (fed 0 [])).sys.brownOut = false ∧ 1 < (found (fed 2 [])).mode
    ∧ (found (fed 1 [(SYS.ALARM_S, 0, 60)])).mode = 1 ∧ (found (fed 1 [(SYS.ALARM_S, 0, 60)])).rd SYS.ALARM_S ≠ 0
    ∧ (found (fed 4 [])).pdOn 2 = true ∧ (found (fed 4 [])).sys.pairs = 2 ∧ (found (fed 4 [])).powered 0 = true
    ∧ (found { fed 4 [] with sys := { (fed 4 []).sys with pairs := 1 } }).sys.pairs ≠ 2
    ∧ (0x5A3D % 65536 ≠ 0x5A3C) ∧ (2 % 16 ≠ 1 ∧ (found (fed 5 [])).mode ≠ 4 ∧ (found (fed 5 [])).mode ≠ 7)
    ∧ (found (fed 2 [(UPD.STATE_A, 0, 4)])).onTrial = true := by decide +kernel

theorem meets_PowerOnAndSleep : (found (fed 3 [])).mode = 3 ∧ (found (fed 4 [])).mode ≠ 3 ∧ (found (fed 1 [])).mode = 1 := by decide +kernel

/-- Power-on with WAKE low is STANDBY with PD0 alone (Table 2.1, Table 2.8). -/
theorem test_power_on : (after (.powerOn false 1200) (fed 6 [])).mode = 0 ∧ (after (.powerOn false 1200) (fed 6 [])).rd SYS.PD_ON = 1 := by decide +kernel

/-- WAKE fell at 5. -/
def falling : Dev := let d := fed 6 []; { d with sys := { d.sys with wakeFell := some 5, wake := false } }

theorem meets_Shutdown : (found falling).sys.wakeFell = some 5 ∧ (found falling).sys.shutdown = false ∧ (found falling).flag SYS.RIDE_THROUGH = false
    ∧ (found falling).flag SYS.TRANS_BUSY = false ∧ 4 ≤ (found falling).mode
    ∧ (found { falling with sys := { falling.sys with shutdown := true } }).sys.shutdown = true ∧ 1 % 2 = 1 ∧ (found falling).powered 0 = true := by decide +kernel

theorem meets_CrankAndWatchdog : 4 ≤ (found (fed 6 [])).mode ∧ (found (fed 2 [])).mode = 2 ∧ ¬ ((found (fed 3 [])).mode = 2 ∨ 4 ≤ (found (fed 3 [])).mode)
    ∧ (found (fed 6 [(SYS.TRANS_BUSY, 0, 1)])).flag SYS.TRANS_BUSY = true ∧ (found (fed 6 [])).powered 0 = true ∧ (found (fed 6 [])).flag SYS.RIDE_THROUGH = false
    ∧ (found (fed 6 [(SYS.RIDE_THROUGH, 0, 1)])).flag SYS.RIDE_THROUGH = true
    ∧ (found { fed 6 [] with sys := { (fed 6 []).sys with fcwdFrom := some 0 } }).sys.fcwdFrom = some 0
    ∧ ((found { fed 6 [] with sys := { (fed 6 []).sys with fcwdFrom := some 0 } }).raise Flt.FCWD_EXPIRED).settle.coresReset.onTrial = false
    ∧ ((found (fed 6 [(UPD.STATE_A, 0, 4)])).raise Flt.FCWD_EXPIRED).settle.coresReset.onTrial = true := by decide +kernel

theorem meets_SupplyGatesAndPreset : (found (fed 6 [])).pdOn 2 = true ∧ (found (fed 6 [])).sys.brownOut = false
    ∧ (found (fed 6 [])).bandAfter ((found (fed 6 [])).rd (bandField 0)) 1300 ≠ 0 ∧ (5801 : Int) > 5800 ∧ (-3201 : Int) < -3200
    ∧ (found (fed 6 [])).live (Chan.block (.ls 63)) ∧ (found (fed 6 [])).live (Chan.block (.fc 15)) ∧ (found (fed 6 [])).itemsOf 15 = []
    ∧ (found (fed 6 [])).bandAfter 3 500 = 0 ∧ (found (fed 6 [(SYS.BAND_LOG, 0, 3)])).rd SYS.BAND_LOG ≠ 0
    ∧ (found { fed 6 [] with sys := { (fed 6 []).sys with brownOut := true } }).sys.brownOut = true ∧ (901 : Nat) ≤ 5800
    ∧ (found (fed 6 [])).bandLimits = [600, 900, 1600, 3200, 3600] ∧ (found (fed 6 [(QUE.FC_BUILT, 15, 1)])).flag QUE.FC_BUILT 15 = true
    ∧ (found (fed 6 [])).powered 10 = true ∧ (found (fed 6 [])).powered 0 = true := by
  unfold Dev.live; decide +kernel

/-- R50: outside the ratings the model stops, inside it goes on. -/
theorem test_ratings : runs (.supplyBandChange 0 5801 1200 false) (fed 6 []) = false ∧ runs (.supplyBandChange 0 1300 1200 false) (fed 6 []) = true := by
  decide +kernel

/-! Chapter 3. -/

/-- The header of a partial image of live region CR7 with no section under KEY_INDEX 0xFF, but for its CRC (Table 3.1). -/
def tinyHead : List Nat :=
  padTo 252 (leBytes 4 0x49564C50 ++ leBytes 2 3 ++ leBytes 2 256 ++ [1, 0, 4, 0xFF] ++ leBytes 4 720 ++ leBytes 4 9 ++ leBytes 4 1 ++ leBytes 4 0x80)

/-- Header and region table: CR7 lies at offset 512 with length 0 (R68). -/
def tinySigned : List Nat :=
  tinyHead ++ leBytes 4 (crc32c tinyHead) ++ List.replicate 112 0 ++ leBytes 4 512 ++ leBytes 4 0 ++ leBytes 4 (crc32c []) ++ leBytes 2 3 ++ leBytes 2 0
    ++ List.replicate 128 0

/-- The image, signed by the factory key with the number 5 (R70). -/
def tinyImage : Image :=
  Image.ofBytes (tinySigned ++ (Config.factoryKey ++ (Config.ecdsaSign Config.factoryKey (Config.sha384 tinySigned) 5 ++ List.replicate 16 0))) ⟨[], 5⟩

theorem tinySigned_length : tinySigned.length = 512 := by decide +kernel

theorem tinyImage_pubKey : tinyImage.pubKey = Config.factoryKey := by
  have h : Config.factoryKey.length = 96 := by simp [Config.factoryKey]
  have h2 : (Config.ecdsaSign Config.factoryKey (Config.sha384 tinySigned) 5).length = 96 := by simp [Config.ecdsaSign]
  simp [tinyImage, Image.ofBytes, tinySigned_length, h, h2]

theorem tinyImage_sig : tinyImage.sig = Config.ecdsaSign Config.factoryKey (Config.sha384 tinySigned) 5 := by
  have h : Config.factoryKey.length = 96 := by simp [Config.factoryKey]
  have h2 : (Config.ecdsaSign Config.factoryKey (Config.sha384 tinySigned) 5).length = 96 := by simp [Config.ecdsaSign]
  simp [tinyImage, Image.ofBytes, tinySigned_length, h, h2]

theorem tinyImage_sigOk : tinyImage.sigOk = true := by
  have h : tinyImage.totalLen = 720 := by decide +kernel
  have hb : tinyImage.bytes.take 512 = tinySigned := by
    simp [tinyImage, Image.ofBytes, tinySigned_length]
  simp [Image.sigOk, signedBy, tinyImage_pubKey, tinyImage_sig, h, hb]
  rfl

/-- A module that may load it. -/
def loadDev : Dev := fed 5 [(CFG.LEN, 0, 720)]

/-- The image passes every check of Table 3.4. -/
theorem tinyImage_fits : (found loadDev).imageFault tinyImage false = none := by
  have hk : (found loadDev).keyAdmitted tinyImage false = true := by
    have h1 : tinyImage.keyIndex = 0xFF := by decide +kernel
    have h3 : (found loadDev).noKeys = true := by decide +kernel
    simp [Dev.keyAdmitted, h1, tinyImage_pubKey, h3]
  unfold Dev.imageFault
  simp only [hk, tinyImage_sigOk]
  decide +kernel

theorem tinyImage_passes : (found loadDev).loadFault tinyImage = none := by
  have h2 : tinyImage.headerOk ((found loadDev).rd CFG.LEN) = true := by decide +kernel
  unfold Dev.loadFault
  simp only [h2, tinyImage_fits]
  decide +kernel

/-- The image under check until an instant. -/
def checkingDev (t : Nat) : Dev := let d := withRegs [(CFG.LOAD_STATE, 0, 1)] loadDev; { d with cfg := { d.cfg with checking := some ⟨tinyImage, false, t⟩ } }

theorem meets_LoadChecks : (found loadDev).powered 1 = true ∧ (found loadDev).rd CFG.LOAD_STATE = 0
    ∧ (found (fed 5 [(CFG.LOAD_STATE, 0, 2)])).rd CFG.LOAD_STATE ≠ 0 ∧ (checkingDev 7).cfg.checking = some ⟨tinyImage, false, 7⟩ ∧ (checkingDev 7).now < 7
    ∧ (checkingDev 0).cfg.checking = some ⟨tinyImage, false, 0⟩ ∧ 0 ≤ (checkingDev 0).now ∧ (found loadDev).loadFault tinyImage = none
    ∧ (found (fed 5 [])).loadFault tinyImage = some (3, 0) ∧ tinyImage.headerOk ((fed 5 []).rd CFG.LEN) = false
    ∧ tinyImage.headerOk ((found loadDev).rd CFG.LEN) = true ∧ (found loadDev).imageFault tinyImage false = none
    ∧ (∃ r ∈ tinyImage.numbers, ((fed 5 [(CFG.PEND, 0, 0x80)]).rd CFG.PEND).testBit r = true) :=
  ⟨by decide +kernel, by decide +kernel, by decide +kernel, rfl, by decide +kernel, rfl, by decide +kernel, tinyImage_passes, by decide +kernel,
    by decide +kernel, by decide +kernel, tinyImage_fits, by decide +kernel⟩

/-- A region's content waiting in its shadow copy. -/
def swapDev : Dev := let d := loadDev; { d with cfg := { d.cfg with swaps := [(7, ⟨⟨7, 0, [], [], [], []⟩, 0, false, tinyImage⟩)] } }

/-- New content for template 9, whose group is PREPARING: the swap is held. -/
def heldContent : Content := ⟨8, 0, [], [], [], [.tplEntry 9 false ⟨1, 255, 0, 0⟩]⟩
def heldDev : Dev :=
  let d := fed 5 [(SLU.EN, 0, 1), (SLU.T_BUILT, 9, 1), (SLU.T_STATE, 9, 2)]
  { d with slu := { d.slu with groups := [(9, default)] }, cfg := { d.cfg with swaps := [(8, ⟨heldContent, 0, false, tinyImage⟩)] } }

theorem meets_LiveRegions : tinyImage.kind ≠ 0 ∧ (∀ r ∈ tinyImage.regions, regionLive r.no = true) ∧ tinyImage.regions ≠ []
    ∧ tget? 7 (found loadDev).loadWait.cfg.swaps = none ∧ tget? 7 (found swapDev).loadWait.cfg.swaps = some ⟨⟨7, 0, [], [], [], []⟩, 0, false, tinyImage⟩
    ∧ (found swapDev).loadWait.swapHeld ⟨7, 0, [], [], [], []⟩ = false ∧ tget? 8 (found heldDev).loadWait.cfg.swaps = some ⟨heldContent, 0, false, tinyImage⟩
    ∧ (found heldDev).loadWait.swapHeld heldContent = true ∧ 7 < 16 :=
  ⟨by decide +kernel, by decide +kernel, by decide +kernel, by decide +kernel, rfl, by decide +kernel, rfl, by decide +kernel, by decide +kernel⟩

theorem meets_StaticBuildEnds : (found loadDev).loadWait.cfg.building = none
    ∧ (found { loadDev with cfg := { loadDev.cfg with building := some ⟨tinyImage, false, []⟩ } }).loadWait.cfg.building = some ⟨tinyImage, false, []⟩ :=
  ⟨by decide +kernel, rfl⟩

theorem meets_PregWrites : (found loadDev).powered 2 = true ∧ (found loadDev).pregMay 0 .core = true ∧ (found loadDev).pregMay 4031 .core = true
    ∧ (found loadDev).pregMay 4032 .core = false ∧ (found loadDev).pregMay 4032 .shoit = true ∧ (found loadDev).flag PREG.WORN 4031 = false
    ∧ (found (fed 5 [(PREG.WORN, 9, 1)])).flag PREG.WORN 9 = true ∧ (found loadDev).itemsOf 14 = [] := by decide +kernel

theorem test_preg : (after (.pregWrite .core 4031 0xDEADBEEF none none) loadDev).rd PREG.P 4031 = 0xDEADBEEF
    ∧ (after (.pregWrite .core 4031 0xDEADBEEF none none) loadDev).rd PREG.CNT_LO 4031 = 1 := by decide +kernel

/-! Chapter 4. -/

/-- GNSS discipline, offset set and not. -/
def mtDev (set : Bool) (locked : Nat) : Dev :=
  let d := fed 6 [(TMB.MT_DISC, 0, 1), (TMB.MT_LOCKED, 0, locked)]; { d with tmb := { d.tmb with mt := 1000, ofsSet := set, badRun := 2, goodRun := 9, bigRun := 9 } }

theorem meets_MachineTime : (found (mtDev false 0)).live 3 ∧ (found (mtDev false 0)).running = true ∧ (found (mtDev false 0)).mtDisc = 1
    ∧ (found (mtDev false 0)).tmb.ofsSet = false ∧ (found (mtDev true 1)).tmb.ofsSet = true ∧ (found (mtDev true 1)).flag TMB.MT_LOCKED = true
    ∧ (found (mtDev true 0)).flag TMB.MT_LOCKED = false ∧ (-(2 ^ 63) ≤ (5000 : Int) - (found (mtDev false 0)).mt) ∧ (5000 : Int) - (found (mtDev false 0)).mt < 2 ^ 63
    ∧ 9 ≤ (found (mtDev true 0)).tmb.bigRun ∧ 1000000 < (((found (mtDev true 0)).mt : Int) + (found (mtDev true 0)).gpsOfs - 5000000).natAbs
    ∧ (((found (mtDev true 0)).mt : Int) + (found (mtDev true 0)).gpsOfs - 1).natAbs ≤ 1000000 := by unfold Dev.live; decide +kernel

/-- Sources with their flags: CR6 builds source 3, which is in use with a weight and anchors. -/
def mdDev (st mt : Nat) (srcs : List (Nat × MdSrc)) : Dev :=
  let d := withItems 6 [.mdSource 3 1] (fed 6 [(TMB.SRC_USE, 3, 1), (TMB.SRC_WEIGHT, 3, 5), (TMB.SRC_WEIGHT, 0, 5), (TMB.MD_STATE, 0, st), (TMB.HOLD_MS, 0, 200)])
  { d with tmb := { d.tmb with mt := mt, srcs := srcs, anchor := 3 } }

/-- An admitted source, and one that is fresh and passes. -/
def admittedSrc : MdSrc := ⟨some 0, 0, true, true, 0, true⟩
def freshSrc : MdSrc := ⟨some 0, 0, true, true, 0, false⟩

theorem meets_MachineDistance : (found (mdDev 0 0 [])).live 3 ∧ (found (mdDev 0 0 [])).running = true ∧ (mdDev 0 0 []).flag TMB.SRC_USE 3 = true
    ∧ ((mdDev 0 0 []).mdPairs 3).isSome = true ∧ (mdDev 0 0 []).flag TMB.SRC_USE 2 = false ∧ (mdDev 0 0 []).mdPairs 0 = none
    ∧ ((mdDev 0 9 [(3, freshSrc)]).mdSrc 3).pass = true ∧ (((mdDev 0 60000000 [(3, freshSrc)]).gateOne 3).mdSrc 3).pass = false
    ∧ ((mdDev 0 9 [(3, freshSrc)]).mdSrc 3).fresh = true ∧ (((mdDev 0 60000000 [(3, freshSrc)]).gateOne 3).mdSrc 3).fresh = false
    ∧ (gateSource 9 50 150 26 8 0 freshSrc).pass = true ∧ (gateSource 60000000 50 150 26 8 0 freshSrc).pass = false
    ∧ (mdDev 1 0 [(3, admittedSrc)]).admittedWeighted ≠ [] ∧ (mdDev 1 0 []).rd TMB.MD_STATE ≠ 2 ∧ (mdDev 2 0 []).rd TMB.MD_STATE = 2
    ∧ 2 ≤ (mdDev 2 0 [(3, admittedSrc), (0, admittedSrc)]).admittedWeighted.length
    ∧ (mdDev 2 0 [(3, freshSrc), (0, freshSrc)]).admittedWeighted.length < 2 ∧ ((mdDev 2 0 [(3, freshSrc), (0, freshSrc)]).mdSrc 3).fresh = true
    ∧ (mdSources.filter fun i => ((mdDev 2 0 [(3, freshSrc), (0, freshSrc)]).mdSrc i).fresh) ≠ [3] ∧ (mdDev 2 0 []).tmb.anchor < 4
    ∧ (∀ i < 4, ((mdDev 0 0 []).mdSrc i).admitted = false) ∧ (mdDev 0 0 []).rd TMB.MD_STATE = 0 ∧ ((mdDev 2 0 []).mdSrc 3).fresh = false
    ∧ (mdDev 1 200000000 [(3, freshSrc)]).tmb.lastAdmitted + (mdDev 1 200000000 [(3, freshSrc)]).rd TMB.HOLD_MS * ms ≤ (mdDev 1 200000000 [(3, freshSrc)]).mt
    ∧ (mdDev 1 200000000 [(3, freshSrc)]).admittedWeighted = [] ∧ (mdDev 1 200000000 [(3, freshSrc)]).bestAnchor ≠ none
    ∧ (∀ i < 4, ((mdDev 1 200000000 []).mdSrc i).fresh = false) ∧ (mdDev 3 0 []).admittedWeighted = [] ∧ (mdDev 3 0 []).rd TMB.MD_STATE = 3
    ∧ (mdDev 3 0 []).mt < (mdDev 3 0 []).tmb.lastAdmitted + (mdDev 3 0 []).rd TMB.HOLD_MS * ms
    ∧ (3 : Nat) ≠ (mdDev 0 0 []).rd TMB.MD_STATE ∧ (fed 6 [(LAH.EN, 0, 1)]).flag LAH.EN = true := by unfold Dev.live; decide +kernel

/-- A scheduler class 31 for the field cores and class 0 for the look-ahead unit alone; one event pending in slot 5. -/
def tmbDev : Dev :=
  let d := withItems 6 [.tmbClass 0 .lah 1 none 0, .tmbClass 31 .lah 4 none 16] (fed 6 [(TMB.FILE_TGT_LO, 0, 1), (TMB.CLASS_BUILT, 0, 1), (TMB.CLASS_BUILT, 31, 1), (TMB.CLASS_COORD, 31, 2)])
  { d with tmb := { d.tmb with slots := [(5, ⟨31, 100, 7, 2, 0, false, none, false, false, false⟩)] } }

/-- The event has crossed, to be issued or to be dropped. -/
def crossedDev (drop : Bool) : Dev :=
  { tmbDev with tmb := { tmbDev.tmb with slots := [(5, ⟨31, 100, 7, 2, 0, false, some 0, false, false, drop⟩)], issued := [(6, 9)] } }

/-- Travel back by 1 m, confirmed at 500 mm, with REVERSE at a value. -/
def turnDev (rev : Nat) : Dev :=
  let d := fed 6 [(TMB.REVERSE, 0, rev), (TMB.REV_CONFIRM_MM, 0, 500), (LAH.EN, 0, 1)]
  { d with tmb := { d.tmb with mdAcc := -(10000 * 2 ^ 24), turn := some 0 } }

/-- No slot is left for class 31. -/
def fullDev : Dev := withItems 6 [.tmbClass 0 .lah 1 none 4096, .tmbClass 31 .lah 4 none 0] tmbDev

theorem meets_ScheduledEvents : (found tmbDev).live 3 ∧ (found tmbDev).classRow 1 = none ∧ (found tmbDev).classRow 31 ≠ none
    ∧ (found tmbDev).slotFree 31 = true ∧ (found tmbDev).lateAt 31 ((found tmbDev).fileTarget 31) = false
    ∧ tget? 0 (found tmbDev).tmb.slots = none ∧ (found tmbDev).handleOf 5 ≠ 6 ∧ (tget? 5 (found tmbDev).tmb.slots).isSome = true
    ∧ (0 : Nat) < 4096 ∧ (4 : Nat).testBit 2 = true ∧ (1 : Nat).testBit 2 = false
    ∧ ((found tmbDev).classRow 0).map (fun r => r.2.1) = some 1 ∧ ((found tmbDev).classRow 31).map (fun r => r.2.1) = some 4
    ∧ (found tmbDev).slotFree 31 = true ∧ (found fullDev).slotFree 31 = false
    ∧ (found (crossedDev false)).handleOf 6 = 6 ∧ tget? 6 (found (crossedDev false)).tmb.slots = none ∧ (tget? 6 (found (crossedDev false)).tmb.issued).isSome = true
    ∧ (found tmbDev).handleOf 6 = 6 ∧ tget? 6 (found tmbDev).tmb.issued = none
    ∧ (found (crossedDev false)).mayIssue ⟨31, 100, 7, 2, 0, false, some 0, false, false, false⟩ = true
    ∧ (found tmbDev).mayIssue ⟨31, 100, 7, 2, 0, false, none, false, false, false⟩ = false
    ∧ (found (crossedDev false)).nextIssue ≠ none ∧ (found (crossedDev true)).nextIssue ≠ none
    ∧ (found tmbDev).running = true ∧ (found tmbDev).nextIssue = none ∧ (found tmbDev).nextMtTarget = some 100 ∧ (found (fed 6 [])).nextMtTarget = none
    ∧ (found (turnDev 0)).flag TMB.REVERSE = false ∧ (found (turnDev 0)).turnDue = some 0 ∧ (found (turnDev 0)).tmb.turn = some 0
    ∧ (found (turnDev 1)).flag TMB.REVERSE = true ∧ (found (turnDev 1)).turnDue = some 0 ∧ (found (fed 6 [])).turnDue = none := by unfold Dev.live; decide +kernel

theorem test_file_and_issue : (after (.fileEvent 31) tmbDev).rd TMB.FILE_RESULT = 1 ∧ (after (.fileEvent 1) tmbDev).rd TMB.FILE_RESULT = 5
    ∧ (after (.fileEvent 0) tmbDev).rd TMB.FILE_RESULT = 5 ∧ (after (.cancelEvent 5) tmbDev).rd TMB.CANCEL_RESULT = 0
    ∧ (after (.cancelEvent 4101) tmbDev).rd TMB.CANCEL_RESULT = 2 := by decide +kernel

/-- A rotor source of one pulse; two history entries. -/
def histDev : Dev :=
  let d := withItems 6 [.raSource 1 2 true] (fed 6 [(TMB.Q_LO, 0, 150)])
  { d with tmb := { d.tmb with mt := 300, raSeen := true, hist := [⟨200, 2000, 0, 20, 0, 0, 0⟩, ⟨100, 1000, 0, 10, 0, 0, 0⟩] } }

theorem meets_RotorAndHistory : (found histDev).live 3 ∧ (found histDev).running = true ∧ (found histDev).raPpr = 1 ∧ (found histDev).tmb.raSeen = true
    ∧ (found (fed 6 [])).tmb.raSeen = false ∧ (found histDev).raInput = some (2, true) ∧ (found (fed 6 [])).raInput = none
    ∧ (found histDev).tmb.hist = ⟨200, 2000, 0, 20, 0, 0, 0⟩ :: [⟨100, 1000, 0, 10, 0, 0, 0⟩]
    ∧ 10 * clampN 50 1000 ((found histDev).rd TMB.HIST_STEP_MM) ≤ ((found histDev).md - 2000).natAbs
    ∧ allBrackets (fun e => (e.mt : Int)) ((found histDev).queryKey false) (found histDev).tmb.hist = [(⟨100, 1000, 0, 10, 0, 0, 0⟩, ⟨200, 2000, 0, 20, 0, 0, 0⟩)]
    ∧ allBrackets (fun e => e.md) ((found histDev).queryKey true) (found histDev).tmb.hist = []
    ∧ (found histDev).flag TMB.MD_VALID = true ∧ (0 < 1) ∧ (1000 : Int) ≤ 2000 := by unfold Dev.live; decide +kernel

/-- R125: halfway between two entries the east is halfway; an MD beyond the oldest is not held. -/
theorem test_history : (after (.historyQuery false) histDev).rd TMB.Q_RESULT = 1 ∧ (after (.historyQuery true) histDev).rd TMB.Q_RESULT = 2 := by decide +kernel

/-! Chapter 5. -/

/-- The look-ahead unit enabled with implement 7 and its scheduler class, one ISSUED Pan entry. -/
def lahDev : Dev :=
  let d := withItems 6 [.tmbClass 0 .lah 1 none 0] (fed 6 [(LAH.EN, 0, 1), (LAH.MASTER, 0, 0x80), (TMB.MD_STATE, 0, 0), (LAH.POSE_STATE, 0, 0), (LAH.IMP_TYPE, 7, 1), (TMB.CLASS_BUILT, 0, 1),
    (LAH.IMP_RATE_MD_LO, 7, 5000)])
  { d with lah := { d.lah with epochAt := some 3, pan := [(4, { (default : PanEntry) with issued := true })] } }

theorem meets_LookAheadCommands : (found lahDev).live 4 ∧ (found lahDev).flag LAH.EN = true ∧ 256 % 256 = 0 ∧ 128 % 256 ≠ 0
    ∧ ((found lahDev).rd LAH.MASTER).testBit 7 = true ∧ (0x7F : Nat).testBit 7 = false ∧ (found (fed 6 [])).flag LAH.EN = false
    ∧ (found lahDev).lah.epochAt = some 3 ∧ (found lahDev).rd LAH.POSE_STATE ≠ 2 ∧ (found (fed 6 [(LAH.IMP_STATE, 0, 1)])).flag LAH.IMP_STATE = true
    ∧ (found (fed 6 [])).coreMayWrite 0 16 = false
    ∧ (found (fed 6 [(LAH.IMP_ADDR16, 0, 0x8000000)])).coreMayWrite (16 * (found (fed 6 [(LAH.IMP_ADDR16, 0, 0x8000000)])).rd LAH.IMP_ADDR16) 16 = true
    ∧ (found (fed 6 [])).rd LAH.MAP_W < 1024 ∧ (found lahDev).lahMay 6 = false ∧ (found lahDev).lahMay 7 = true ∧ (found lahDev).lahClass = some 0
    ∧ (found lahDev).lah.pan.length < 2048 ∧ (found lahDev).lateAt 0 5000 = false ∧ (found lahDev).slotFree 0 = true
    ∧ tget? 0 (found lahDev).tmb.slots = none ∧ (found lahDev).rd LAH.IMP_TYPE 7 ≠ 0 ∧ (found (fed 6 [])).rd LAH.MAP_H < 1024
    ∧ (found (fed 6 [])).flag LAH.IMP_STATE = false := by unfold Dev.live; decide +kernel

theorem test_lah : (after (.masterWrite 0) lahDev).rd LAH.MASTER = 0 ∧ ((after (.masterWrite 0) lahDev).lah.triggers.map fun t => t.cause) = [9]
    ∧ (after (.rateFile 7) lahDev).lah.pan.length = 2 := by decide +kernel

/-- A flood of implement 7 waits. -/
def floodDev : Dev := { lahDev with lah := { lahDev.lah with triggers := [⟨9, [7], []⟩] } }

/-- A rate entry FILED with its event pending. -/
def filedDev : Dev := after (.rateFile 7) lahDev

theorem meets_Floods : (found lahDev).live 4 ∧ (found lahDev).lah.triggers = [] ∧ (found floodDev).lah.triggers ≠ [] ∧ (found lahDev).nextRake.isSome = true
    ∧ (found (fed 6 [])).flag LAH.EN = false ∧ (found lahDev).running = true ∧ causeOff 9 = true ∧ (found (fed 6 [])).nextRake = none
    ∧ (filedDev.lah.pan.all fun p => (filedDev.pendingEvent p.2.handle).all fun v => !filedDev.mayIssue v) = true
    ∧ (filedDev.lah.pan.any fun p => !p.2.issued && (⟨9, [7], []⟩ : Trigger).covers p.2 && decide (filedDev.md < p.2.target)) = true := by unfold Dev.live; decide +kernel

theorem meets_CoverageRules : (50 * 10 ≤ 100 * 5) ∧ (100 * 4 < 50 * 10) ∧ lahDev.trailed 7 = false
    ∧ lahDev.rd LAH.IMP_RC_T1 7 ≤ lahDev.rd LAH.IMP_RC_T2 7 ∧ lahDev.rd LAH.IMP_RC_T2 7 ≤ lahDev.rd LAH.IMP_RC_T3 7 := by decide +kernel

/-- R141: at 2 m/s a delay of 200 ms is 400 mm. -/
theorem test_travel : travel 200 (2000 * 256) = 4000 := by decide +kernel

/-! Chapter 6. -/

/-- Templates 3 and 255 built for FIELD, an open group of template 9 in a state. -/
def sluDev (st : Nat) : Dev :=
  let d := withItems 8 [.tplEntry 9 false ⟨1, 255, 0, 0⟩] (fed 6 [(SLU.EN, 0, 1), (SLU.T_BUILT, 3, 1), (SLU.T_BUILT, 255, 1), (SLU.T_MODE_MASK, 3, 4), (SLU.T_MODE_MASK, 255, 3), (SLU.T_STATE, 9, st),
    (SLU.ARM_TGT_LO, 0, 20000)])
  { d with slu := { d.slu with groups := [(9, { (default : SlGroup) with
      inst := 1, prepMt := some 50, commitMt := some 90, voteEnd := 60, nodes := [⟨0, some true, 0, 0, 0⟩] })] } }

/-- Template 9 built, with its group open; and 32 groups open, none of them of template 3. -/
def openDev : Dev := withItems 8 [.tplEntry 9 false ⟨1, 254, 0, 0⟩] (withRegs [(SLU.T_BUILT, 9, 1), (SLU.T_MODE_MASK, 9, 7)] (sluDev 1))
def crowdedDev : Dev := { sluDev 1 with slu := { (sluDev 1).slu with groups := (List.range 32).map fun k => (k + 10, default) } }

theorem meets_SluiceGroups : (found (sluDev 1)).live 5 ∧ (found (sluDev 1)).armRefusal 4 = some 5 ∧ (found (fed 6 [])).flag SLU.EN = false
    ∧ (found (sluDev 1)).flag SLU.T_BUILT 4 = false ∧ (found (sluDev 1)).tplMode 255 = false
    ∧ (found (sluDev 1)).tplMode 3 = true ∧ tget? 3 (found (sluDev 1)).slu.groups = none ∧ (found (sluDev 1)).slu.groups.length < 32
    ∧ remoteNodes ((found (sluDev 1)).tplEntries 3 false) = [] ∧ (found (sluDev 1)).mt + 20000 ≤ (found (sluDev 1)).armTarget false
    ∧ (found (sluDev 1)).rd SLU.T_STATE 9 = slArmed ∧ ((found (sluDev 1)).grp 9).remote = false ∧ ((found (sluDev 1)).grp 9).prepFail = none
    ∧ ((found (sluDev 1)).grp 9).prepMt = some 50 ∧ (found (sluDev 2)).rd SLU.T_STATE 9 = slPreparing ∧ ((found (sluDev 2)).grp 9).commitMt = some 90
    ∧ (found (sluDev 4)).rd SLU.T_STATE 9 = slCommit ∧ (found (sluDev 1)).slUndecided 9 = true ∧ (found (sluDev 4)).slUndecided 9 = false
    ∧ ((found (sluDev 2)).grp 9).staged = [] ∧ (found (sluDev 1)).flag SLU.EN = true ∧ (found (sluDev 1)).flag SLU.T_BUILT 3 = true
    ∧ (found (sluDev 1)).flag SLU.T_COORD 3 = false ∧ (found (sluDev 1)).flag SLU.T_COORD 255 = false ∧ (found openDev).flag SLU.T_BUILT 9 = true
    ∧ (found openDev).tplMode 9 = true ∧ tget? 9 (found openDev).slu.groups ≠ none ∧ 32 ≤ (found crowdedDev).slu.groups.length
    ∧ tget? 3 (found crowdedDev).slu.groups = none ∧ (found (withRegs [(SLU.ARM_TGT_LO, 0, 19999)] (sluDev 1))).armTarget false < 20000
    ∧ (((found openDev).waitMt 50).slState 9 slPreparing).prepReason 9 (((found openDev).tplEntries 9 false).filter fun a => decide (a.node = nodeLocal)) = some 1
    ∧ (((found openDev).waitMt 50).slState 3 slPreparing).prepReason 3 [] = none ∧ ((found (sluDev 2)).waitMt 90).nextIssue = none
    ∧ ((found (sluDev 2)).grp 9).staged.all ((found (sluDev 2)).waitMt 90).actPasses = true
    ∧ ([⟨1, 255, 0, 0⟩] : List SlAct).all ((found (sluDev 2)).waitMt 90).actPasses = false ∧ tget? 4 (found (sluDev 1)).slu.groups = none := by unfold Dev.live; decide +kernel

/-- A local template is armed at the earliest admitted target; one too close is refused LATE (Table 6.3). -/
theorem test_arm : (after (.sluiceArm 3) (sluDev 1)).rd SLU.ARM_RESULT = 1 ∧ (after (.sluiceArm 3) (sluDev 1)).rd SLU.T_STATE 3 = slArmed
    ∧ (after (.sluiceArm 3) (withRegs [(SLU.ARM_TGT_LO, 0, 19999)] (sluDev 1))).rd SLU.ARM_RESULT = 4 := by decide +kernel

/-- A VOTE, and an OUTCOME with RESULT 3, of node 0 for instance 1 of template 9, to the module's address 0. -/
def voteBytes : List Nat := [0x12, 9, 1, 0, 0, 0, 0, 0, 1, 0, 0, 0, 0, 0, 0, 0]
def outcomeBytes : List Nat := [0x15, 9, 1, 0, 0, 0, 0, 0, 3, 0, 0, 0, 0, 0, 0, 0]

/-- A window of 100 µs is open, and a CAN port carries another each 10 ms. -/
def winDev : Dev :=
  let d := withItems 13 [.canWindow 0 500 100 4 0 0 0, .carsilFrames 0 4] (withRegs [(CAN.EN, 0, 1), (CAN.P_CYCLE_US, 0, 10000), (CAN.P_MATRIX_CYCLES, 0, 1), (CAN.P_SYNC, 0, 2)] (sluDev 3))
  { d with slu := { d.slu with window := some (100, 200), opened := true }, net := { d.net with marks := [(0, 0)] } }

theorem meets_CarsilCoordinator : (found (sluDev 3)).carsilFor 2 voteBytes = true ∧ (found (sluDev 3)).carsilFor 5 voteBytes = false
    ∧ (found (sluDev 3)).carsilFor 2 outcomeBytes = false ∧ ((found (sluDev 3)).msgGroup voteBytes).isSome = true ∧ (found (sluDev 3)).rd SLU.T_STATE 9 = slVoting
    ∧ (found (sluDev 3)).mt ≤ ((found (sluDev 3)).grp 9).voteEnd ∧ (found (sluDev 1)).rd SLU.T_STATE 9 ≠ slVoting ∧ ((found (sluDev 3)).grp 9).against = none
    ∧ (found (sluDev 6)).rd SLU.T_STATE 9 = slOutcome ∧ (found (sluDev 6)).carsilFor 5 outcomeBytes = true ∧ outcomeBytes.getD 8 0 = 3
    ∧ (((found (sluDev 6)).grp 9).nodes.find? fun n => decide (n.addr = outcomeBytes.getD 4 0)).isSome = true
    ∧ (found (sluDev 3)).carsilWindows (found (sluDev 3)).mt 1 = [] ∧ (found (sluDev 3)).running = true ∧ (found (sluDev 3)).slu.window = none
    ∧ (found (sluDev 3)).live 5 ∧ ((found (sluDev 7)).rd SLU.T_STATE 9 = slComp) ∧ (found { sluDev 3 with tmb := { (sluDev 3).tmb with mt := 61 } }).mt > 60
    ∧ ((found { sluDev 3 with slu := { (sluDev 3).slu with groups := [(9, { (sluDev 3).grp 9 with nodes := [⟨0, some false, 3, 0, 0⟩] })] } }).grp 9).against ≠ none
    ∧ (found winDev).carsilWindows 101 1 ≠ [] ∧ (found winDev).slu.window = some (100, 200) ∧ (found winDev).slu.opened = true
    ∧ (found { sluDev 3 with tmb := default, regs := [] }).running = false := by unfold Dev.live; decide +kernel

/-- A participant's record of group 2, instance 1 of coordinator 0. -/
def partDev (vote : Option Bool) (res time : Nat) : Dev :=
  let d := fed 6 []
  { d with tmb := { d.tmb with mt := 1000000 }, slu := { d.slu with parts := [{ (default : SlPart) with group := 2, inst := 1, time := time, grace := 500, vote := vote, res := res }] } }

/-- A message of a type for that group. -/
def partBytes (type : Nat) : List Nat := [16 + type, 2, 1, 0, 0, 0, 0, 0] ++ List.replicate 10 0 ++ [128, 0] ++ List.replicate 4 0

theorem meets_CarsilParticipant : (found (partDev none 0 0)).live 5 ∧ (found (partDev none 0 0)).carsilFor 1 (partBytes 2) = false
    ∧ (∀ k ∈ [1, 3, 4, 6, 7], (found (partDev none 0 0)).carsilFor k (partBytes k) = true) ∧ (found (fed 6 [])).partOf (partBytes 1) = none
    ∧ (partBytes 1).getD 18 0 = 128 ∧ ((found (partDev (some true) 0 2000000)).partOf (partBytes 3)).isSome = true
    ∧ (found (partDev (some true) 0 2000000)).mt ≤ (found (partDev (some true) 0 2000000)).mtOfNet 2000000
    ∧ (found (partDev (some true) 0 900000)).mtOfNet 900000 < (found (partDev (some true) 0 900000)).mt
    ∧ (found (partDev (some true) 0 900000)).mt < (found (partDev (some true) 0 900000)).mtOfNet 900000 + 1000 * 500
    ∧ (found (partDev (some true) 0 500000)).mtOfNet 500000 + 1000 * 500 ≤ (found (partDev (some true) 0 500000)).mt
    ∧ ((found (partDev (some true) 1 0)).partOf (partBytes 7)).isSome = true ∧ ((found (partDev (some true) 0 0)).partOf ([0, 2] ++ leBytes 2 1 ++ [0])).isSome = true
    ∧ (partBytes 6).getD 18 0 = 128 ∧ ((partBytes 6).set 18 0).getD 18 0 < 128 ∧ (found (fed 6 [])).partOf (partBytes 6) = none
    ∧ (2 : Nat) < 256 ∧ (1 : Nat) < 65536 ∧ (((found (partDev none 0 0)).partOf (partBytes 3)).all fun p => p.vote ≠ some true) = true := by
  unfold Dev.live; decide +kernel

/-- R170: COMMIT within the grace applies late, after it not at all. -/
theorem test_commit : ((after (.commitMsg (partBytes 3)) (partDev (some true) 0 900000)).slu.parts.map fun p => p.res) = [4]
    ∧ ((after (.commitMsg (partBytes 3)) (partDev (some true) 0 500000)).slu.parts.map fun p => p.res) = [0]
    ∧ ((after (.abortMsg (partBytes 4)) (partDev (some true) 0 900000)).slu.parts.map fun p => p.res) = [2] := by decide +kernel

/-! Chapter 7. -/

/-- Point 0 built for the field cores and written, point 1 for the loop engine. -/
def loopPoints : Dev := after (.pointValueWrite 0x50000000 32 0x1000) (withItems 15 [.point 0 .q15 .cores 60000000, .point 1 .q15 (.block 6) 60000000] (fed 6 []))

/-- Slot 3 built, in a state, its process value on a point, its output on point 1; `fire` when due to fire. -/
def loopDev (st pv : Nat) (fire : Bool) : Dev :=
  let d := withRegs [(CTL.EN, 0, 1), (CTL.S_BUILT, 3, 1), (CTL.S_EN, 3, bit (st ≠ 0)), (CTL.S_DIV, 3, 2), (CTL.PV_SRC, 3, pv), (CTL.S_OUT_DST, 3, 1), (CTL.S_FE_LIMIT, 3, 100),
    (CTL.S_FE_ACTION, 3, 2), (CTL.S_TRIP_GROUP, 3, 4), (CTL.S_SAFE_VAL, 3, 500), (CTL.S_RAMP_STEP, 3, 10), (CTL.S_OUT_MAX, 3, 20000)] loopPoints
  d.setLp 3 { (default : LoopCh) with st := st, fire := fire, outPrev := 700 }

/-- Slot 3 with a following-error action. -/
def actionDev (k grp : Nat) : Dev := withRegs [(CTL.S_FE_ACTION, 3, k), (CTL.S_TRIP_GROUP, 3, grp)] (loopDev 1 0 true)

/-- A base tick's remains: slot 3 noted as it was before its run. -/
def ranDev : Dev := { loopDev 1 0 false with ctl := { (loopDev 1 0 false).ctl with before := [(3, ⟨default, [], 1, false⟩)] } }

theorem meets_LoopActions : (actionDev 0 4).rd CTL.S_FE_ACTION 3 = 0 ∧ (actionDev 1 4).rd CTL.S_FE_ACTION 3 = 1
    ∧ (actionDev 2 15).rd CTL.S_FE_ACTION 3 = 2 ∧ (actionDev 2 15).rd CTL.S_TRIP_GROUP 3 = 15 ∧ (actionDev 3 4).rd CTL.S_FE_ACTION 3 = 3
    ∧ ((actionDev 3 4).lp 3).st ≠ lpTripped ∧ (actionDev 2 4).flag CTL.S_BUILT 3 = true ∧ ((actionDev 2 4).lp 3).st = lpRun
    ∧ (found ranDev).live 6 ∧ ((found ranDev).ctl.before.map fun p => p.1).Nodup ∧ tget? 3 (found ranDev).ctl.before = some ⟨default, [], 1, false⟩
    ∧ (found (withRegs [(TMB.RUN, 0, 0)] (loopDev 1 0 false))).running = false ∧ (found (loopDev 1 0 false)).ctl.slots ≠ []
    ∧ (let d := loopDev 1 0 true; (d.setLp 3 { d.lp 3 with out := some (5, 1) }).lp 3 |>.out) = some (5, 1) := by unfold Dev.live; decide +kernel

theorem meets_LoopSlots : (found (loopDev 0 0 false)).live 6 ∧ (found (loopDev 0 0 false)).flag CTL.EN = true ∧ (found (loopDev 0 0 false)).flag CTL.S_BUILT 3 = true
    ∧ (found (loopDev 0 0 false)).flag CTL.S_EN 3 = false ∧ ((found (loopDev 1 0 false)).lp 3).st ≠ lpOff ∧ ((found (loopDev 1 0 false)).lp 3).st < lpHold
    ∧ lpHold ≤ ((found (loopDev 4 9 false)).lp 3).st ∧ (found (loopDev 4 9 false)).pointLost ((found (loopDev 4 9 false)).rd CTL.PV_SRC 3) = true
    ∧ (found (loopDev 4 0 false)).pointLost ((found (loopDev 4 0 false)).rd CTL.PV_SRC 3) = false ∧ (found (loopDev 1 0 false)).firing = []
    ∧ (found (loopDev 1 0 true)).firing = [3] ∧ (found (loopDev 1 0 true)).running = true ∧ ((loopDev 1 0 true).lp 3).st ≠ lpTripped
    ∧ (loopDev 1 0 true).rd CTL.S_FE_ACTION 3 = 2 ∧ (loopDev 1 0 true).rd CTL.S_TRIP_GROUP 3 ≠ 15
    ∧ ((loopDev 1 0 true).setLp 3 { (loopDev 1 0 true).lp 3 with out := some (5, 1) }).ctl.slots ≠ [] := by unfold Dev.live; decide +kernel

/-- R203: action 2 trips the group; R206: a slot disabled writes SAFE_VAL; R205: a resumed slot runs from its next run on. -/
theorem test_loop_states : ((after .feActionFire (loopDev 1 0 true)).lp 3).st = lpTripped
    ∧ ((after (.slotEnableWrite 3 false) (loopDev 1 0 false)).lp 3).out = some (500, stValid)
    ∧ (after .loopTick (after (.resume 3) (loopDev 3 0 false))).rd CTL.S_STATE 3 = 1 := by decide +kernel

/-- Table 7.4: a slot in RAMP moves its output toward SAFE_VAL by RAMP_STEP. -/
theorem test_ramp : ((after .loopTick (loopDev 3 0 false)).lp 3).out = some (690, stValid) := by decide +kernel

theorem meets_LoopComputation : 1 ≤ (loopDev 1 0 false).rd CTL.S_DIV 3 ∧ (loopDev 1 0 false).rd CTL.S_PHASE 3 < (loopDev 1 0 false).rd CTL.S_DIV 3
    ∧ (loopDev 1 0 false).rd CTL.S_OUT_RATE 3 = 0 ∧ (withRegs [(CTL.S_FE_LIMIT, 3, 0)] (loopDev 1 0 false)).rd CTL.S_FE_LIMIT 3 = 0 ∧ (-1073725440 : Int) ≤ 751404568
    ∧ (751404568 : Int) < 1073725440 ∧ (20 - 15 : Int).natAbs ≤ 5 ∧ (50 : Int).natAbs ≤ (loopDev 1 0 false).rd CTL.S_FE_LIMIT 3 ∧ (lpHold ≠ lpRun) ∧ (7 : Nat) ≤ 7
    ∧ targetRegion (fun r => 1000 * (r : Int)) 50 5020 4 = 4 ∧ targetRegion (fun r => 1000 * (r : Int)) 50 5050 4 = 5 := by decide +kernel

/-! Chapter 8. -/

/-- The fusion engine enabled with its program and camera 2, a frame captured at 10 ms, and a build running or not. -/
def fusDev (b : Option FusBuild) (ego : Nat) : Dev :=
  let d := withItems 11 [.headProgram 1] (fed 6 [(FUS.EN, 0, 1), (FUS.CAM_BUILT, 2, 1), (FUS.EGO_EN, 0, ego)])
  { d with fus := { d.fus with build := b, frames := [⟨2, 10000000, 0x80000000, 640, 400⟩] } }

theorem meets_FusionInstants : (found (fusDev none 1)).live 7 ∧ (found (fusDev none 1)).running = true
    ∧ (found (fusDev none 1)).fus.build = none ∧ (found (fusDev (some ⟨0, [], [], false, false, false, false⟩) 1)).fus.build ≠ none
    ∧ (let a := (found (fusDev none 1)); let n := Nat.max (nextInstant a.mt) (a.fus.last + 1)
       let w := (a.waitMt (fusInstant n)).boundary 7 0
       w.flag FUS.EN = true ∧ w.fusBuilt = true ∧ w.minCameras ≤ (w.presentFrames n).length)
    ∧ (let a := (found { fusDev none 1 with fus := (fed 6 []).fus }); let n := Nat.max (nextInstant a.mt) (a.fus.last + 1)
       let w := (a.waitMt (fusInstant n)).boundary 7 0
       (w.presentFrames n).length < w.minCameras)
    ∧ (found (fed 6 [])).flag FUS.EN = false
    ∧ (fusDev none 1).presentFrame 2 1 = some ⟨2, 10000000, 0x80000000, 640, 400⟩ ∧ (fusDev none 1).presentFrame 2 2 = none
    ∧ (fusDev none 1).fus.last < (fusDev none 1).frameOf 10000000 := by unfold Dev.live; decide +kernel

/-- A frame captured before the last closed window. -/
def lateFus : Dev := { fusDev none 1 with fus := { (fusDev none 1).fus with last := 9 } }

theorem meets_FusionInstants_late : (fusDev none 1).powered 7 = true ∧ (fusDev none 1).flag FUS.CAM_BUILT 2 = true ∧ (fusDev none 1).flag FUS.EN = true
    ∧ lateFus.frameOf 10000000 ≤ lateFus.fus.last ∧ lateFus.powered 7 = true ∧ lateFus.flag FUS.CAM_BUILT 2 = true ∧ lateFus.flag FUS.EN = true
    ∧ nextInstant 33333333 > 1 ∧ 5 < nextInstant 200000000
    ∧ (let a := found (withRegs [(FUS.EN, 0, 1), (FUS.MIN_CAMERAS, 0, 1)] (withItems 11 [.headProgram 1] (fed 6 [(FUS.CAM_BUILT, 2, 1)])))
       let n := Nat.max (nextInstant a.mt) (a.fus.last + 1)
       let w := (a.waitMt (fusInstant n)).boundary 7 0
       w.flag FUS.EN = true ∧ w.fusBuilt = true ∧ a.fus.build = none ∧ (w.presentFrames n).length < w.minCameras) := by decide +kernel

theorem meets_FramePublication : (found (fusDev none 1)).live 7 ∧ (found (fusDev (some ⟨0, [], [], false, false, false, false⟩) 1)).fus.build
      = some ⟨0, [], [], false, false, false, false⟩ ∧ (fusDev none 0).flag FUS.EGO_EN = false ∧ (fusDev none 1).flag FUS.EGO_EN = true ∧ (fusDev none 1).fus.ref = none
    ∧ (fusDev none 1).rd FUS.BAND_REDUCE 0 ≠ 3 ∧ (fusDev none 1).rd FUS.CAM_TAP_KIND 2 = 0 := by unfold Dev.live; decide +kernel

set_option maxRecDepth 100000 in
theorem meets_GridAndEgoArithmetic : (-32768 : Int) ≤ ([7, 8] : List Int).getD 1 0 ∧ ([7, 8] : List Int).getD 1 0 ≤ 32767
    ∧ (∀ p ∈ [(⟨5, [1], 3, 4, 0, 255⟩ : PtPart)], 300 / 256 < p.row0) ∧ (0 : Nat) < 49 * 17
    ∧ (egoFrom [] 40000000 0 0).cause = 1 ∧ (egoFrom (List.replicate 416 0 ++ [1000]) 40000000 0 0).cause = 0 := by decide +kernel

/-- R220, R221: a table entry's weight 0 leaves the accumulator; the weighted sample is added, then points whose footprint holds the cell. -/
theorem test_accumulate : accCell [7] [⟨1, [64], [0x80000000], [64]⟩] [⟨16384, [100], 0, 0, 0, 0⟩] 0 0 = (7 + 64 + 50, false)
    ∧ accCell [7] [⟨1, [64], [0x00000000], [64]⟩] [] 0 0 = (7, false) := by decide +kernel

/-- R214: instants lie a thirtieth of a second apart. -/
theorem test_instants : (fusInstant 1, fusInstant 3, nextInstant 0, nextInstant 33333333) = (33333333, 100000000, 1, 2) := by decide +kernel

/-! Chapter 9. -/

/-- Camera 5 (port 1, virtual channel 1), 4 by 2 pixels, enabled, with or without an open frame. -/
def ispDev (f : Option IspFrame) (last : Option Nat) : Dev :=
  let d := fed 6 [(ISP.EN, 0, 1), (ISP.C_EN, 5, 1), (ISP.C_BUILT, 5, 1), (ISP.C_WIDTH, 5, 4), (ISP.C_HEIGHT, 5, 2), (ISP.C_FPS_MAX, 5, 30), (ISP.P_LINK_UP, 1, 1)]
  d.setCam 5 { (default : IspCam) with frame := f, lastFs := last }

/-- An open frame at the second frame buffer with some lines. -/
def ispFrame (l : List (Option (List Nat))) : IspFrame := { (default : IspFrame) with no := 9, lines := l, addr := 0x80001000, set := { (default : CamSet) with w := 4, h := 2 } }

theorem meets_CameraFrames : (found (ispDev none none)).live 8 ∧ 4 * 1 + 1 = 5 ∧ (found (ispDev none none)).flag ISP.EN = true
    ∧ (found (ispDev none none)).flag ISP.C_EN 5 = true ∧ (found (ispDev none none)).flag ISP.C_BUILT 5 = true
    ∧ (found (ispDev none (some 0))).tooFast 5 = true ∧ (found (ispDev none none)).tooFast 5 = false ∧ ((found (ispDev none none)).cam 5).frame = none
    ∧ ((found (ispDev (some (ispFrame [])) none)).cam 5).frame = some (ispFrame []) ∧ (found (ispDev none none)).typeOk 5 (0x2B + (ispDev none none).rd ISP.C_DT 5) = true
    ∧ ((found (ispDev (some (ispFrame [])) none)).cam 5).discarding = false ∧ (ispFrame []).lines.length < (ispFrame []).set.h
    ∧ (ispFrame [none, none]).set.h ≤ (ispFrame [none, none]).lines.length ∧ (ispFrame [none]).missing = false
    ∧ (found (fed 6 [])).flag ISP.C_EN 5 = false ∧ (found (ispDev none none)).flag ISP.P_LINK_UP 1 = true ∧ (found (fed 6 [])).flag ISP.P_LINK_UP 1 = false
    ∧ (ispFrame []).set.w = [1, 2, 3, 4].length ∧ (ispFrame []).tap = none := by unfold Dev.live; decide +kernel

/-- The same camera with its line store full, its lines of a rejected frame discarded, and a packet of its port seen before. -/
def ispBusy : Dev :=
  let d := ispDev (some { ispFrame [] with tap := some (0x90000000, 3) }) none
  { d with isp := { d.isp with stores := [(1, List.replicate 16 (5, 100000))], packetAt := [(1, 0)] } }

theorem meets_CameraFrames_lines : (let b := found ispBusy
      let q := ((b.packet 1 100 (4 * (10 + 2 * b.rd ISP.C_DT 5))).headerEcc 1 1).ispDrain
      16 ≤ linesOf 5 (tget 1 q.isp.stores) ∧ tget? 1 b.isp.packetAt = some 0)
    ∧ (let b := found (ispDev (some (ispFrame [])) none)
      let q := ((b.packet 1 0 (4 * (10 + 2 * b.rd ISP.C_DT 5))).headerEcc 1 0).ispDrain
      linesOf 5 (tget 1 q.isp.stores) < 16)
    ∧ ((found ispBusy).cam 5).frame = some { ispFrame [] with tap := some (0x90000000, 3) }
    ∧ ((found ((ispDev none none).setCam 5 { (default : IspCam) with discarding := true })).cam 5).discarding = true := by decide +kernel

/-- R239: a line that finds the store full is lost and marks the frame; R236: Line Start and Line End do nothing. -/
theorem test_line_store : (after (.lineMsg 1 1 0x2B 1 100 true [1, 2, 3, 4]) ispBusy).rd ISP.C_OVERFLOW 5 = 1
    ∧ (after (.lineMsg 1 1 0x02 0 0 true []) (ispDev (some (ispFrame [])) none)).rd ISP.P_DISCARDED 1 = 0 := by decide +kernel

/-- R241, R242: the first Frame Start of a camera is frame 1; a packet of virtual channel 7 is discarded and counted (R236). -/
theorem test_frame_start : (after (.frameStart 1 1 ⟨77, 0⟩) (ispDev none none)).rd ISP.C_FRAME_NO 5 = 1 ∧ (after (.frameStart 1 1 ⟨77, 0⟩) (ispDev none none)).rd ISP.C_SENSOR_FN 5 = 77
    ∧ (after (.frameStart 1 7 ⟨77, 0⟩) (ispDev none none)).rd ISP.P_DISCARDED 1 = 1 := by decide +kernel

/-- Table 9.2: a line beyond the height marks the frame LONG, a short one is replaced; a Frame End too early leaves it INCOMPLETE. -/
theorem test_lines : ((after (.lineMsg 1 1 0x2B 0 0 true [1, 2, 3, 4]) (ispDev (some (ispFrame [none, none])) none)).cam 5).frame.map (fun f => f.long) = some true
    ∧ ((after (.lineMsg 1 1 0x2B 0 0 true [1, 2]) (ispDev (some (ispFrame [])) none)).cam 5).frame.map (fun f => f.lines) = some [none]
    ∧ (after (.frameEnd 1 1 0) (ispDev (some (ispFrame [none])) none)).rd ISP.C_INCOMPLETE 5 = 1 := by decide +kernel

/-- Port 1 with its link up or down since an instant, powered or not, frame sync on, an I2C transfer running or not. -/
def portDev (up poc i2c : Nat) (down : List (Nat × Nat)) : Dev :=
  let d := fed 6 [(ISP.P_LINK_UP, 1, up), (ISP.P_POC_EN, 1, poc), (ISP.P_I2C_STATE, 1, i2c), (ISP.P_FSYNC_EN, 1, 1), (ISP.P_FSYNC_OFS_US, 1, 33333)]
  { d with isp := { d.isp with downAt := down } }

theorem meets_CameraPorts : (found (portDev 1 1 0 [])).live 8 ∧ (found (portDev 1 1 0 [])).flag ISP.P_LINK_UP 1 = true
    ∧ (∀ c ∈ portCams 1, ((found (portDev 1 1 0 [])).cam c).frame = none) ∧ (found (portDev 0 1 0 [(1, 0)])).flag ISP.P_LINK_UP 1 = false
    ∧ tget? 1 (found (portDev 0 1 0 [(1, 0)])).isp.downAt = some 0 ∧ (found (portDev 1 1 0 [])).flag ISP.P_POC_EN 1 = true
    ∧ (found (portDev 1 1 0 [])).flag ISP.P_POC_TRIP 1 = false ∧ (found (portDev 1 0 0 [])).flag ISP.P_POC_EN 1 = false
    ∧ (found (portDev 1 1 0 [])).running = true ∧ (found (portDev 1 1 0 [])).flag ISP.P_FSYNC_EN 1 = true
    ∧ (found (portDev 1 1 0 [])).rd ISP.P_FSYNC_OFS_US 1 ≤ 33333 ∧ (found (portDev 1 1 0 [])).rd ISP.P_I2C_STATE 1 ≠ 1
    ∧ (found (portDev 1 1 1 [])).rd ISP.P_I2C_STATE 1 = 1 := by unfold Dev.live; decide +kernel

theorem meets_ImageProcessing : (1 : Nat) < 5 ∧ 1 < 2 ∧ 1 + 2 < 5 ∧ 5 ≤ 3 + 2 ∧ shadeAxis 1280 1279 = (15, 4096) ∧ (fed 6 [(ISP.C_TAP_POINT, 0, 6)]).rd ISP.C_TAP_POINT ≥ 5
    ∧ (fed 6 [(ISP.C_TAP_POINT, 0, 2), (ISP.C_TAP_MAX, 0, 3)]).tapPoint 0 = 2 ∧ midMean 10 40 20 31 = 26 := by decide +kernel

/-- R246, R245: a hot pixel is replaced by the mean of the middle two of its four nearest of the same colour. -/
theorem test_defect : Plane.at (stage3 { (default : CamSet) with w := 5, h := 5, dynEn := true, hi := 100, lo := 100 }
    [[8, 0, 8, 0, 8], [0, 0, 0, 0, 0], [10, 0, 900, 0, 20], [0, 0, 0, 0, 0], [8, 0, 8, 0, 8]]) 2 2 = 9 := by decide +kernel

/-! Chapter 10. -/

/-- A GPS L1 signal of a satellite at ANT0, good enough for the solution. -/
def gpsSig (sat : Nat) : GnssSig := ⟨1, sat, 0, 45, 160, true, true, true, false, false, 0, 0, 0, 0⟩

/-- A solution at the origin. -/
def gnssSol : GnssSol := ⟨0, 0, 0, 0, 0, 0, 0, 0, 0, 0, 0, 0, 0, 0, 0, 0, 0, 0, 0, 0⟩

/-- The baseband enabled, with a fix or not, the position source and the epochs that await an external solution. -/
def gnsDev (fix src : Nat) (l : List GnsFix) : Dev :=
  let d := fed 6 [(GNS.EN, 0, 1), (GNS.FIX, 0, fix), (GNS.TIME_VALID, 0, bit (0 < fix)), (GNS.POS_SRC, 0, src), (GNS.EXT_SEQ, 0, 7)]
  { d with gns := { d.gns with awaiting := l, last := l.getLast? } }

/-- An epoch with sequence number 7. -/
def gnsFix7 : GnsFix := ⟨7, 0, 0, 0, 1, 4, false, 0, gnssSol, 0⟩

theorem meets_GnssEpochs : (found (gnsDev 1 1 [])).live 9 ∧ ((found (gnsDev 1 1 [])).boundary 9 0).flag GNS.EN = true ∧ (found (gnsDev 1 1 [])).running = true
    ∧ ((found (fed 6 [(GNS.EN, 0, 0)])).boundary 9 0).flag GNS.EN = false ∧ (found (gnsDev 1 1 [])).rd GNS.FIX = 1 ∧ (found (gnsDev 0 1 [])).rd GNS.FIX = 0
    ∧ fixOf ((allocate [] none ([1, 2, 3, 4].map gpsSig) false).1.filter (found (gnsDev 0 1 [])).sigEnters) = 1
    ∧ fixOf ((allocate [] none ([1, 2, 3].map gpsSig) false).1.filter (found (gnsDev 0 1 [])).sigEnters) = 0
    ∧ (found (gnsDev 1 1 [])).flag GNS.POS_SRC = true ∧ ((found (gnsDev 1 1 [])).boundary 9 0).flag GNS.POS_SRC = true
    ∧ (found (gnsDev 1 1 [gnsFix7])).gns.awaiting.getLast? = some gnsFix7 ∧ (found (gnsDev 1 1 [gnsFix7])).gns.last = some gnsFix7
    ∧ gnsFix7.seq = (found (gnsDev 1 1 [gnsFix7])).rd GNS.EXT_SEQ ∧ (found (gnsDev 1 1 [gnsFix7])).mt ≤ gnsFix7.mt + (found (gnsDev 1 1 [gnsFix7])).extTmo
    ∧ (found (gnsDev 1 1 [])).gns.awaiting = [] ∧ ({ gnsFix7 with seq := 6 } : GnsFix).seq ≠ (found (gnsDev 1 1 [])).rd GNS.EXT_SEQ
    ∧ (found (gnsDev 1 0 [])).flag GNS.POS_SRC = false ∧ (found (withRegs [(TMB.RUN, 0, 0)] (gnsDev 1 1 []))).running = false
    ∧ (found (gnsDev 1 1 [gnsFix7])).gns.awaiting = gnsFix7 :: [] ∧ (found (gnsDev 1 1 [])).gns.last = none
    ∧ gnsFix7.clock % (found (gnsDev 1 1 [gnsFix7])).epochPeriod = 0 ∧ (found (withRegs [(GNS.EXT_FALLBACK, 0, 1)] (gnsDev 1 1 [gnsFix7]))).flag GNS.EXT_FALLBACK = true
    ∧ (found (gnsDev 1 1 [])).flag GNS.EXT_FALLBACK = false
    ∧ (let l := [1, 2, 3].map gpsSig; (gpsSig 1).category l < 3 ∧ (gpsSig 1) ∈ l) := by
  unfold Dev.live; decide +kernel

/-- R266: one constellation needs four satellites, two need five; with an L1 and L5 pair on each FIX is 2. -/
theorem test_fix : fixOf ([1, 2, 3, 4].map gpsSig) = 1 ∧ fixOf ([1, 2, 3].map gpsSig) = 0
    ∧ fixOf ([1, 2, 3].map gpsSig ++ [{ gpsSig 1 with sig := 3 }]) = 0
    ∧ fixOf ([1, 2, 3, 4].map gpsSig ++ [1, 2, 3, 4].map fun k => { gpsSig k with sig := 5 }) = 2 := by decide +kernel

/-- The pulse side: an edge published, a gap, antenna states and a hot-start store. -/
def ppsDev (edge : Option (Nat × Int × Nat)) (gap : Bool) (mode valid ant : Nat) : Dev :=
  let d := fed 6 [(GNS.EN, 0, 1), (GNS.FIX, 0, valid), (GNS.TIME_VALID, 0, valid), (GNS.PPS_MODE, 0, mode), (GNS.ANT1_BIAS, 0, 2), (GNS.ANT1_STATE, 0, ant)]
  { d with gns := { d.gns with edge := edge, gap := gap, lastPin := some 0, shortAt := [(1, 0)], fixPos := some (1, 2) } }

theorem meets_PpsAndAntennas : (found (ppsDev none false 1 1 0)).live 9 ∧ (found (ppsDev none false 1 1 0)).flag GNS.EN = true
    ∧ (found (ppsDev none false 1 1 0)).flag GNS.TIME_VALID = true ∧ (found (ppsDev none false 1 1 0)).gns.edge = none
    ∧ (found (ppsDev (some (5, -3, 1000)) false 1 1 0)).gns.edge = some (5, -3, 1000) ∧ (found (ppsDev none true 2 0 0)).flag GNS.TIME_VALID = false
    ∧ (found (ppsDev none true 2 0 0)).rd GNS.PPS_MODE = 2 ∧ (found (ppsDev none true 2 0 0)).gns.gap = true ∧ (found (ppsDev none true 2 0 0)).gns.lastPin = some 0
    ∧ (found (ppsDev none false 0 1 0)).rd GNS.PPS_MODE = 0 ∧ (found (ppsDev none false 1 1 0)).biasOn 1 = true ∧ (found (ppsDev none false 1 1 0)).rd (antState 1) = 0
    ∧ (found (ppsDev none false 1 1 1)).rd (antState 1) = 1 ∧ tget? 1 (found (ppsDev none false 1 1 2)).gns.shortAt = some 0
    ∧ (found (ppsDev none false 1 0 0)).rd GNS.FIX = 0 ∧ (found (ppsDev none false 1 1 0)).rd GNS.FIX ≠ 0 ∧ (found (ppsDev none false 1 1 0)).gns.fixPos = some (1, 2)
    ∧ (ppsDev none false 1 1 0).gns.store = none
    ∧ (found (ppsDev none false 1 1 0)).mt + 100 * ms ≤ 200000000 ∧ (found (ppsDev none false 1 1 0)).gns.gap = false := by unfold Dev.live; decide +kernel

/-- A store with fresh ephemerides and the RTC valid (Table 10.4). -/
def hotDev : Dev :=
  let d := withRegs [(SYS.RTC_VALID, 0, 1)] (ppsDev none false 1 1 0)
  { d with gns := { d.gns with store := some ⟨[1, 2, 3, 4, 5].map fun k => (k, 0), 0, 0, 0, 0, 0, true⟩ } }

theorem meets_starts : hotDev.startType = 1 ∧ (withRegs [(SYS.RTC_VALID, 0, 0)] hotDev).flag SYS.RTC_VALID = false
    ∧ ({ hotDev with gns := { hotDev.gns with store := some ⟨[], 0, 0, 0, 0, 0, false⟩ } } : Dev).startType = 3 := by decide +kernel

/-- R263: 130 L1 signals, of which two find no channel, and no ANT1 signal takes one then. -/
theorem meets_allocate : (let l := (List.range 130).map gpsSig
    (gpsSig 129).category l < 2 ∧ gpsSig 129 ∉ (allocate [] none l true).1 ∧ (allocate [] none l true).1.length = 128) := by decide +kernel

/-! Chapter 11. -/

/-- Load switch 5 with registers and hidden state of its own; the input stands at 13.5 V. -/
def lswDev (l : List (Fld × Nat)) (c : LsCh) : Dev :=
  let d := fed 6 ([(LSW.CH_BUILT, 5, 1), (LSW.CH_TJ, 5, 300), (SYS.VPWRA, 0, 1350), (LSW.GATE_LO, 0, 32)] ++ l.map fun e => (e.1, 5, e.2))
  d.setLs 5 c

/-- Commanded on and conducting. -/
def lswOn (c : LsCh) : Dev := lswDev [(LSW.CH_CMD, 1), (LSW.CH_STATE, 2), (LSW.CH_SHED_PRIO, 3), (LSW.CH_LAMP_RETRIES, 4)] c

/-- The same above 40 V. -/
def lswHigh : Dev := withRegs [(SYS.VPWRA, 0, 4100)] (lswOn default)

theorem meets_LoadSwitchProtection : (found (lswDev [] default)).live 10 ∧ (found (lswDev [] default)).flag LSW.CH_BUILT 5 = true
    ∧ (found (lswDev [] default)).flag LSW.CH_CMD 5 = false ∧ (found (lswDev [] default)).rd LSW.CH_CAUSE 5 = 0 ∧ ((found (lswDev [] default)).ls 5).cooling = false
    ∧ (found (lswDev [] default)).flag LSW.CH_GATED 5 = false ∧ (found (lswDev [] default)).rd LSW.CH_STATE 5 = 0
    ∧ (found (lswDev [(LSW.CH_CMD, 1), (LSW.CH_CAUSE, 4)] { (default : LsCh) with t1 := 2 ^ 24, t2 := 2 ^ 24 })).lsHas 5 csFuse = true
    ∧ 2 ^ 23 ≤ ({ (default : LsCh) with t1 := 2 ^ 24, t2 := 2 ^ 24 } : LsCh).h
    ∧ (found (lswDev [(LSW.CH_CMD, 1), (LSW.CH_CAUSE, 1), (LSW.CH_STATE, 5)] default)).rd LSW.CH_CAUSE 5 = 2 ^ csShort
    ∧ (found (lswDev [(LSW.CH_STATE, 1)] default)).rd LSW.CH_STATE 5 = lsSlew ∧ (found (lswOn default)).lsConducts 5 = true
    ∧ ((found (lswOn default)).ls 5).deferred = 0 ∧ (found (lswOn default)).lsOver40 5 = false ∧ (found lswHigh).lsOver40 5 = true ∧ (found lswHigh).lsConducts 5 = true
    ∧ ((found (lswDev [] { (default : LsCh) with deferred := 1 })).ls 5).deferred = 1 ∧ (found (lswOn default)).lsInWindow 5 = false
    ∧ (found (lswOn { (default : LsCh) with winEnd := some 60000000 })).lsInWindow 5 = true
    ∧ (found (lswOn { (default : LsCh) with winEnd := some 60000000 })).lsSympathetic 5 = false
    ∧ (found (lswOn { (default : LsCh) with winEnd := some 60000000 })).lsTooLate 5 = false
    ∧ (found (lswOn { (default : LsCh) with winEnd := some 60000000 })).rd LSW.CH_RETRIES_USED 5
      < Nat.min 24 ((found (lswOn { (default : LsCh) with winEnd := some 60000000 })).rd LSW.CH_LAMP_RETRIES 5)
    ∧ (found (lswOn { (default : LsCh) with winEnd := some 100 })).lsTooLate 5 = true
    ∧ (found (lswDev [(LSW.CH_STATE, 3)] { (default : LsCh) with retryAt := some 1000000 })).rd LSW.CH_STATE 5 = lsRetry
    ∧ (found (lswOn default)).lsHas 5 csThermal = false ∧ (found (lswDev [(LSW.CH_CAUSE, 8)] default)).lsHas 5 csThermal = true := by
  unfold Dev.live; decide +kernel

/-- R283: at IREF both stores move toward 1.0; x of IREF is 1.0. R280: a switch-on slews; R290: outside a window a trip is SHORT and latches. -/
theorem test_lsw : wireX (6000 * 6000) 6000 = 2 ^ 24 ∧ (after (.switchCommand 5 true) (lswDev [] default)).rd LSW.CH_STATE 5 = lsSlew
    ∧ (after (.instantaneousTrip 5) (lswOn default)).rd LSW.CH_STATE 5 = lsLatched
    ∧ (after (.instantaneousTrip 5) (lswOn { (default : LsCh) with winEnd := some 60000000 })).rd LSW.CH_STATE 5 = lsRetry
    ∧ (after (.switchCommand 5 false) lswHigh).rd LSW.CH_STATE 5 = lsOn := by decide +kernel

/-- The governor past a limit, or under all of them with channel 5 shed. -/
def govDev (past : List (Nat × Nat)) (under : Option Nat) (shed : List Nat) (l : List (Fld × Nat)) : Dev :=
  let d := withRegs (l.map fun e => (e.1, 5, e.2)) (lswOn default)
  { d with lsw := { d.lsw with past := past, underSince := under, shed := shed } }

theorem meets_LoadSwitchGovernor : (found (lswOn default)).live 10 ∧ (found (lswOn default)).lsHas 5 csClamp = false
    ∧ (found (lswOn default)).clampLimits 5 = (600, 1000) ∧ ((found (lswOn default)).boundary 10 0).flag LSW.CH_BUILT 5 = true
    ∧ (found (lswDev [(LSW.CH_CAUSE, 16)] default)).lsHas 5 csClamp = true ∧ tget? 0 (found (govDev [(0, 0)] none [] [])).lsw.past = some 0
    ∧ (found (govDev [(0, 0)] none [] [])).pickShed ((found (govDev [(0, 0)] none [] [])).shedCandidates 0) = some 5
    ∧ (found (govDev [(0, 0)] none [] [(LSW.CH_SHED_PRIO, 0)])).pickShed ((found (govDev [(0, 0)] none [] [(LSW.CH_SHED_PRIO, 0)])).shedCandidates 0) = none
    ∧ (found (govDev [] (some 0) [5] [(LSW.CH_CAUSE, 64)])).lsw.underSince = some 0 ∧ (found (govDev [] (some 0) [5] [(LSW.CH_CAUSE, 64)])).lsw.shed = [5]
    ∧ (found (govDev [] (some 0) [5] [(LSW.CH_CAUSE, 64)])).govFits 5 0 = true ∧ (found (govDev [] (some 0) [5] [(LSW.CH_CAUSE, 64)])).govFits 5 9001 = false
    ∧ (found (lswOn default)).flag LSW.CH_OPEN_LOAD 5 = false ∧ (found (lswOn default)).rd LSW.CH_STATE 5 = lsOn
    ∧ (found (lswDev [(LSW.CH_OPEN_LOAD, 1), (LSW.CH_SHORT_TO_BAT, 1)] default)).flag LSW.CH_OPEN_LOAD 5 = true
    ∧ (found (lswDev [(LSW.CH_OPEN_LOAD, 1), (LSW.CH_SHORT_TO_BAT, 1)] default)).flag LSW.CH_SHORT_TO_BAT 5 = true
    ∧ (found (lswDev [] default)).rd LSW.CH_STATE 5 = lsOff
    ∧ (found lswHigh).lsOver40 5 = true ∧ (found (lswOn default)).lsOver40 5 = false ∧ ((found lswHigh).ls 5).deferred ≠ 3
    ∧ (found { lswHigh with lsw := { lswHigh.lsw with past := [(0, 0)] } }).pickShed ((found { lswHigh with lsw := { lswHigh.lsw with past := [(0, 0)] } }).shedCandidates 0) = some 5
    ∧ tget? 0 (found (lswOn default)).lsw.past = none ∧ (found (govDev [(0, 0)] none [] [])).rd LSW.CH_CAUSE 5 = 0
    ∧ (found (govDev [] (some 0) [5] [(LSW.CH_CAUSE, 64)])).lsHas 5 csShed = true
    ∧ (let d := govDev [(0, 0)] none [] [(LSW.CH_SHED_PRIO, 0)]; 0 ∈ (found { d with lsw := { d.lsw with overRaised := [0] } }).lsw.overRaised)
    ∧ (found (govDev [] none [] [])).lsPower ≤ 1800000000
    ∧ 2000000000 < (found (govDev [] none [] [(LSW.CH_I_MEAS, 2000), (LSW.CH_RON, 900)])).lsPower := by unfold Dev.live; decide +kernel

/-- R299: the conditions of the diagnostics, and a mended open load. -/
theorem meets_Diagnostics : 10 * (found (lswDev [(LSW.CH_STATE, 2), (LSW.CH_OL_ON_MA, 100)] default)).rd LSW.CH_I_MEAS 5
      < (found (lswDev [(LSW.CH_STATE, 2), (LSW.CH_OL_ON_MA, 100)] default)).rd LSW.CH_OL_ON_MA 5
    ∧ (found (lswDev [(LSW.CH_OFF_DIAG, 1)] default)).flag LSW.CH_OFF_DIAG 5 = true
    ∧ (let b := found (lswDev [(LSW.CH_OPEN_LOAD, 1), (LSW.CH_I_MEAS, 50), (LSW.CH_OL_ON_MA, 100)] default)
       b.flag LSW.CH_OPEN_LOAD 5 = true ∧ b.rd LSW.CH_OL_ON_MA 5 < 10 * b.rd LSW.CH_I_MEAS 5)
    ∧ (found (lswDev [] default)).flag LSW.CH_SHORT_TO_BAT 5 = false ∧ (found (lswDev [] default)).flag LSW.CH_OPEN_LOAD 5 = false := by decide +kernel

/-- R291: another channel of the input tripped 150 µs ago. -/
def sympDev : Dev := { (lswOn { (default : LsCh) with winEnd := some 60000000 }).setLs 6 { (default : LsCh) with tripAt := some 50000 } with now := 200000 }

theorem meets_Inrush : (found sympDev).lsSympathetic 5 = true ∧ (found sympDev).lsTooLate 5 = false ∧ (found sympDev).lsInWindow 5 = true
    ∧ (found sympDev).lsConducts 5 = true ∧ (found sympDev).flag LSW.CH_GATED 5 = false
    ∧ (let b := found (lswDev [(LSW.CH_CMD, 1), (LSW.CH_STATE, 3)] { (default : LsCh) with retryAt := some 1000000, winEnd := some 60000000 })
       b.rd LSW.CH_STATE 5 = lsRetry ∧ (b.ls 5).retryAt = some 1000000 ∧ (b.waitUntil 1000000).lsInWindow 5 = true)
    ∧ (let b := found (lswDev [(LSW.CH_CMD, 1), (LSW.CH_STATE, 3)] { (default : LsCh) with retryAt := some 1000000 })
       (b.waitUntil 1000000).lsInWindow 5 = false)
    ∧ ((found (lswDev [(LSW.CH_CAUSE, 8)] default)).ls 5).thermLatched = false ∧ (found (lswDev [] default)).lsInrush 5 = 0
    ∧ (found (lswDev [(LSW.CH_INRUSH_MODE, 1)] default)).lsInrush 5 ≠ 0
    ∧ (0 : Nat) < 6000 ∧ (6000 * 6000 : Nat) ≤ 6000 * 6000 ∧ ({ (default : LsCh) with t1 := 2 ^ 24, t2 := 2 ^ 24 } : LsCh).h ≥ 2 ^ 24
    ∧ (default : LsCh).t1 < 2 ^ 24 := by decide +kernel

/-- R294: the shed channel keeps its command; R297: an undervoltage switches every channel of the input off. -/
theorem test_governor : (after (.loadShed 0) (govDev [(0, 0)] none [] [])).rd LSW.CH_STATE 5 = lsShed
    ∧ (after (.loadShed 0) (govDev [(0, 0)] none [] [])).rd LSW.CH_CMD 5 = 1
    ∧ (after (.inputUndervolt 0) (lswOn default)).rd LSW.CH_STATE 5 = lsUnder := by decide +kernel

/-! Chapter 12. -/

/-- Valve 2 in a state, with registers and hidden state; slot 1 has one open-ended PWM phase. -/
def vdrDev (st : Nat) (l : List (Fld × Nat)) (c : VdCh) : Dev :=
  let d := fed 6 ([(VDR.EN, 0, 1), (VDR.CH_BUILT, 2, 1), (VDR.CH_STATE, 2, st), (VDR.GATE, 0, 4), (VDR.PS_KIND, 1, 2), (VDR.PS_SRC, 1, 1), (VDR.PS_ITGT_MA, 1, 1300)]
    ++ l.map fun e => (e.1, 2, e.2))
  d.setVd 2 c

/-- A running channel in phase 0 of a list. -/
def vdRuns (l : List VdPhase) : VdCh := { (default : VdCh) with running := true, phases := l }

/-- A RISE phase to 4 A and a PWM phase at 1.3 A. -/
def risePhase : VdPhase := ⟨1, 0, 0, false, false, 4000, 10, 0⟩
def pwmPhase : VdPhase := ⟨1, 2, 0, false, false, 1300, 10, 0⟩

theorem meets_ValveRuns : (found (vdrDev 0 [] default)).live 11 ∧ (found (vdrDev 0 [] default)).flag VDR.CH_BUILT 2 = true
    ∧ (found (vdrDev 1 [(VDR.CH_RUN_SLOT, 1)] default)).rd VDR.CH_STATE 2 = vdStRun ∧ (found (vdrDev 1 [(VDR.CH_RUN_SLOT, 1)] default)).rd VDR.CH_RUN_SLOT 2 = 1
    ∧ (found (vdrDev 0 [] default)).flag VDR.EN = true ∧ (found (vdrDev 0 [] default)).vdStartRefused 2 1 = false
    ∧ (found (withRegs [(VDR.EN, 0, 0)] (vdrDev 0 [] default))).vdStartRefused 2 1 = true
    ∧ (found (vdrDev 0 [] default)).rd VDR.CH_STATE 2 = vdStIdle ∧ (found (vdrDev 0 [] default)).flag VDR.CH_GATED 2 = false
    ∧ ((found (vdrDev 0 [] default)).vd 2).running = false ∧ ((found (vdrDev 0 [] default)).vd 2).closing = false ∧ (found (vdrDev 0 [] default)).wait = []
    ∧ (found (vdrDev 4 [(VDR.CH_GATED, 1)] default)).flag VDR.CH_GATED 2 = true ∧ ((found (vdrDev 1 [] (vdRuns [risePhase, pwmPhase]))).vdPhase 2) = risePhase
    ∧ ((found (vdrDev 1 [] (vdRuns [risePhase, pwmPhase]))).vd 2).phases.length = 2 ∧ (found (vdrDev 1 [] (vdRuns [pwmPhase]))).vdPhase 2 = pwmPhase
    ∧ ((found (vdrDev 1 [] { vdRuns [pwmPhase] with starveFrom := some 0 })).vd 2).starveFrom = some 0
    ∧ ((found (vdrDev 2 [] { (default : VdCh) with closing := true })).vd 2).closing = true
    ∧ ((found (vdrDev 0 [] default)).rd VDR.CH_CAUSE 2).testBit 3 = false := by unfold Dev.live; decide +kernel

/-- R310, R308: a START runs phase 0; the target current ends a RISE phase; an overcurrent latches. -/
theorem test_valve : (after (.startCmd 2 1) (vdrDev 0 [] default)).rd VDR.CH_STATE 2 = vdStRun
    ∧ (after (.phaseEnd 2 4 4000 4000 0) (vdrDev 1 [] (vdRuns [risePhase, pwmPhase]))).rd VDR.CH_PHASE 2 = 1
    ∧ (after (.valveOvercurrent 2) (vdrDev 1 [] (vdRuns [pwmPhase]))).rd VDR.CH_STATE 2 = vdStLatched := by decide +kernel

/-- A FREEWHEEL phase with a time limit, and a PWM phase whose target is on demand. -/
def timedPhase : VdPhase := ⟨1, 1, 0, false, false, 0, 10, 500⟩
def demandPhase : VdPhase := ⟨1, 2, 0, true, false, 0, 10, 0⟩

/-- Valve 2 runs on the battery and is refused its source; valve 3 of its bank takes the boost or stands idle. -/
def starved (other : Bool) : Dev :=
  let d := withRegs [(VDR.CH_BUILT, 3, 1), (VDR.CH_STATE, 3, bit other)] (vdrDev 1 [(VDR.CH_DUTY, 4000)] { vdRuns [pwmPhase] with starveFrom := some 0 })
  if other then d.setVd 3 (vdRuns [{ risePhase with src := 2 }]) else d

theorem meets_ValvePhases : ((found (vdrDev 1 [] (vdRuns [timedPhase]))).vdPhase 2).limit = some 500 ∧ ((found (vdrDev 1 [] (vdRuns [timedPhase]))).vdPhase 2).kind ≠ 3
    ∧ endsOnCurrent timedPhase 700 = false ∧ timedPhase.ttp = false ∧ ((found (vdrDev 1 [] (vdRuns [pwmPhase]))).vdPhase 2).limit = none
    ∧ ((found (vdrDev 1 [] (vdRuns [timedPhase]))).vd 2).phases.length ≤ (found (vdrDev 1 [] (vdRuns [timedPhase]))).rd VDR.CH_PHASE 2 + 1
    ∧ ((found (vdrDev 1 [] (vdRuns [timedPhase]))).vd 2).safeRun = false
    ∧ (let b := found (vdrDev 1 [] (vdRuns [risePhase, pwmPhase])); b.rd VDR.CH_PHASE 2 + 1 < (b.vd 2).phases.length ∧ b.rd VDR.CH_PHASE 2 < 7)
    ∧ (found (vdrDev 1 [] (vdRuns [risePhase, pwmPhase]))).vdEnds 2 4 4000 = true ∧ (found (vdrDev 1 [] (vdRuns [{ risePhase with tph := 1 }]))).vdEnds 2 5 4000 = false
    ∧ risePhase.itgt ≤ 4000 ∧ risePhase.kind = 0 ∧ risePhase.ttp = false
    ∧ ((found (vdrDev 1 [] (vdRuns [demandPhase]))).vdPhase 2).demand = true ∧ ((found (vdrDev 1 [] (vdRuns [demandPhase]))).vdPhase 2).kind = 2
    ∧ (found (vdrDev 1 [(VDR.CH_DEMAND_PT, 9)] (vdRuns [demandPhase]))).pointLost ((found (vdrDev 1 [(VDR.CH_DEMAND_PT, 9)] (vdRuns [demandPhase]))).rd VDR.CH_DEMAND_PT 2) = true
    ∧ loopPoints.pointLost 0 = false ∧ pwmPhase.demand = false ∧ pwmPhase.kind = 2
    ∧ ((found (starved false)).vd 2).starveRaised = false ∧ (found (starved false)).vdReapplies 2 0 = some 250
    ∧ ((found (vdrDev 1 [] { vdRuns [pwmPhase] with starveFrom := some 0, starveRaised := true })).vd 2).starveRaised = true
    ∧ (found (vdrDev 2 [] { (default : VdCh) with closing := true })).rd VDR.CH_STATE 2 = vdStStopping
    ∧ ((found (vdrDev 1 [] (vdRuns [{ risePhase with kind := 3 }]))).vdPhase 2).kind = 3
    ∧ (found (vdrDev 0 [(VDR.CH_CAUSE, 8)] default)).vdStartRefused 2 1 = false := by decide +kernel

theorem meets_starve : (found (starved true)).vdReapplies 2 0 = none := by decide +kernel

theorem meets_ValveArithmetic : (found (vdrDev 0 [] default)).live 11 ∧ (5000 : Nat) < 65536
    ∧ (found (withRegs [(SYS.VPWRA, 0, 1200), (VDR.BOOST_SET, 0, 82)] (vdrDev 0 [] default))).boostMay = true ∧ (0 : Int) ≤ 361056 ∧ (361056 : Int) ≤ 4095 * 256
    ∧ (2 ∈ (bankChans 0).map fun n => (vdrDev 1 [] (vdRuns [{ risePhase with src := 2 }])).vdWants n)
    ∧ (2 ∉ (bankChans 0).map fun n => (vdrDev 1 [] (vdRuns [risePhase])).vdWants n) ∧ (1 ∈ (bankChans 0).map fun n => (vdrDev 1 [] (vdRuns [risePhase])).vdWants n)
    ∧ (1 ∉ (bankChans 0).map fun n => (vdrDev 0 [] default).vdWants n) ∧ (8 : Nat) ≤ 12
    ∧ 1000 + 50 ≤ (found (vdrDev 0 [] default)).boostSet ∧ (0 : Nat) < (found (vdrDev 0 [] default)).boostFloor
    ∧ Nat.min 7800 ((found (vdrDev 0 [] default)).boostSet + 800) < 65535 ∧ (found (vdrDev 0 [] default)).flag VDR.BOOST_LOW = false
    ∧ (found (withRegs [(VDR.BOOST_OV, 0, 1)] (vdrDev 0 [] default))).flag VDR.BOOST_OV = true := by unfold Dev.live; decide +kernel

/-! Chapter 13. -/

/-- Group 0 of field I/O with hidden state; pin 1 an output, pin 2 a Type 1 input; AI 3 a current loop, AI 4 ratiometric, FI 5 counting. -/
def fioDev (l : List (Fld × Nat × Nat)) (x : FioGrp) : Dev :=
  let d := fed 6 ([(FIO.PIN_KIND, 1, 1), (FIO.PIN_KIND, 2, 2), (FIO.AI_RANGE, 3, 2), (FIO.AI_AVG_N, 3, 2), (FIO.AI_RANGE, 4, 3), (FIO.SS_ON, 0, 1), (FIO.AI_IMP, 3, 1),
    (FIO.FI_MODE, 5, 2), (FIO.FI_MODE, 7, 1), (FIO.FI_MODE, 8, 3)] ++ l)
  d.setFioG 0 x

theorem meets_FieldIo : (found (fioDev [] default)).live 12 ∧ (((found (fioDev [] default)).boundary 12 0).boundary 12 1).pdOn 9 = true
    ∧ ((found (fioDev [] { (default : FioGrp) with isoBad := 2, hostBad := 2 })).fioG 0).isoBad = 2
    ∧ ((found (fioDev [] { (default : FioGrp) with hostGood := 7 })).fioG 0).hostGood = 7 ∧ ((found (fioDev [] default)).fioG 0).lost = false
    ∧ (found (fioDev [] default)).pinIsIn 2 = true ∧ ((found (fioDev [] default)).fioPin 2).taken ≠ some 1
    ∧ (found (fioDev [(FIO.GROUP_LOST, 0, 1)] default)).rd FIO.GROUP_LOST = 1 ∧ (found (fioDev [(FIO.GROUP_LOST, 0, 0)] default)).rd FIO.GROUP_LOST = 0
    ∧ (found (fioDev [] default)).pinIsOut 1 = true ∧ (found (fioDev [] default)).pinIsOut 2 = false ∧ (found (fioDev [] default)).flag FIO.PIN_OUT_FAULT 1 = false
    ∧ clampN 1 4096 ((found (fioDev [] default)).rd FIO.AI_AVG_N 3) ≤ [4000000, 4000000].length ∧ (found (fioDev [] default)).rd FIO.AI_RANGE 3 = 2
    ∧ (found (fioDev [] default)).flag FIO.AI_SHUNT_OPEN 3 = false ∧ (found (fioDev [(FIO.AI_SHUNT_OPEN, 3, 1)] default)).flag FIO.AI_SHUNT_OPEN 3 = true
    ∧ ((found (fioDev [] default)).rd FIO.SS_ON).testBit 0 = true ∧ ((found (fioDev [] default)).rd FIO.SS_ON).testBit 1 = false
    ∧ (found (fioDev [] default)).rd FIO.AI_RANGE 4 = 3 ∧ (found (fioDev [] default)).rd FIO.AI_REF 4 = 0 ∧ (found (fioDev [] default)).flag FIO.AI_IMP 3 = true
    ∧ (31 < 32 * (found (fioDev [(FIO.FI_GLITCH, 5, 1)] default)).rd FIO.FI_GLITCH 5) ∧ (found (fioDev [] default)).rd FIO.FI_MODE (5 / 2 * 2) ≠ 3
    ∧ 32 * (found (fioDev [(FIO.FI_GLITCH, 5, 1)] default)).rd FIO.FI_GLITCH 5 ≤ 32 ∧ (found (fioDev [] default)).rd FIO.FI_MODE 5 = 2
    ∧ (found (fioDev [] default)).rd FIO.FI_MODE 7 = 1 ∧ ((found (fioDev [] default)).fiCh 5).level = false ∧ (found (fioDev [] default)).fiRole 5 = none
    ∧ ((found ((fioDev [] default).setFiCh 7 ⟨false, some 0, none, none⟩)).fiCh 7).rise = some 0 ∧ ((found ((fioDev [] default).setFiCh 7 ⟨true, some 0, none, none⟩)).fiCh 7).level = true
    ∧ (found (fioDev [] default)).rd FIO.FI_MODE (9 / 2 * 2) = 3 ∧ ((found (fioDev [] default)).fiCh 9).level ≠ true := by unfold Dev.live; decide +kernel

/-- Group 0 with its points: pin 2's in point 20, AI 4's in point 21. -/
def fioPoints (l : List (Fld × Nat × Nat)) (x : FioGrp) : Dev :=
  withItems 1 [.ioPoint 0 2 20, .ioPoint 1 4 21, .ioPoint 1 3 22] (withItems 15 [.point 20 .u16 (.block 12) 60000000, .point 21 .q15 (.block 12) 60000000, .point 22 .u16 (.block 12) 60000000] (fioDev l x))

theorem meets_FieldIo_points : (found (fioPoints [] default)).ioPoint 0 2 = some 20 ∧ ((found (fioPoints [] default)).pointRow 20).isSome = true
    ∧ (found (fioPoints [] default)).ioPoint 1 4 = some 21 ∧ ((found (fioPoints [] default)).pointRow 21).isSome = true
    ∧ (found (fioPoints [] default)).ioPoint 1 3 = some 22 ∧ (found (fioPoints [] default)).pointRow 22 = some (.u16, .block 12, 60000000)
    ∧ (found (fioPoints [] default)).running = true ∧ 2 ∈ groupPins 0 ∧ ((found (fioPoints [] default)).rd FIO.GROUP_LOST).testBit 0 = false
    ∧ (found (fioPoints [] default)).pdOn 9 = true ∧ ((found (fioPoints [] { (default : FioGrp) with lost := true })).fioG 0).lost = true
    ∧ (found (fioPoints [(FIO.G_FILT, 0, 0)] default)).rd FIO.G_FILT 0 = 0 ∧ (found (fioPoints [(FIO.G_FILT, 0, 3)] default)).rd FIO.G_FILT 0 ≠ 0
    ∧ ((found (fioPoints [] default)).fioPin 2).run = 0 ∧ ((found (fioPoints [] default)).fioPin 2).taken ≠ some 3
    ∧ (found (fioPoints [(FIO.OUT_LO, 0, 2)] default)).rdPair FIO.OUT_LO FIO.OUT_HI 1 = true ∧ (found (fioPoints [] default)).rdPair FIO.OUT_LO FIO.OUT_HI 1 = false
    ∧ [(4000000, 0)].length < clampN 1 4096 ((found (fioPoints [] default)).rd FIO.AI_AVG_N 3) ∧ (9436 : Nat) < 9437
    ∧ (found (fioPoints [] default)).flag FIO.AI_UNDER 3 = false ∧ (found (fioPoints [] default)).flag FIO.AI_OVER 3 = false
    ∧ (found (fioPoints [] default)).raInput = none ∧ ((found (fioPoints [] default)).fiCh 7).level = false := by decide +kernel

/-- R329: the third missed refresh loses the group; R331 and Table 13.4: a class with FILTER 0 is taken at once; R338: a count. -/
theorem test_fio : ((after (.downstreamFrame 0 none) (fioDev [] { (default : FioGrp) with isoBad := 2 })).fioG 0).lost = true
    ∧ ((after (.downstreamFrame 0 (some 0)) (fioDev [(FIO.OUT_LO, 0, 2), (FIO.GATE_LO, 0, 2)] default)).fioG 0).outs = 2
    ∧ (after (.fiEdge 5 true false 100000) (fioDev [] default)).rd FIO.FI_COUNT 5 = 1 ∧ pinClass true 2400 300 true = 3 := by decide +kernel

/-- Blower 1 in a state, VPWRB at 13.5 V. -/
def blwDev (st : Nat) (l : List (Fld × Nat × Nat)) (x : BlwCh) : Dev :=
  let d := fed 6 ([(BLW.EN, 0, 1), (BLW.CH_BUILT, 1, 1), (BLW.CH_STATE, 1, st), (SYS.VPWRB, 0, 1350), (BLW.WD_MS, 0, 100), (BLW.CH_BLOCK_MA, 1, 5000),
    (BLW.CH_OPEN_MA, 1, 100), (BLW.CH_RPM_MAX, 1, 4000), (BLW.CH_AGE_REF_RPM, 1, 3000)] ++ l)
  d.setBl 1 x

/-- Ten seconds of steady speed have passed. -/
def blwSteady (st result : Nat) : Dev :=
  { blwDev st [(BLW.CH_COMM_RESULT, 1, result)] { (default : BlwCh) with steadyFrom := some 0, driveSum := 24000, driveN := 2 } with now := 10000000000 }

theorem meets_Blowers : (found (blwDev 2 [] default)).live 13 ∧ (0x5B : Nat) ≠ 0x5A ∧ (found (blwDev 2 [] default)).flag BLW.EN = true
    ∧ (found (blwDev 2 [] default)).rd BLW.WD_MS ≠ 0 ∧ (found (blwDev 2 [] default)).rd BLW.WD_FULL = 0 ∧ (found (blwDev 2 [(BLW.WD_FULL, 0, 2)] default)).rd BLW.WD_FULL ≠ 0
    ∧ (found (blwDev 2 [(BLW.WD_MS, 0, 0)] default)).rd BLW.WD_MS = 0 ∧ (found (blwDev 2 [] default)).flag BLW.CH_BUILT 1 = true
    ∧ (found (blwDev 1 [] default)).rd BLW.CH_STATE 1 = blKick ∧ (found (blwDev 1 [] default)).rd BLW.CH_BLOCK_MA 1 ≤ 5000
    ∧ (found (blwDev 1 [] default)).rd BLW.CH_ATTEMPTS 1 < 2 ∧ 2 ≤ (found (blwDev 1 [(BLW.CH_ATTEMPTS, 1, 2)] default)).rd BLW.CH_ATTEMPTS 1
    ∧ 99 < (found (blwDev 1 [] default)).rd BLW.CH_OPEN_MA 1 ∧ (found (blwDev 1 [] default)).rd BLW.CH_OPEN_MA 1 ≤ 100
    ∧ (found (blwDev 2 [] default)).rd BLW.CH_STATE 1 = blRun ∧ (found (blwDev 4 [] default)).rd BLW.CH_STATE 1 = blWait
    ∧ (found (blwDev 3 [] default)).rd BLW.CH_STATE 1 = blOpen ∧ (found (blwDev 5 [] default)).rd BLW.CH_STATE 1 = blLatched
    ∧ (found (withRegs [(SYS.MODE, 0, 4)] (blwDev 0 [] default))).mode = 4 ∧ (found (blwDev 0 [] default)).mode ≠ 4
    ∧ (found (blwSteady 2 1)).rd BLW.CH_COMM_RESULT 1 = 1 ∧ (found (blwSteady 2 1)).blSteadyDone 1 = some 12000 ∧ (found (blwDev 2 [] default)).blSteadyDone 1 = none
    ∧ (found (blwDev 2 [(BLW.EN, 0, 0)] default)).flag BLW.EN = false ∧ 3 < (found (blwDev 5 [] default)).rd BLW.CH_STATE 1
    ∧ (found (blwSteady 2 0)).rd BLW.CH_STATE 1 = blRun ∧ (found (blwDev 0 [] default)).rd BLW.CH_STATE 1 = blOff := by unfold Dev.live; decide +kernel

/-- Blower 1 commanded to half speed, or off, for one control period. -/
def blwOn (st on : Nat) : Dev := blwDev st [(BLW.CH_ON, 1, on), (BLW.CH_MODE, 1, 1), (BLW.CH_SPD_SET, 1, 50)] default

theorem meets_BlowerPeriod : (blwOn 0 1).rd BLW.WD_FULL = 0 ∧ (blwOn 0 1).rd BLW.CH_STATE 1 = blOff ∧ (blwOn 1 1).rd BLW.CH_STATE 1 = blKick ∧ (blwOn 2 0).rd BLW.CH_STATE 1 = blRun
    ∧ (let r := ((blwOn 2 1).wr BLW.CH_RPM 0 1).wr BLW.CH_I_OUT 0 1; (r.blReadTemp 1).1.blTarget 1 (r.blReadTemp 1).2 = 2000)
    ∧ (let r := ((blwOn 2 0).wr BLW.CH_RPM 0 1).wr BLW.CH_I_OUT 0 1; (r.blReadTemp 1).1.blTarget 1 (r.blReadTemp 1).2 = 0)
    ∧ decide (0 < 5000000 ∧ 5000000 < 100 * ms ∧ 1000 < 100 * ms) = true := by decide +kernel

/-- Table 13.5 and R342: a blocked kick waits; a short latches; R343: the watchdog drives V_FULL, 12.5 V at 13.5 V (R339). -/
theorem test_blower : (after (.kickTimeout 1 6000) (blwDev 1 [] default)).rd BLW.CH_STATE 1 = blWait ∧ (after (.blowerShort 1) (blwDev 2 [] default)).rd BLW.CH_STATE 1 = blLatched
    ∧ (after .blowerWatchdogExpiry (blwDev 2 [] default)).rd BLW.CH_V_OUT 1 = 12500 := by decide +kernel

/-! Chapter 14. -/

/-- CAN port 2 of a kind, enabled, a time slave with a matrix of 2 cycles of 10 ms; structure of CR13 and hidden state beside it. -/
def canDev (kind : Nat) (l : List (Fld × Nat × Nat)) (items : List BuildItem) (f : NetH → NetH) : Dev :=
  let d := withItems 13 items (fed 6 ([(CAN.EN, 0, 4), (CAN.P_KIND, 2, kind), (CAN.P_MATRIX_ID, 2, 77), (CAN.P_CYCLE_US, 2, 10000), (CAN.P_MATRIX_CYCLES, 2, 2),
    (CAN.P_REF_ABLE, 2, 1), (CAN.P_REF_PRIO, 2, 1), (CAN.P_SYNC, 2, 1), (ETH.TIME_ROLE, 0, 1)] ++ l))
  { d with net := f d.net }

/-- A reference message for that matrix, cycle 1. -/
def refBytes : List Nat := [1, 0, 77, 0, 0, 0, 0, 0, 0, 0, 0, 0, 16, 39, 0, 0]

/-- Port 2 with bus-off or not, synchronised or not. -/
def canState (err sync master : Nat) : Dev := canDev 2 [(CAN.P_ERR_STATE, 2, err), (CAN.P_SYNC, 2, sync), (CAN.P_IS_MASTER, 2, master)] []
  (fun x => { x with marks := [(2, 0)], refRun := [(2, 0)] })

/-- A message slot 3 in an exclusive window 500 µs after the mark; its frame waits. -/
def canSlotDev (has : Bool) (err : Nat) : Dev :=
  canDev 2 [(CAN.P_SYNC, 2, 2), (CAN.P_ERR_STATE, 2, err)] ([.canWindow 2 500 100 1 0 0 3] ++ if has then [.canSlot 2 3 0x123 8 none] else [])
    (fun x => { x with marks := [(2, 0)], slots := [(131, [1, 2, 3])] })

/-- A mapped point of node 4 on a CAN port of kind 1; a condensed group on an ISO port. -/
def canMapItems : List BuildItem := [.netNode 4 [2] none none 50, .rxMap 4 2 0x200 8 8 6]
def canMapDev : Dev := withItems 15 [.point 6 .u16 (.node 4) 60000000] (canDev 1 [] canMapItems id)
def isoDev (addr : Nat) (claiming : Option Nat) (hi : Nat) : Dev :=
  canDev 3 [(CAN.P_ISO_ADDR, 2, addr), (CAN.P_NAME_LO, 2, 100), (CAN.P_NAME_HI, 2, hi)] [.isoPort 2 200 5, .condGroup 1 2 38 7 289 [0, 1]]
    (fun x => { x with claiming := match claiming with | some a => [(2, a)] | none => [] })

theorem meets_CanPorts : (found (canState 0 1 0)).live 14 ∧ (found (canState 0 1 0)).wait = [] ∧ (found (canState 0 1 0)).canOn 2 = true
    ∧ (found (canState 0 1 0)).busOff 2 = false ∧ (found (canState 2 1 0)).busOff 2 = true ∧ (found (canState 2 1 0)).canTT 2 = true
    ∧ (found (canState 0 2 0)).flag CAN.P_IS_MASTER 2 = false ∧ (found (canState 0 2 0)).rd CAN.P_SYNC 2 = 2 ∧ refBytes.length = 16 ∧ (found (canState 0 1 0)).running = true
    ∧ leVal ((refBytes.drop 2).take 2) = (found (canState 0 1 0)).rd CAN.P_MATRIX_ID 2 ∧ 1000 * leVal ((refBytes.drop 12).take 2) = (found (canState 0 1 0)).cycleNs 2
    ∧ leVal ([0, 0, 78, 0].drop 2) ≠ (found (canState 0 1 0)).rd CAN.P_MATRIX_ID 2 ∧ (found (canState 0 1 0)).timeFrom ≠ 3
    ∧ tget? 2 (found (canState 0 1 0)).net.refRun = some ((refBytes.getD 0 0 % 64 + 2 - 1) % (found (canState 0 1 0)).matrixCycles 2)
    ∧ (found (canState 0 3 0)).rd CAN.P_SYNC 2 = 3
    ∧ (let d := found (canDev 2 [(ETH.JOIN_STATE, 0, 2)] [] fun x => { x with marks := [(2, 0)] });
       d.refAllowed 2 = true ∧ 1 ≤ d.rd CAN.P_REF_PRIO 2 ∧ d.rd ETH.JOIN_STATE = 2 ∧ d.flag ETH.IS_LEADER = false ∧ d.rd ETH.TIME_ROLE ≠ 3 ∧ d.nextMark 2 = some 10000000)
:= by
  unfold Dev.live; decide +kernel

theorem meets_CanPorts_windows : (found (canState 0 2 1)).flag CAN.P_IS_MASTER 2 = true ∧ tget? 2 (found (canSlotDev true 0)).net.marks = some 0
    ∧ (found (canSlotDev true 0)).windowEntries 2 500 = [(1, 100, 3)] ∧ .canSlot 2 3 0x123 8 none ∈ (found (canSlotDev true 0)).itemsOf 13
    ∧ tget? (64 * 2 + 3) (found (canSlotDev true 0)).net.slots = some [1, 2, 3] ∧ (found (canSlotDev true 2)).busOff 2 = true
    ∧ (found (canSlotDev false 0)).itemsOf 13 = [.canWindow 2 500 100 1 0 0 3]
    ∧ (found canMapDev).rd CAN.P_KIND 2 = 1 ∧ (found canMapDev).itemsOf 13 = canMapItems ∧ (found canMapDev).pointRow 6 = some (.u16, .node 4, 60000000)
    ∧ (found (isoDev 200 none 0)).isoOn 2 = true ∧ tget? 2 (found (isoDev 0xFE (some 247) 0)).net.claiming = some 247 ∧ 99 < (found (isoDev 0xFE (some 247) 0)).isoName 2
    ∧ (found (isoDev 0xFE (some 200) 0x80000000)).isoName 2 > 101 ∧ ((found (isoDev 0xFE (some 200) 0x80000000)).isoName 2).testBit 63 = true
    ∧ (found (isoDev 0xFE none 0)).isoAddr 2 = 0xFE ∧ tget? 2 (found (isoDev 0xFE none 0)).net.claiming = none
    ∧ isoPs (isoId 7 0xEC 200 33) = (found (isoDev 200 none 0)).isoAddr 2 ∧ isoPf (isoId 7 0xEC 200 33) = 0xEC ∧ isoPf (isoId 7 0xC8 200 33) = 0xC8
    ∧ (found (isoDev 200 none 0)).net.sessions = [] ∧ (found (isoDev 200 none 0)).isoAddr 2 ≠ 0xFE
    ∧ .condGroup 1 2 38 7 289 [0, 1] ∈ (found (isoDev 200 none 0)).itemsOf 13 ∧ ((found canMapDev).rd CAN.NODE_LOST 0).testBit 4 = false := by decide +kernel

theorem meets_CanPorts_more : (found canMapDev).canOn 2 = true ∧ (found canMapDev).busOff 2 = false ∧ (found canMapDev).running = true
    ∧ ((found (canState 0 1 1)).timeMaster = true ∨ (found (canState 0 1 1)).rd CAN.P_REF_PRIO 2 ≤ 1) ∧ (found (canState 0 1 1)).flag CAN.P_IS_MASTER 2 = true
    ∧ (found (canState 0 1 1)).wait = [] ∧ isoPs (isoId 7 0xEC 200 33) ≠ 255
    ∧ leVal (([16, 100, 0, 15, 255, 0, 0xEF, 0] : List Nat).drop 1 |>.take 2) ≤ 1048576 ∧ 1048576 < leVal (([20, 0, 0, 0, 1, 0, 0xEF, 0] : List Nat).drop 1 |>.take 4)
    ∧ 1 ≤ (found (canSlotDev true 0)).rd CAN.P_REF_PRIO 2 ∧ (found (canSlotDev true 0)).rd CAN.P_SYNC 2 = 2 ∧ (found (canState 0 1 0)).rd CAN.P_SYNC 2 ≠ 2
    ∧ (found (withRegs [(CAN.P_SYNC, 2, 1)] (canSlotDev true 0))).rd CAN.P_SYNC 2 ≠ 2 ∧ tget? 1 (found (isoDev 200 none 0)).net.condSent = none
    ∧ (found (isoDev 0xFE (some 247) 0)).isoName 2 ≤ 4294967396 := by decide +kernel

/-- R356: a second matching reference message in a row synchronises; R353: the slot's frame leaves in its window, padded; R365: the map. -/
theorem test_can : (after (.referenceMessage 2 1 refBytes) (canState 0 1 0)).rd CAN.P_SYNC 2 = 2
    ∧ (after (.canWindow 2 500 0 true) (canSlotDev true 0)).out = [.can 2 0x123 [1, 2, 3, 0, 0, 0, 0, 0]]
    ∧ ((after (.canFrameRx 2 0x200 (some [9, 0xAB])) canMapDev).point 6).value = 0xAB := by decide +kernel

/-- Ethernet port 1 a peer port under 802.1AS with its link up; peer 0 at address 20, the module at 10. -/
def ethDev (l : List (Fld × Nat × Nat)) (f : NetH → NetH) : Dev :=
  let d := withItems 15 [.point 3 .u16 (.peer 0) 60000000, .point 4 .u16 .cores 60000000, .mirrored 4]
    (fed 6 ([(ETH.EN, 0, 2), (ETH.JOIN_EN, 0, 1), (ETH.LINK_UP, 0, 2), (ETH.P_AS_EN, 1, 1), (ETH.P_PEER_PORT, 1, 1), (ETH.P_IPV4, 1, 0x0A000001), (ETH.OWN_ADDR, 0, 10),
      (ETH.PE_BUILT, 0, 1), (ETH.PE_ADDR, 0, 20), (ETH.TIME_ROLE, 0, 2), (TMB.MT_DISC, 0, 2)] ++ l))
  { d with net := f d.net }

/-- A STATUS of the peer, 96 bytes; a MIRROR with one record for point 3; a SAFE message. -/
def peerStatus : List Nat := [0x11, 20] ++ List.replicate 94 0
def peerMirror : List Nat := [0x13, 20, 0, 0, 0, 0, 0, 0, 1, 0, 0, 0, 0, 0, 0, 0] ++ [3, 0, 0, 0, 42, 0, 0, 0, 1, 0, 9, 0] ++ List.replicate 12 0
def peerSafe : List Nat := [0x12, 20] ++ List.replicate 14 0

theorem meets_JoinedSystems : (found (ethDev [] id)).live 15 ∧ (found (ethDev [] id)).wait = [] ∧ (found (ethDev [] id)).asPort 1 = true
    ∧ (found (ethDev [] id)).running = true ∧ (found (ethDev [] id)).timeFrom = 2 ∧ (found (ethDev [] id)).mtDisc = 2 ∧ (found (ethDev [] id)).net.syncPort = none
    ∧ (found (ethDev [] fun x => { x with syncPort := some 3, timeBad := 1 })).net.syncPort = some 3
    ∧ (found (ethDev [] fun x => { x with syncPort := some 3 })).asRole 1 = 1 ∧ (found (ethDev [] id)).ethOn 1 = true ∧ (found (ethDev [] id)).rd ETH.P_IPV4 1 = 0x0A000001
    ∧ ((found (ethDev [] id)).rd ETH.LINK_UP).testBit 1 = true ∧ ((found (ethDev [] id)).rd ETH.LINK_UP).testBit 2 = false
    ∧ (found (ethDev [] id)).peerPorts = [1] ∧ peerStatus.length = 96 ∧ (found (ethDev [(ETH.JOIN_STATE, 0, 2)] id)).rd ETH.JOIN_STATE ≠ 0
    ∧ peerStatus.getD 1 0 ≠ (found (ethDev [] id)).rd ETH.OWN_ADDR ∧ (found (ethDev [] id)).peerIndex 20 = some 0 ∧ (found (ethDev [] id)).peerIndex 21 = none
    ∧ ((found (ethDev [(ETH.PEER_SEEN, 0, 1)] id)).rd ETH.PEER_SEEN).testBit 0 = true ∧ (found (ethDev [(ETH.JOIN_STATE, 0, 1)] id)).rd ETH.JOIN_STATE = 1
    ∧ (found (ethDev [] id)).ownKey = (found (ethDev [] id)).chosenKey ∧ (found (ethDev [] fun x => { x with agreed := true })).net.agreed = true
    ∧ (let d := found (ethDev [(ETH.PEER_SEEN, 0, 1), (ETH.PE_ADDR, 0, 5)] fun x => { x with peers := [(0, ⟨0, List.replicate 48 1, 7, false, false⟩)] }); d.ownKey ≠ d.chosenKey)
    ∧ (found (ethDev [(ETH.JOIN_STATE, 0, 2)] id)).rd ETH.JOIN_STATE = 2 ∧ (found (ethDev [(ETH.JOIN_STATE, 0, 2)] id)).mirrorDue ≠ []
    ∧ ((found (ethDev [] fun x => { x with peers := [(0, ⟨0, [], 0, false, true⟩)] })).peer 0).excluded = true ∧ ((found (ethDev [] id)).peer 0).excluded = false
    ∧ peerMirror.length = 40 ∧ leVal ((peerMirror.drop 8).take 2) = 1 ∧ peerSafe.length = 16 ∧ (found (ethDev [] id)).safeNow = true
    ∧ (found (withRegs [(SYS.MODE, 0, 7)] (ethDev [] id))).mode = 7 ∧ (found (ethDev [] id)).net.safeRepeat = none
    ∧ (found (ethDev [] fun x => { x with safeRepeat := some (1, 2, 500) })).net.safeRepeat = some (1, 2, 500) := by unfold Dev.live; decide +kernel

theorem meets_JoinedSystems_more : (found (ethDev [] id)).peerGone 0 = false ∧ (found (ethDev [(ETH.JOIN_STATE, 0, 2)] id)).running = true
    ∧ (found (ethDev [] fun x => { x with peers := [(0, ⟨0, [], 0, false, false⟩)] })).peerGone 0 = true
    ∧ (found (ethDev [] fun x => { x with statusAt := some 5, syncSentAt := some 7 })).net.statusAt = some 5
    ∧ (found (ethDev [] fun x => { x with syncSentAt := some 7 })).net.syncSentAt = some 7
    ∧ (let b := found (ethDev [(ETH.JOIN_STATE, 0, 2)] id); (b.waitUntil (b.nextPeriod ms b.net.mirrorAt)).mirrorDue ≠ [])
    ∧ peerStatus.getD 0 0 = 0x11 ∧ peerMirror.getD 0 0 = 0x13 ∧ peerSafe.getD 0 0 = 0x12 ∧ peerSafe.getD 1 0 ≠ (found (ethDev [] id)).rd ETH.OWN_ADDR
    ∧ (ethDev [] id).pointRow (leVal (((peerMirror.drop 16)).take 4) % 2 ^ 17) = some (.u16, .peer 0, 60000000) := by decide +kernel

/-- R369: the record's value is taken; R371: a SAFE message of a peer leads to SAFE; R358: address resolution of the port's own address. -/
theorem test_peers : ((after (.mirrorMsg peerMirror) (ethDev [(ETH.JOIN_STATE, 0, 2)] id)).point 3).value = 42
    ∧ (after (.safeMsg peerSafe) (ethDev [(ETH.JOIN_STATE, 0, 2)] id)).mode = 7
    ∧ (after (.arpRequest 1 0x0A000001) (ethDev [] id)).out = [.eth 1 5 0x0A000001 [1, 0, 0, 10]] := by decide +kernel

/-! Chapter 15. -/

/-- An entry of item 4; the queue 9 with hidden state, class S or L, produced and consumed by the field cores or by blocks. -/
def qEntry : QEntry := ⟨padTo 32 [1, 2], 2, true, true, false, 4, false, 0⟩
def queDev (cls prod cons : Nat) (l : List (Fld × Nat × Nat)) (h : QueH) : Dev :=
  let d := fed 6 ([(QUE.Q_CLASS, 9, cls), (QUE.Q_PRODUCER, 9, prod), (QUE.Q_CONSUMER, 9, cons), (QUE.Q_WIDTH, 9, 2), (QUE.Q_BRINE_LOG2, 9, 6)] ++ l)
  d.setQueue 9 { h with nextSeq := 5 }

/-- One entry at the head, presented or not. -/
def queHead (p : Option Bool) : QueH := { (default : QueH) with head := [qEntry], presented := p }

theorem meets_QueueFabric : (found (queDev 1 0x3F 0x3F [] default)).live 16 ∧ (found (queDev 1 0x3F 0x3F [] default)).wait = []
    ∧ (found (queDev 1 0x3F 0x3F [] default)).builtWith 9 0x3F = true ∧ (found (queDev 1 7 0x3F [] default)).builtWith 9 0x3F = false
    ∧ (found (queDev 1 7 0x3F [] default)).rd QUE.Q_PRODUCER 9 ≠ 0x3F ∧ (found (queDev 1 7 0x3F [] default)).rd QUE.Q_CLASS 9 ≠ 0
    ∧ ((found (queDev 1 7 0x3F [] { (default : QueH) with waiting := some (qEntry, 0) })).queue 9).waiting = some (qEntry, 0)
    ∧ (∀ e ∈ ((found (queDev 1 7 0x3F [] { (default : QueH) with middle := [qEntry], tail := [qEntry] })).queue 9).all, e.void = false)
    ∧ ((found (queDev 1 7 0x3F [] (queHead none))).queue 9).waiting = none ∧ ((found (queDev 1 7 0x3F [] (queHead none))).queue 9).head = [qEntry]
    ∧ (found (queDev 1 7 0x3F [] (queHead (some false)))).coreConsumes 9 = true ∧ ((found (queDev 1 7 0x3F [] (queHead (some false)))).queue 9).presented.isSome = true
    ∧ (found (queDev 1 7 14 [] (queHead (some false)))).coreConsumes 9 = false ∧ (found (queDev 1 7 14 [] (queHead (some false)))).rd QUE.Q_CONSUMER 9 ≠ 0x3F
    ∧ ((found (queDev 1 7 14 [] { (default : QueH) with head := [{ qEntry with broken := true }], presented := some true })).queue 9).spoilt = true
    ∧ (found (queDev 1 7 0x3F [] (queHead none))).rd QUE.Q_CLASS 9 = 1 ∧ ((found (queDev 1 7 0x3F [] (queHead none))).queue 9).complete = true
    ∧ (found (queDev 2 7 0x3F [] (queHead none))).rd QUE.Q_CLASS 9 = 2 ∧ ((found (queDev 1 7 0x3F [] default)).queue 9).complete = false
    ∧ ((found (queDev 1 7 0x3F [] default)).queue 9).presented = none ∧ (found (queDev 1 7 0x3F [(QUE.Q_PRIV, 9, 1)] default)).flag QUE.Q_PRIV 9 = true
    ∧ (found (queDev 1 7 0x3F [(QUE.Q_PRIV, 9, 1)] { queHead (some false) with staleFrom := some 0 })).rd QUE.Q_PRIV_IDX 9 < 8
    ∧ (found (queDev 1 7 0x3F [(QUE.Q_PRIV, 9, 1)] { queHead (some false) with staleFrom := some 0 })).flag QUE.Q_STALE 9 = false
    ∧ ((found (queDev 1 7 0x3F [(QUE.Q_PRIV, 9, 1)] { queHead (some false) with staleFrom := some 0 })).queue 9).staleFrom = some 0
    ∧ (queDev 1 7 0x3F [] default).rd QUE.Q_WIDTH 9 < 4 ∧ ((queDev 1 7 0x3F [] default).queue 9).item = none
    ∧ ((queDev 1 7 0x3F [] { (default : QueH) with item := some (4, [1], false) }).queue 9).discarding = false
    ∧ ((queDev 1 7 0x3F [] default).queue 9).occ < (queDev 1 7 0x3F [] default).capacity 9 ∧ ((queDev 2 7 0x3F [] default).queue 9).tail = []
    ∧ (queDev 0 7 0x3F [] default).capacity 9 ≤ ((queDev 0 7 0x3F [] default).queue 9).occ := by unfold Dev.live; decide +kernel

theorem meets_QueueFabric_more : (let h := (found (queDev 1 7 0x3F [] { (default : QueH) with tail := [qEntry, { qEntry with seq := 5, last := false }], waiting := some ({ qEntry with seq := 5 }, 0) })).queue 9
      h.all = [qEntry] ++ [{ qEntry with seq := 5, last := false }] ∧ h.waiting = some ({ qEntry with seq := 5 }, 0)
        ∧ (∀ x ∈ [qEntry], x.seq ≠ 5) ∧ ∀ x ∈ [{ qEntry with seq := 5, last := false }], x.seq = 5 ∧ x.last = false)
    ∧ (let h := (found (queDev 1 7 0x3F [] { (default : QueH) with head := [{ qEntry with last := false }] })).queue 9
      h.presented = none ∧ h.head ≠ [] ∧ h.complete = false ∧ h.waiting = none ∧ ∀ e ∈ h.all, e.void = false)
    ∧ (found (queDev 1 7 14 [] (queHead (some false)))).rd QUE.Q_CONSUMER 9 = 14 ∧ (found (queDev 1 7 8 [] (queHead (some false)))).rd QUE.Q_CONSUMER 9 ≠ 15
    ∧ ((found (queDev 1 7 8 [] (queHead (some false)))).queue 9).spoilt = false ∧ (found (queDev 0 7 0x3F [] default)).rd QUE.Q_CLASS 9 = 0
    ∧ ((queDev 1 7 0x3F [] default).queue 9).fgen = 0 ∧ ((queDev 1 7 0x3F [] default).queue 9).second = none ∧ (queDev 1 7 0x3F [] default).wait = []
    ∧ ((queDev 1 7 0x3F [] { (default : QueH) with item := some (4, List.replicate 28 0, false) }).queue 9).item = some (4, List.replicate 28 0, false)
    ∧ 32 ≤ (List.replicate 28 0 ++ leBytes (2 ^ (queDev 1 7 0x3F [] default).rd QUE.Q_WIDTH 9) 7).length
    ∧ ((queDev 2 7 0x3F [] default).queue 9).middle = [] ∧ (queDev 2 7 0x3F [] default).rd QUE.Q_CLASS 9 = 2
    ∧ ((queDev 2 7 0x3F [] default).queue 9).occ < (queDev 2 7 0x3F [] default).capacity 9 ∧ ((queDev 1 7 0x3F [] default).queue 9).tail.length < 16
    ∧ ((queDev 1 7 0x3F [] { (default : QueH) with discarding := true }).queue 9).discarding = true := by decide +kernel

/-- R380, R386: a word with marker ONE becomes one entry; presented, it is read in the window and taken by a POP of the right generation. -/
theorem test_queue : ((after (.wrOne 9 0x04030201) (queDev 1 0x3F 0x3F [] default)).queue 9).all.map (fun e => (e.data.take 5, e.valid, e.seq)) = [([1, 2, 3, 4, 0], 4, 5)]
    ∧ (after (.entryPresentation 9 .clean) (queDev 1 7 0x3F [] (queHead none))).rd QUE.W_HEAD 9 0 = 0x201
    ∧ ((after (.popEntry 9 0) (queDev 1 7 0x3F [] (queHead (some false)))).queue 9).all = [] := by decide +kernel

/-- R386: POP with ACT 2 takes the item through its LAST entry; a later item that bears the same number stays. -/
theorem test_pop_item : ((after (.popItem 9 0) (queDev 1 7 0x3F [] { (default : QueH) with head := [{ qEntry with last := false }, { qEntry with first := false }, qEntry], presented := some false })).queue 9).all
    = [qEntry] := by decide +kernel

/-! Chapter 16. -/

/-- The recorder with records waiting, Crust open or not, some of Tide used; a challenge given at 0. -/
def recDev (mode : Nat) (l : List (Fld × Nat × Nat)) (f : RecH → RecH) : Dev :=
  let d := fed mode l
  { d with recd := f { d.recd with challenge := some ([], 0) } }

/-- A record. -/
def rec1 : Rec := ⟨3, 0, 0xFF, 0, 0xFFFFFFFF, [], 0, 0, 0⟩

/-- DRAM with a token of the factory key and a signature at 0x80000000 (R404). -/
def tokenMem (sig : List Nat) : Memory := memWriteBytes [] 0x80000000 (Config.factoryKey ++ sig)

/-- The signature of ACTION and KEY over the challenge of `recDev`, made with the number 1. -/
def tokenSig (action key : Nat) : List Nat := Config.ecdsaSign Config.factoryKey (Config.sha384 ([] ++ [action, key] ++ List.replicate 14 0)) 1

theorem tokenSig_bytes (action key : Nat) : (tokenSig action key).length = 96 ∧ ∀ b ∈ tokenSig action key, b < 256 :=
  ⟨by simp [tokenSig, Config.ecdsaSign], by
    intro b hb
    obtain ⟨k, _, rfl⟩ := List.mem_map.1 hb
    exact Nat.mod_lt _ (by decide)⟩

/-- Bytes written after one another are read back apart. -/
theorem reads_two (a : Nat) (x y : List Nat) (hx : ∀ b ∈ x, b < 256) (hy : ∀ b ∈ y, b < 256) :
    memReadBytes (memWriteBytes [] a (x ++ y)) a x.length = x ∧ memReadBytes (memWriteBytes [] a (x ++ y)) (a + x.length) y.length = y := by
  have h := memReadBytes_memWriteBytes (x ++ y) [] a fun b h => (List.mem_append.1 h).elim (hx b) (hy b)
  have hs : memReadBytes (memWriteBytes [] a (x ++ y)) a (x.length + y.length)
      = memReadBytes (memWriteBytes [] a (x ++ y)) a x.length ++ memReadBytes (memWriteBytes [] a (x ++ y)) (a + x.length) y.length := by
    simp only [memReadBytes, List.range_add, List.map_append, List.map_map]
    refine congrArg _ (List.map_congr_left fun k _ => ?_)
    simp [Nat.add_assoc]
  rw [List.length_append] at h
  have := List.append_inj (h.symm.trans hs) (by simp [memReadBytes])
  exact ⟨this.1.symm, this.2.symm⟩

theorem factoryKey_bytes : Config.factoryKey.length = 96 ∧ ∀ b ∈ Config.factoryKey, b < 256 :=
  ⟨by simp [Config.factoryKey], by
    intro b hb
    obtain ⟨k, _, rfl⟩ := List.mem_map.1 hb
    exact Nat.mod_lt _ (by decide)⟩

/-- What is read of the token is what was written. -/
theorem token_reads (sig : List Nat) (hl : sig.length = 96) (hb : ∀ b ∈ sig, b < 256) :
    tokenPub (tokenMem sig) 0x80000000 = Config.factoryKey ∧ memReadBytes (tokenMem sig) (0x80000000 + 96) 96 = sig := by
  have h := reads_two 0x80000000 _ _ factoryKey_bytes.2 hb
  rw [factoryKey_bytes.1, hl] at h
  exact h

/-- A token whose signature fits, and one whose signature's first byte is another. -/
theorem token_signed (action key t : Nat) : tokenSigned (tokenMem (tokenSig action key)) 0x80000000 (some ([], t)) action key 1 = true := by
  have h := token_reads _ (tokenSig_bytes action key).1 (tokenSig_bytes action key).2
  simp only [tokenSigned, signedBy, h.1, h.2, decide_eq_true_eq]
  rfl

theorem token_forged (action key t : Nat) :
    tokenSigned (tokenMem ((tokenSig action key).map fun b => (b + 1) % 256)) 0x80000000 (some ([], t)) action key 1 = false := by
  have h := token_reads ((tokenSig action key).map fun b => (b + 1) % 256) (by simp [(tokenSig_bytes action key).1]) (by
    intro b hb
    obtain ⟨k, _, rfl⟩ := List.mem_map.1 hb
    exact Nat.mod_lt _ (by decide))
  simp only [tokenSigned, signedBy, h.1, h.2, decide_eq_false_iff_not]
  intro he
  have h2 := congrArg List.head? he
  have h3 : (tokenSig action key).head? = some ((tokenSig action key).headD 0) := by
    have hl := (tokenSig_bytes action key).1
    cases hc : tokenSig action key with
    | nil => rw [hc] at hl; exact absurd hl (by decide)
    | cons a l => rfl
  have h4 : Config.ecdsaSign Config.factoryKey (Config.sha384 ([] ++ [action, key] ++ List.replicate 14 0)) 1 = tokenSig action key := rfl
  rw [h4, List.head?_map, h3] at h2
  simp at h2
  omega

/-- The factory key is admitted by its own token. -/
theorem token_fits (d : Dev) (action key : Nat) : d.tokenKey (tokenMem (tokenSig action key)) 0x80000000 15 = true := by
  simp [Dev.tokenKey, (token_reads _ (tokenSig_bytes action key).1 (tokenSig_bytes action key).2).1]

/-- Image-key slot 0 holding a digest (R76). -/
def keyed (h : Nat) (d : Dev) : Dev := (List.range 12).foldl (fun d k => d.wr PREG.P (h / 2 ^ (32 * k)) (4032 + k)) d

theorem leVal_leBytes_append (n : Nat) : ∀ (v : Nat) (l : List Nat), leVal (leBytes n v ++ l) = v % 256 ^ n + 256 ^ n * leVal l := by
  induction n with
  | zero => intro v l; simp [leBytes, Nat.mod_one]
  | succ n ih =>
    intro v l
    have h : v % 256 ^ (n + 1) = v % 256 + 256 * (v / 256 % 256 ^ n) := by rw [Nat.pow_succ', Nat.mod_mul]
    simp only [leBytes, List.cons_append, leVal, ih, h]
    rw [Nat.pow_succ', Nat.mul_add, Nat.mul_assoc, Nat.add_assoc]

theorem leVal_words (n : Nat) : ∀ h : Nat, leVal ((List.range n).flatMap fun k => leBytes 4 (h / 2 ^ (32 * k) % 2 ^ 32)) = h % 2 ^ (32 * n) := by
  induction n with
  | zero => intro h; simp [leVal, Nat.mod_one]
  | succ n ih =>
    intro h
    have h1 : ((List.range (n + 1)).flatMap fun k => leBytes 4 (h / 2 ^ (32 * k) % 2 ^ 32))
        = leBytes 4 (h % 2 ^ 32) ++ (List.range n).flatMap fun k => leBytes 4 (h / 2 ^ 32 / 2 ^ (32 * k) % 2 ^ 32) := by
      simp only [List.range_succ_eq_map, List.flatMap_cons, List.flatMap_map, Nat.mul_zero, Nat.pow_zero, Nat.div_one]
      congr 1
      apply congrArg (fun f => List.flatMap f (List.range n))
      funext k
      rw [Nat.div_div_eq_div_mul, ← Nat.pow_add, show 32 * k.succ = 32 + 32 * k by omega]
    rw [h1, leVal_leBytes_append, ih, show 32 * (n + 1) = 32 + 32 * n by omega, Nat.pow_add, Nat.mod_mul]
    simp

theorem keyed_word (h : Nat) (d : Dev) (n k : Nat) (hk : k < n) :
    ((List.range n).foldl (fun d k => d.wr PREG.P (h / 2 ^ (32 * k)) (4032 + k)) d).rd PREG.P (4032 + k) = h / 2 ^ (32 * k) % 2 ^ 32 := by
  induction n with
  | zero => omega
  | succ n ih =>
    rw [List.range_succ, List.foldl_append]
    rcases Nat.lt_succ_iff_lt_or_eq.1 hk with h1 | rfl
    · rw [List.foldl_cons, List.foldl_nil, Dev.rd_wr_ne _ _ _ _ _ _ _ _ (by simp only [Fld.key, Fld.addr, PREG.P]; omega), ih h1]
    · exact Dev.rd_wr ..

set_option exponentiation.threshold 400 in
theorem keyed_slot (x : BitVec 384) (d : Dev) : (keyed x.toNat d).keySlot 0 = x.toNat := by
  have hr : ∀ k ∈ List.range 12, leBytes 4 ((keyed x.toNat d).rd PREG.P (4032 + 12 * 0 + k)) = leBytes 4 (x.toNat / 2 ^ (32 * k) % 2 ^ 32) :=
    fun k hk => congrArg _ (keyed_word x.toNat d 12 k (List.mem_range.1 hk))
  have : (keyed x.toNat d).keySlot 0 = leVal ((List.range 12).flatMap fun k => leBytes 4 (x.toNat / 2 ^ (32 * k) % 2 ^ 32)) := by
    unfold Dev.keySlot
    rw [List.flatMap, List.map_congr_left hr, ← List.flatMap]
  rw [this, leVal_words, show 32 * 12 = 384 from rfl, BitVec.toNat_mod_cancel]

/-- A token of image-key slot 0 fits wherever that slot holds its key's digest; that the digest is not 0 is all that is assumed of it. -/
theorem token_fits_slot (d : Dev) (action key : Nat) (h0 : Config.sha384 Config.factoryKey ≠ 0) :
    (keyed (Config.sha384 Config.factoryKey) d).tokenKey (tokenMem (tokenSig action key)) 0x80000000 0 = true := by
  have h : (keyed (Config.sha384 Config.factoryKey) d).keySlot 0 = Config.sha384 Config.factoryKey := keyed_slot _ d
  simp [Dev.tokenKey, (token_reads _ (tokenSig_bytes action key).1 (tokenSig_bytes action key).2).1, h, h0]

theorem meets_RecorderAndThermal : (found (recDev 4 [] id)).live 17 ∧ (found (recDev 4 [] fun r => { r with backlog := [] })).recd.backlog = []
    ∧ (found (recDev 4 [] fun r => { r with backlog := [rec1] })).recd.backlog = [rec1] ∧ (found (recDev 4 [] id)).rd REC.REC_NEXT < 2 ^ 32
    ∧ (found (recDev 4 [] id)).recd.lostSince = 0 ∧ (found (recDev 4 [] id)).rd REC.REC_MODE ≠ 1 ∧ (found (recDev 4 [(REC.REC_MODE, 0, 1)] id)).rd REC.REC_MODE = 1
    ∧ (found (recDev 4 [] fun r => { r with lostSince := 7 })).recd.lostSince ≠ 0 ∧ (found (recDev 4 [] id)).flag REC.FULL = false
    ∧ (found (recDev 4 [] fun r => { r with crustOpen := true })).recd.crustOpen = true ∧ (found (recDev 4 [] id)).rd REC.REC_CRUST_N < 1024
    ∧ (found (recDev 4 [(REC.REC_NEXT, 0, 8191)] id)).tideCount < 8192 ∧ (found (recDev 4 [(REC.REC_NEXT, 0, 8192)] id)).tideCount = 8192
    ∧ (found (recDev 4 [(REC.REC_NEXT, 0, 9215), (REC.REC_MODE, 0, 1)] id)).tideCount = 9215
    ∧ 9216 ≤ (found (recDev 4 [(REC.REC_NEXT, 0, 9216), (REC.REC_MODE, 0, 1), (REC.FULL, 0, 1)] id)).tideCount
    ∧ (found (recDev 4 [(REC.FULL, 0, 1)] id)).flag REC.FULL = true ∧ tget? 5 (found (recDev 4 [] fun r => { r with stored := [(5, recBytes 5 rec1)] })).recd.stored = some (recBytes 5 rec1)
    ∧ (found (recDev 4 [(REC.CLR_BUSY, 0, 1)] id)).flag REC.CLR_BUSY = true ∧ (found (recDev 4 [] id)).flag REC.CLR_BUSY = false ∧ (found (recDev 4 [] id)).mode = 4
    ∧ (found (recDev 5 [] id)).mode ≠ 4 ∧ (found (recDev 4 [] id)).recd.challenge = some ([], 0) ∧ (found (recDev 4 [] id)).now ≤ 0 + 60000000000
    ∧ (found (recDev 4 [(REC.TOKEN_ADDR16, 0, 0x8000000)] id)).coreMayWrite (16 * (found (recDev 4 [(REC.TOKEN_ADDR16, 0, 0x8000000)] id)).rd REC.TOKEN_ADDR16) 192 = true
    ∧ (found (recDev 4 [(REC.TOKEN_ADDR16, 0, 0)] id)).coreMayWrite (16 * (found (recDev 4 [(REC.TOKEN_ADDR16, 0, 0)] id)).rd REC.TOKEN_ADDR16) 192 = false
    ∧ (3 : Nat) ≠ 15 ∧ ((found (recDev 4 [] fun r => { r with userAt := List.replicate 10 0 })).recd.userAt.filter fun t => decide (0 < t + 1000000000)).length = 10
    ∧ (found (recDev 4 [] id)).live 18 ∧ (found (recDev 4 [] id)).wait = [] ∧ (found (recDev 4 [] id)).thm.fcLevel ≤ 2 ∧ (found (recDev 4 [] id)).thm.npuLevel ≤ 7
    ∧ (List.replicate 8 (300 : Int)).length = (thmGroup 0).2 ∧ (∀ r ∈ List.replicate 8 (300 : Int), -32768 ≤ r ∧ r < 32768) ∧ thmInvalid 2001 = true ∧ thmInvalid 2000 = false
    ∧ 10 * ((found (recDev 4 [] id)).thmCritC 0 : Int) ≤ 2000 ∧ (found (recDev 4 [(REC.REC_MODE, 0, 1)] id)).mode = 4
    ∧ (found (recDev 4 [] fun r => { r with backlog := List.replicate 64 rec1 })).live 17 ∧ (found (recDev 4 [] id)).storesNow.recd.backlog.length < 64
    ∧ (found (recDev 4 [] id)).storesNow.flag REC.FULL = false ∧ 64 ≤ (found (recDev 4 [(REC.CLR_BUSY, 0, 1)] fun r => { r with backlog := List.replicate 64 { rec1 with formedAt := 1000 }, clearedAt := 0 })).recd.backlog.length
    ∧ (found (recDev 4 [] id)).now < (found (recDev 4 [] id)).recd.opsAt + 1000000000 ∧ (found (recDev 4 [] id)).rd REC.REC_OPS < 2 ^ 32
    ∧ (found (recDev 4 [(REC.REC_NEXT, 0, 9215), (REC.REC_MODE, 0, 1)] id)).recd.fullRaised = false ∧ (found (recDev 4 [] id)).rd REC.REC_TIDE_OLDEST < 2 ^ 32
    ∧ ((found (recDev 4 [] id)).thmG 0).crit = false := by unfold Dev.live; decide +kernel

/-- R403: a stored record reads back under its number; R405: a clear in another mode than SERVICE is refused with code 3. -/
theorem test_recorder : (after (.recCursorWrite 5) (recDev 4 [] fun r => { r with stored := [(5, recBytes 5 rec1)] })).rd REC.REC_WIN 0 = 5
    ∧ (after (.clearTide 0 1) (recDev 5 [] id)).rd REC.CLR_RES = 3 ∧ (after (.userRecord 7) (recDev 6 [] id)).rd REC.USER_RES = 1 := by decide +kernel

/-- R410: all sensors of the field-core group at 120 °C are above the critical temperature; its divider acts in full. -/
theorem test_thermal : (after (.thermalSample 0 (List.replicate 8 1200) 0) (fed 6 [])).rd THM.FC_DIV = 2 := by decide +kernel

/-! Chapter 17. -/

/-- The update block in a mode, standing still, with supply enough, with hidden state. -/
def updDev (mode : Nat) (l : List (Fld × Nat × Nat)) (f : UpdH → UpdH) : Dev :=
  let d := fed mode ([(SYS.STATIONARY, 0, 1), (UPD.SRC_ADDR16, 0, 0x8000000), (UPD.TOKEN_ADDR16, 0, 0x8000000), (UPD.LEN, 0, 16)] ++ l)
  { d with upd := f { d.upd with challenge := some ([], 0) } }

theorem meets_FirmwareUpdate : (found (updDev 4 [] id)).live 20 ∧ (found (updDev 4 [] id)).rd UPD.ACTIVE ≤ 1 ∧ (found (updDev 5 [] id)).mode ≠ 4
    ∧ (found (updDev 4 [] id)).flag UPD.BUSY = false ∧ (found (updDev 4 [] id)).mode = 4 ∧ (found (updDev 4 [] id)).flag SYS.STATIONARY = true
    ∧ (found (updDev 4 [] id)).flag SYS.CLASS = true ∧ (found (updDev 4 [] id)).flag UPD.OWNER_LOCKED = false
    ∧ (found (updDev 4 [] id)).coreMayWrite (16 * (found (updDev 4 [] id)).rd UPD.SRC_ADDR16) ((found (updDev 4 [] id)).rd UPD.LEN) = true
    ∧ fwHeaderOk (memReadBytes [] 0x80000000 16) 16 = false ∧ (found (updDev 4 [(UPD.SRC_ADDR16, 0, 0)] id)).coreMayWrite 0 16 = false
    ∧ (found (updDev 4 [] fun u => { u with staging := some (default, 0, 7000000) })).upd.staging = some (default, 0, 7000000) ∧ (found (updDev 4 [] id)).upd.staging = none
    ∧ (found (updDev 4 [(UPD.STATE_B, 0, 2)] id)).slotState (found (updDev 4 [(UPD.STATE_B, 0, 2)] id)).otherSlot = 2 ∧ (found (updDev 4 [] id)).slotState 1 ≠ 2
    ∧ (found (updDev 4 [(UPD.STATE_A, 0, 4)] id)).slotState (1 - (found (updDev 4 [(UPD.STATE_A, 0, 4)] id)).otherSlot) = 4
    ∧ (found (updDev 4 [(UPD.STATE_A, 0, 4), (UPD.STATE_B, 0, 3)] id)).slotState 1 = 3 ∧ (found (updDev 4 [(UPD.STATE_A, 0, 4), (UPD.STATE_B, 0, 1)] id)).slotState 1 ≤ 2
    ∧ (found (updDev 4 [] id)).upd.challenge = some ([], 0) ∧ (found (updDev 4 [] id)).now ≤ 0 + 60000000000
    ∧ (found (updDev 4 [] id)).coreMayWrite (16 * (found (updDev 4 [] id)).rd UPD.TOKEN_ADDR16) 192 = true ∧ 16 * (found (updDev 4 [] id)).rd UPD.TOKEN_ADDR16 = 0x80000000
    ∧ (2300 : Nat) < 65536 ∧ (found (updDev 4 [] fun u => { u with challenge := none })).upd.challenge = none
    ∧ (let b := found (updDev 4 [] fun u => { u with staging := some (default, 0, 7000000) })
      ((b.waitUntil 1000000).wr SYS.VLOG_AVG5 2300).now < 7000000 ∧ ((b.waitUntil 1000000).wr SYS.VLOG_AVG5 2300).gateConditions = none)
    ∧ (let b := found (updDev 4 [] fun u => { u with staging := some (default, 0, 500000) })
      500000 ≤ ((b.waitUntil 1000000).wr SYS.VLOG_AVG5 2300).now ∧ ((b.waitUntil 1000000).wr SYS.VLOG_AVG5 2299).gateConditions = some 5)
    ∧ (found (updDev 4 [(UPD.OWNER_LOCKED, 0, 1), (UPD.LOCK_SLOT, 0, 2)] id)).flag UPD.OWNER_LOCKED = true ∧ (found (updDev 4 [(UPD.LOCK_SLOT, 0, 2)] id)).rd UPD.LOCK_SLOT = 2
    ∧ (found (updDev 4 [(UPD.LEN, 0, 544)] id)).coreMayWrite (16 * (found (updDev 4 [(UPD.LEN, 0, 544)] id)).rd UPD.SRC_ADDR16) ((found (updDev 4 [(UPD.LEN, 0, 544)] id)).rd UPD.LEN) = true
    ∧ 16 * (found (updDev 4 [(UPD.LEN, 0, 544)] id)).rd UPD.SRC_ADDR16 = 0x80000000 := by unfold Dev.live; decide +kernel

/-- R424: the old slot is STAGED where it keeps its content. -/
theorem test_confirm : (after .confirmCmd (updDev 4 [(UPD.STATE_A, 0, 4), (UPD.STATE_B, 0, 3)] id)).slotState 1 = 2
    ∧ (after .confirmCmd (updDev 4 [(UPD.STATE_A, 0, 4), (UPD.STATE_B, 0, 0)] id)).slotState 1 = 0 := by decide +kernel

/-- Table 17.4: below 23.0 V in class 24 the update gate answers 5, outside SERVICE 3; R422: a STAGED slot is made PENDING. -/
theorem test_gate : (after (.stageCmd 2299 (1, 2)) (updDev 4 [] id)).rd UPD.RESULT = 5 ∧ (after (.stageCmd 2300 (1, 2)) (updDev 5 [] id)).rd UPD.RESULT = 3
    ∧ (after (.activateCmd 2300) (updDev 4 [(UPD.STATE_B, 0, 2)] id)).rd UPD.PENDING = 1 := by decide +kernel

/-- The header of a firmware image of 544 bytes with empty bodies, under HOST_KEY 0xFF (Table 17.1). -/
def fwHead : List Nat :=
  let h := leBytes 4 0x4957464E ++ leBytes 2 1 ++ leBytes 2 128 ++ leBytes 4 0x01020304 ++ leBytes 4 544 ++ leBytes 4 0 ++ leBytes 4 0 ++ padTo 0x64 [0xFF]
  h ++ leBytes 4 (crc32c h)

/-- A signature block of the factory key over the header, made with the number `k` (R70). -/
def fwBlock (k : Nat) : List Nat := Config.factoryKey ++ (Config.ecdsaSign Config.factoryKey (Config.sha384 fwHead) k ++ List.replicate 16 0)

/-- The image: its ISLAND part signed with the number 1, its HOST part with 2. -/
def fwImage : List Nat := fwHead ++ (fwBlock 1 ++ fwBlock 2)

theorem fwHead_length : fwHead.length = 128 := by decide +kernel
theorem fwBlock_length (k : Nat) : (fwBlock k).length = 208 := by simp [fwBlock, factoryKey_bytes.1, Config.ecdsaSign]
theorem fwImage_length : fwImage.length = 544 := by simp [fwImage, fwHead_length, fwBlock_length]

/-- A field of the header is the image's. -/
theorem fwImage_field (o n : Nat) (h : o + n ≤ 128) : bytesAt fwImage o n = bytesAt fwHead o n := by
  unfold bytesAt fwImage
  rw [List.drop_append_of_le_length (by rw [fwHead_length]; omega), List.take_append_of_le_length (by rw [List.length_drop, fwHead_length]; omega)]

theorem fwImage_fields : fwTotal fwImage = 544 ∧ fwIslandLen fwImage = 0 ∧ fwHostLen fwImage = 0 ∧ fwHostKey fwImage = 0xFF ∧ fwVer fwImage = 0x01020304 := by
  unfold fwTotal fwIslandLen fwHostLen fwHostKey fwVer
  rw [fwImage_field _ _ (by decide), fwImage_field _ _ (by decide), fwImage_field _ _ (by decide), fwImage_field _ _ (by decide), fwImage_field _ _ (by decide)]
  decide +kernel

theorem fwImage_header : fwHeaderOk fwImage 544 = true := by
  unfold fwHeaderOk
  have h : fwImage.take 0x7C = fwHead.take 0x7C := List.take_append_of_le_length (by rw [fwHead_length]; omega)
  rw [fwImage_field _ _ (by decide), fwImage_field _ _ (by decide), fwImage_field _ _ (by decide), fwImage_field _ _ (by decide), h, fwImage_fields.1]
  decide +kernel

theorem fwImage_parts : fwPartsOk fwImage = true := by
  obtain ⟨h1, h2, h3, -, -⟩ := fwImage_fields
  simp [fwPartsOk, h1, h2, h3, fwImage_length]

theorem fwImage_blocks : fwIslandBlock fwImage = fwBlock 1 ++ fwBlock 2 ∧ fwHostBlock fwImage = fwBlock 2 ∧ fwHostBody fwImage = [] ∧ fwImage.take 128 = fwHead := by
  obtain ⟨-, h2, h3, -, -⟩ := fwImage_fields
  refine ⟨?_, ?_, by simp [fwHostBody, h3], ?_⟩
  · rw [fwIslandBlock, h2]
    exact List.drop_left' fwHead_length
  · rw [fwHostBlock, h2, h3, fwImage, ← List.append_assoc]
    exact List.drop_left' (by simp [fwHead_length, fwBlock_length])
  · exact List.take_left' fwHead_length

theorem fwBlock_parts (k : Nat) (l : List Nat) : blockPub (fwBlock k ++ l) = Config.factoryKey
    ∧ blockSig (fwBlock k ++ l) = Config.ecdsaSign Config.factoryKey (Config.sha384 fwHead) k := by
  have he : (Config.ecdsaSign Config.factoryKey (Config.sha384 fwHead) k).length = 96 := by simp [Config.ecdsaSign]
  constructor
  · rw [blockPub, fwBlock, List.append_assoc]
    exact List.take_left' factoryKey_bytes.1
  · rw [blockSig, fwBlock, List.append_assoc, List.drop_left' factoryKey_bytes.1, List.append_assoc]
    exact List.take_left' he

theorem fwImage_signed : fwSigned ⟨fwImage, 1, 2⟩ = true := by
  obtain ⟨h1, h2, h3, h4⟩ := fwImage_blocks
  have hi := fwImage_fields.2.1
  have hb := fwBlock_parts 2 []
  rw [List.append_nil] at hb
  simp [fwSigned, signedBy, h1, h2, h3, h4, hi, (fwBlock_parts 1 (fwBlock 2)).1, (fwBlock_parts 1 (fwBlock 2)).2, hb.1, hb.2]

theorem fwImage_host (d : Dev) : d.hostKeyOk fwImage = true := by
  have hb := fwBlock_parts 2 []
  rw [List.append_nil] at hb
  simp [Dev.hostKeyOk, fwImage_fields.2.2.2.1, fwImage_blocks.2.1, hb.1]

/-- The image passes verification on every device, and END finds nothing wrong with it where no owner has locked the module (R423, R430). -/
theorem fwImage_passes (d : Dev) : d.fwPasses ⟨fwImage, 1, 2⟩ = true := by
  simp only [Dev.fwPasses, fwImage_fields.1, fwImage_header, fwImage_parts, fwImage_signed, fwImage_host, Bool.and_true]

theorem fwImage_verified (d : Dev) (hs : d.fwSlot 0 = ⟨fwImage, 0, 0⟩) (hl : d.flag UPD.OWNER_LOCKED = false) :
    d.opVerify (crc32c fwImage) 544 1 2 = 0 := by
  simp [Dev.opVerify, hs, hl, fwImage_length, fwImage_header, fwImage_parts, fwImage_signed, fwImage_host]

/-- DRAM with the image at the source address. -/
theorem fwImage_read : memReadBytes (memWriteBytes [] 0x80000000 fwImage) 0x80000000 544 = fwImage := by
  have hb : ∀ b ∈ fwImage, b < 256 := by
    have hk : ∀ k, ∀ b ∈ fwBlock k, b < 256 := by
      intro k b hb
      simp only [fwBlock, List.mem_append, List.mem_replicate] at hb
      rcases hb with hb | hb | ⟨-, rfl⟩
      · exact factoryKey_bytes.2 b hb
      · obtain ⟨j, _, rfl⟩ := List.mem_map.1 hb
        exact Nat.mod_lt _ (by decide)
      · decide
    intro b hb
    rcases List.mem_append.1 hb with h | h
    · exact (by decide +kernel : ∀ b ∈ fwHead, b < 256) b h
    · exact (List.mem_append.1 h).elim (hk 1 b) (hk 2 b)
  have h := memReadBytes_memWriteBytes fwImage [] 0x80000000 hb
  rwa [fwImage_length] at h

/-- RECOVERY with or without a session. -/
def opDev (x : Option OpSession) : Dev := updDev 3 [] fun u => { u with session := x, slots := [(0, ⟨[1, 2, 3], 0, 0⟩)] }

/-- A session on SVC of 5 bytes. -/
def opSession : OpSession := ⟨0, 9, 77, 5, 0⟩

theorem meets_Opdofy : (found (updDev 6 [] id)).mode ≠ 3 ∧ (found (opDev none)).mode = 3 ∧ (found (opDev none)).upd.session = none
    ∧ (found (opDev (some opSession))).upd.session = some opSession ∧ (if (found (opDev none)).sys.detected = 1 then 2300 else 1150) ≤ 2300
    ∧ (1149 : Nat) < (if (found (opDev none)).sys.detected = 1 then 2300 else 1150) ∧ (78 : Nat) ≠ opSession.id ∧ ((found (opDev (some opSession))).fwSlot 0).data.length = 3
    ∧ [4, 5].length ≤ maxChunk opSession.transport ∧ 3 + [4, 5].length ≤ opSession.total
    ∧ (found (opDev (some opSession))).opVerify 0 5 1 2 ≠ 0 ∧ (found (opDev none)).fwPasses ((found (opDev none)).fwSlot 0) = false
    ∧ (found (opDev none)).fwPasses ((found (opDev none)).fwSlot 1) = false := by decide +kernel

/-- A session whose image is whole, one on CAN0 that has timed out, and a module whose slot A holds the image. -/
def opWhole : Dev := updDev 3 [] fun u => { u with session := some ⟨0, 9, 77, 544, 0⟩, slots := [(0, ⟨fwImage, 0, 0⟩)] }
def opSlept : Dev := { opDev (some ⟨1, 9, 77, 5, 0⟩) with now := 10000000000 }

theorem meets_Opdofy_end : (found opWhole).upd.session = some ⟨0, 9, 77, 544, 0⟩ ∧ (found opWhole).opVerify (crc32c fwImage) 544 1 2 = 0 :=
  ⟨rfl, fwImage_verified _ rfl rfl⟩

theorem meets_Opdofy_more : (found opSlept).upd.session = some ⟨1, 9, 77, 5, 0⟩ ∧ 0 + 10000000000 ≤ (found opSlept).now ∧ (found opSlept).opExpire.upd.session = none
    ∧ (found (opDev (some opSession))).now < opSession.heardAt + 10000000000 ∧ (found (opDev (some opSession))).opExpire.upd.session = some opSession
    ∧ (0x1000001 : Nat) > 0x1000000 ∧ (1 : Nat) ≠ opSession.transport := by decide +kernel

/-- R430: a chunk at the expected offset is written and acknowledged. -/
theorem test_opdofy : ((after (.dataMsg 0 9 77 3 [4, 5] true) (opDev (some opSession))).fwSlot 0).data = [1, 2, 3, 4, 5]
    ∧ ((after (.dataMsg 0 9 77 0 [4, 5] true) (opDev (some opSession))).fwSlot 0).data = [1, 2, 3] := by decide +kernel

/-! Chapter 18. -/

/-- The fault manager with hidden state. -/
def fltDev (mode : Nat) (f : FltH → FltH) : Dev := let d := fed mode []; { d with flt := f d.flt }

theorem meets_FaultManager : (found (fltDev 6 id)).live 19 ∧ (found (fltDev 6 id)).wait = []
    ∧ (found (fltDev 6 fun x => { x with window := some (50000, 1) })).flt.window = some (50000, 1) ∧ (found (fltDev 6 id)).flt.window = none
    ∧ (0xC3A4 : Nat) ≠ 0xC3A5 ∧ (found (fltDev 3 id)).mode < 4 ∧ 4 ≤ (found (fltDev 7 id)).mode ∧ (found (fltDev 7 id)).mode ≤ 7 ∧ (fltDev 6 id).pdOn 2 = true
    ∧ faultIdx Flt.LSW_SHORT < 1024 ∧ Flt.LSW_SHORT < 65536 ∧ (fltDev 6 id).severity Flt.LSW_SHORT ≤ 3 ∧ (fltDev 6 id).activeCodes.contains Flt.LSW_SHORT = false
    ∧ (fltDev 6 fun x => { x with active := [(Flt.LSW_SHORT, 5)] }).activeCodes.contains Flt.LSW_SHORT = true
    ∧ (fltDev 6 id).refreshGates.safeNow = true ∧ instantFault Flt.LSW_SHORT = false ∧ Flt.DRAM_UNCORRECTABLE < 65536
    ∧ (found (fltDev 6 id)).fus.build = none ∧ (found (fusDev (some ⟨0, [⟨2, 10000000, 0x80000000, 640, 400⟩], [], false, false, false, false⟩) 1)).fus.build
      = some ⟨0, [⟨2, 10000000, 0x80000000, 640, 400⟩], [], false, false, false, false⟩
    ∧ (fltDev 6 fun x => { x with active := [(Flt.LSW_SHORT, 5)] }).flt.active = [(Flt.LSW_SHORT, 5)] ∧ (5 : Nat) ≠ 6
    ∧ ∀ e ∈ (fltDev 6 id).flt.window.toList, (fltDev 6 id).now < e.1 := by unfold Dev.live; decide +kernel

/-- R29: an uncorrectable word inside a frame being built marks the build. -/
theorem test_poison : ((fusDev (some ⟨0, [⟨2, 10000000, 0x80000000, 640, 400⟩], [], false, false, false, false⟩) 1).fusPoison 0x80001000).fus.build.map (fun x => x.poisoned) = some true
    ∧ ((fusDev (some ⟨0, [⟨2, 10000000, 0x80000000, 640, 400⟩], [], false, false, false, false⟩) 1).fusPoison 0x90000000).fus.build.map (fun x => x.poisoned) = some false := by
  decide +kernel

/-- R438: a short of load switch 5 is counted and active; R446: SAFE_ACK takes the key value alone. -/
theorem test_fault : (after (.instantaneousTrip 5) (lswOn default)).flt.active = [(Flt.LSW_SHORT, 5)]
    ∧ (after (.swSet 6) (fltDev 6 id)).rd FLT.SW_PEND = 6 := by decide +kernel

/-! Preset selectors. -/

theorem meets_PresetWrites : (found (fed 4 [])).wait = [] ∧ (found (fed 4 [])).itemsOf 15 = []
    ∧ ([3, 4, 5, 6, 7, 8, 9, 10, 11, 13, 14, 16, 18, 19].all fun b => (found (fed 4 [])).powered b && !(found (fed 4 [])).shutBlocks.contains b) = true
    ∧ ((found (fed 4 [])).rd CAN.EN).testBit 3 = false ∧ ((found (fed 4 [(CAN.EN, 0, 8)])).rd CAN.EN).testBit 3 = true ∧ (found (fed 4 [])).mode = 4
    ∧ (found (fed 6 [])).mode ≠ 4 ∧ (faultRow 0).built = 1 ∧ (found (fed 4 [])).rd QUE.Q_CLASS 9 = 0 ∧ (found (fed 4 [(QUE.Q_CLASS, 9, 1)])).rd QUE.Q_CLASS 9 ≠ 0 ∧ (faultRow 0).fixed = 0 := by decide +kernel

/-- Table 11.5, row LAMP; Table 7.9, row 1: after the selector's write the fields wait or stand at the row's values. -/
theorem test_presets : ([LSW.CH_INRUSH_MODE, LSW.CH_LAMP_RETRIES, LSW.CH_LAMP_WIN_MS].map fun g => (after (.loadPresetWrite 5 1) (fed 6 [])).lastWritten g 5) = [1, 16, 60]
    ∧ (after (.canPresetWrite 3 2) (fed 6 [])).rd CAN.P_TDCO 3 = 15 := by decide +kernel

end Sys2Proof.Tests
end

section
/-! What reset leaves and what a reset of PD2 to PD9 clears (R6, R48, R58): the register file after each stage of `Dev.dropDomains`. -/

namespace Sys2Proof.Machine

/-- Keeping the entries whose key a condition picks. -/
theorem tget?_filterKey {α : Type} (p : Nat → Bool) (k : Nat) (t : List (Nat × α)) :
    tget? k (t.filter fun e => p e.1) = if p k then tget? k t else none := by
  induction t with
  | nil => simp
  | cons e t ih =>
    obtain ⟨a, v⟩ := e
    by_cases hk : a = k
    · subst hk
      by_cases hp : p a <;> simp [tget?_cons, hp, ih]
    · by_cases hp : p a <;> simp [tget?_cons, hp, hk, ih]

/-- Settles O5: the register file of the reset state lists no field. -/
theorem resetHoldsResetValues : Obligations.ResetHoldsResetValues := by
  unfold Obligations.ResetHoldsResetValues
  have hread (f : Fld) (i j : Nat) : State.reset.dev.rd f i j = f.resetAt i j := rfl
  exact ⟨hread, hread SYS.MODE 0 0, rfl, rfl, rfl, rfl, rfl⟩

/-- A field that is reset is listed no more; the others keep their entries. -/
theorem Dev.resetKeys_entry (d : Dev) (p : Nat → Bool) (k : Nat) :
    tget? k (d.resetKeys p).regs = if p k then none else tget? k d.regs := by
  unfold Dev.resetKeys
  rw [tget?_filterKey (fun k => !p k)]
  by_cases hp : p k <;> simp [hp]

/-- A slot's state is written in STATE_A or STATE_B. -/
theorem Dev.slotTo_entry_ne (d : Dev) (n st k : Nat) (ha : k ≠ UPD.STATE_A.key 0 0) (hb : k ≠ UPD.STATE_B.key 0 0) :
    tget? k (d.slotTo n st).regs = tget? k d.regs := by
  refine Dev.wr_entry_ne _ _ _ _ _ _ ?_
  unfold slotField
  split
  · exact ha
  · exact hb

/-- What PD2 feeds starting afresh writes no register but the state of a slot being staged (R84). -/
theorem Dev.dropIsland_entry_ne (d : Dev) (k : Nat) (ha : k ≠ UPD.STATE_A.key 0 0) (hb : k ≠ UPD.STATE_B.key 0 0) :
    tget? k d.dropIsland.regs = tget? k d.regs := by
  have staged (n : Nat) (e : Dev) :
      tget? k (if e.slotState n = 1 then (e.slotTo n 0).setSlot n default else e).regs = tget? k e.regs := by
    split
    · exact e.slotTo_entry_ne n 0 k ha hb
    · rfl
  exact (staged 1 _).trans (staged 0 d)

/-- PD3 going off writes STATIONARY alone. -/
theorem Dev.dropCores_entry_ne (d : Dev) (k : Nat) (hs : k ≠ SYS.STATIONARY.key 0 0) :
    tget? k d.dropCores.regs = tget? k d.regs := Dev.wr_entry_ne _ _ _ _ _ _ hs

/-- The fields that the loss of PD2 to PD9 resets: those of every block they feed, but the persistent ones. -/
def droppedKey (k : Nat) : Bool := (blocksOf [2, 3, 4, 5, 6, 7, 8, 9]).contains (keyBlock k) && !keptKey k

/-- PD2 to PD9 going off, as stages. -/
theorem Dev.dropDomains_true (d : Dev) : d.dropDomains true
    = { (d.resetKeys droppedKey).dropIsland.dropCores.dropPlant with built := [] }.wr SYS.PD_ON 3 := rfl

/-- The register file after PD2 to PD9 went off, but for the four fields that are written then. -/
theorem Dev.dropDomains_entry (d : Dev) (k : Nat) (hp : k ≠ SYS.PD_ON.key 0 0) (hs : k ≠ SYS.STATIONARY.key 0 0)
    (ha : k ≠ UPD.STATE_A.key 0 0) (hb : k ≠ UPD.STATE_B.key 0 0) :
    tget? k (d.dropDomains true).regs = if droppedKey k then none else tget? k d.regs :=
  calc tget? k (d.dropDomains true).regs
      = tget? k (d.resetKeys droppedKey).dropIsland.dropCores.regs := Dev.wr_entry_ne _ _ _ _ _ _ hp
    _ = tget? k (d.resetKeys droppedKey).dropIsland.regs := Dev.dropCores_entry_ne _ k hs
    _ = tget? k (d.resetKeys droppedKey).regs := Dev.dropIsland_entry_ne _ k ha hb
    _ = _ := d.resetKeys_entry droppedKey k

/-- PREG is the one block that PD1 feeds (Table 2.3). -/
theorem blocksOf_island : ∀ b < 21, b ≠ 2 → (blocksOf [2, 3, 4, 5, 6, 7, 8, 9]).contains b = true := by decide

/-- A field of another block than PREG that is not persistent is dropped. -/
theorem droppedKey_of_not_kept {k : Nat} (hk : keyBlock k < 21) (hkept : keptKey k = false) : droppedKey k = true := by
  have hne : keyBlock k ≠ 2 := by
    intro h
    simp [keptKey, h] at hkept
  unfold droppedKey
  rw [blocksOf_island _ hk hne, hkept]
  rfl

/-- PREG keeps its fields. -/
theorem droppedKey_preg {k : Nat} (hk : keyBlock k = 2) : droppedKey k = false := by simp [droppedKey, keptKey, hk]

/-- Settles O18: the hidden state by the stages of `Dev.dropDomains`, the registers by `Dev.dropDomains_entry`. -/
theorem resetClears : Obligations.ResetClears := by
  unfold Obligations.ResetClears
  intro d e
  have hon : e.rd SYS.PD_ON = 3 := Dev.rd_wr _ SYS.PD_ON 3 0 0
  refine ⟨hon, rfl, rfl, rfl, rfl, rfl, rfl, rfl, rfl, rfl, rfl, rfl, rfl, rfl, rfl, rfl, rfl, rfl, ?_, ?_⟩
  · intro k hk hkept hp hs ha hb
    rw [d.dropDomains_entry k hp hs ha hb, droppedKey_of_not_kept hk hkept, if_pos rfl]
  · intro k hk
    have other (f : Fld) (h : keyBlock (f.key 0 0) ≠ 2) : k ≠ f.key 0 0 := fun hf => h (hf ▸ hk)
    rw [d.dropDomains_entry k (other _ (by decide)) (other _ (by decide)) (other _ (by decide)) (other _ (by decide)),
      droppedKey_preg hk]
    rfl

end Sys2Proof.Machine
end

section
/-! A register write by access code (R7, R87): what a plain field of the register takes of the word, what that leaves of every other
field, and the fields of a register one after the other. -/

namespace Sys2Proof.Machine

/-! What a Shadowed write leaves. -/

/-- A Shadowed write takes effect at once, or waits (R87). -/
theorem Dev.shadow_cases (d : Dev) (f : Fld) (v i j : Nat) :
    d.shadow f v i j = { d.wr f v i j with wait := tdel (f.key i j) d.wait }
    ∨ d.shadow f v i j = { d with wait := tset (f.key i j) (v % 2 ^ f.w) d.wait } := by
  unfold Dev.shadow
  dsimp only
  split
  · exact .inl rfl
  · exact .inr rfl

/-- A Shadowed write leaves the entries of other fields in force. -/
theorem Dev.shadow_entry_ne (d : Dev) (f : Fld) (v i j k : Nat) (h : k ≠ f.key i j) :
    tget? k (d.shadow f v i j).regs = tget? k d.regs := by
  rcases d.shadow_cases f v i j with hs | hs <;> rw [hs]
  exact d.wr_entry_ne f v i j k h

/-- A Shadowed write leaves what waits for other fields. -/
theorem Dev.shadow_wait_ne (d : Dev) (f : Fld) (v i j k : Nat) (h : k ≠ f.key i j) :
    tget? k (d.shadow f v i j).wait = tget? k d.wait := by
  rcases d.shadow_cases f v i j with hs | hs <;> rw [hs]
  · exact tget?_tdel_ne h _
  · exact tget?_tset_ne h _ _

/-- The value last written to a Shadowed field, in force or waiting. -/
@[simp] theorem Dev.lastWritten_shadow (d : Dev) (f : Fld) (v i j : Nat) : (d.shadow f v i j).lastWritten f i j = v % 2 ^ f.w := by
  unfold Dev.lastWritten
  rcases d.shadow_cases f v i j with hs | hs <;> rw [hs]
  · rw [tget?_tdel_self]
    exact d.rd_wr f v i j
  · rw [tget?_tset_self]
    rfl

@[simp] theorem Dev.shadow_out (d : Dev) (f : Fld) (v i j : Nat) : (d.shadow f v i j).out = d.out := by
  rcases d.shadow_cases f v i j with hs | hs <;> rw [hs]
  rfl

/-! A field's key. -/

theorem Fld.addr_of_find {f : Fld} {a i j : Nat} (h : f.find a = some (i, j)) : f.addr i j = a := by
  unfold Fld.find at h
  split at h
  · cases h
  · obtain ⟨hhere, heq⟩ := Option.ite_none_right_eq_some.mp h
    obtain ⟨rfl, rfl⟩ := Prod.mk.inj (Option.some.inj heq)
    exact hhere.1

/-- Every field starts within its register (R36). -/
theorem blockFields_lo : ∀ b < 21, ∀ f ∈ blockFields b, f.lo < 32 := by decide +kernel

theorem mem_fieldsAt {a : Nat} {p : Fld × Nat × Nat} (h : p ∈ fieldsAt a) :
    p.1 ∈ blockFields ((a - 0x40000000) / 0x10000) ∧ p.1.addr p.2.1 p.2.2 = a := by
  obtain ⟨f, hf, hp⟩ := List.mem_filterMap.mp h
  obtain ⟨⟨i, j⟩, hfind, rfl⟩ := Option.map_eq_some_iff.mp hp
  exact ⟨hf, Fld.addr_of_find hfind⟩

/-- A field of a register has the register's address in its key. -/
theorem key_of_mem_fieldsAt {a : Nat} {p : Fld × Nat × Nat} (ha : a < 0x40150000) (h : p ∈ fieldsAt a) :
    p.1.key p.2.1 p.2.2 / 32 = a := by
  obtain ⟨hf, haddr⟩ := mem_fieldsAt h
  have hlo := blockFields_lo _ (by omega) p.1 hf
  unfold Fld.key
  rw [haddr]
  omega

/-! The writes of one register. -/

/-- From `d` to `e` no register field but those with the keys given and block `n`'s LOCKED_WRITE changes, no Shadowed write to another
field comes or goes, nothing is sent, and a LOCKED_WRITE that is set stays set. -/
structure WritesOnly (n : Nat) (ks : List Nat) (d e : Dev) : Prop where
  regs : onlyKeys ((lockedFld n).key 0 0 :: ks) d e
  wait : ∀ k, k ∉ ks → tget? k e.wait = tget? k d.wait
  out : e.out = d.out
  locked : d.rd (lockedFld n) = 1 → e.rd (lockedFld n) = 1

theorem WritesOnly.refl (n : Nat) (ks : List Nat) (d : Dev) : WritesOnly n ks d d := ⟨fun _ _ => rfl, fun _ _ => rfl, rfl, id⟩

theorem WritesOnly.trans {n : Nat} {ks ls : List Nat} {d e g : Dev} (h : WritesOnly n ks d e) (h' : WritesOnly n ls e g) :
    WritesOnly n (ks ++ ls) d g where
  regs k hk := by
    simp only [List.mem_cons, List.mem_append, not_or] at hk
    obtain ⟨hlock, hks, hls⟩ := hk
    rw [h'.regs k (by simp [hlock, hls]), h.regs k (by simp [hlock, hks])]
  wait k hk := by
    simp only [List.mem_append, not_or] at hk
    rw [h'.wait k hk.2, h.wait k hk.1]
  out := h'.out.trans h.out
  locked := h'.locked ∘ h.locked

theorem WritesOnly.wr {n : Nat} (d : Dev) (f : Fld) (v i j : Nat) (h : (lockedFld n).key 0 0 ≠ f.key i j) :
    WritesOnly n [f.key i j] d (d.wr f v i j) where
  regs k hk := d.wr_entry_ne f v i j k (by simp_all)
  wait _ _ := rfl
  out := rfl
  locked hl := by rw [d.rd_wr_ne f _ v i j 0 0 h, hl]

theorem WritesOnly.shadow {n : Nat} (d : Dev) (f : Fld) (v i j : Nat) (h : (lockedFld n).key 0 0 ≠ f.key i j) :
    WritesOnly n [f.key i j] d (d.shadow f v i j) where
  regs k hk := d.shadow_entry_ne f v i j k (by simp_all)
  wait k hk := d.shadow_wait_ne f v i j k (by simp_all)
  out := d.shadow_out f v i j
  locked hl := by
    unfold Dev.rd at hl ⊢
    rw [d.shadow_entry_ne f v i j _ h, hl]

theorem Dev.lockedWrite_rd (d : Dev) (n : Nat) : (d.lockedWrite n).rd (lockedFld n) = 1 := d.rd_wr (lockedFld n) 1 0 0

theorem WritesOnly.lockedWrite (n : Nat) (ks : List Nat) (d : Dev) : WritesOnly n ks d (d.lockedWrite n) where
  regs k hk := d.wr_entry_ne _ 1 0 0 k (by simp_all)
  wait _ _ := rfl
  out := rfl
  locked _ := d.lockedWrite_rd n

/-- What the fields `ks` and LOCKED_WRITE leave out reads as before. -/
theorem WritesOnly.rd_eq {n : Nat} {ks : List Nat} {d e : Dev} (h : WritesOnly n ks d e) (f : Fld) (i j : Nat)
    (hk : f.key i j ∉ (lockedFld n).key 0 0 :: ks) : e.rd f i j = d.rd f i j := by
  unfold Dev.rd; rw [h.regs _ hk]

theorem WritesOnly.lastWritten_eq {n : Nat} {ks : List Nat} {d e : Dev} (h : WritesOnly n ks d e) (f : Fld) (i j : Nat)
    (hk : f.key i j ∉ (lockedFld n).key 0 0 :: ks) : e.lastWritten f i j = d.lastWritten f i j := by
  unfold Dev.lastWritten
  rw [h.wait _ (fun hmem => hk (List.mem_cons_of_mem _ hmem)), h.rd_eq f i j hk]

/-! One plain field. -/

/-- What a plain field takes of the word `w` by its access code; `b` is the device before the write (R7, R87). -/
def Dev.plainWrite (b : Dev) (w : Nat) (p : Fld × Nat × Nat) (d : Dev) : Dev :=
  let v := fieldPart w p.1
  let n := keyBlock (p.1.key p.2.1 p.2.2)
  if b.queueUnbuilt p.1 p.2.1 then d
  else match p.1.acc with
    | .ro | .wo => d
    | .rw | .pw => d.wr p.1 v p.2.1 p.2.2
    | .w1c => (d.wr p.1 (d.rd p.1 p.2.1 p.2.2 - Nat.land (d.rd p.1 p.2.1 p.2.2) v) p.2.1 p.2.2).note .route
    | .rws => d.shadow p.1 v p.2.1 p.2.2
    | .rwl => if b.enabled n (elemOf n (p.1.addr p.2.1 p.2.2)) then d.lockedWrite n else d.wr p.1 v p.2.1 p.2.2

/-- What a plain field holds once it has taken its part of the word `w`; `n` and `a` are its block and address. -/
def fieldTaken (b : Dev) (n a w : Nat) (p : Fld × Nat × Nat) (d : Dev) : Prop :=
  if b.queueUnbuilt p.1 p.2.1 then d.lastWritten p.1 p.2.1 p.2.2 = b.lastWritten p.1 p.2.1 p.2.2 else
  match p.1.acc with
  | .ro | .wo => d.rd p.1 p.2.1 p.2.2 = b.rd p.1 p.2.1 p.2.2
  | .rw | .pw => d.rd p.1 p.2.1 p.2.2 = fieldPart w p.1
  | .w1c => d.rd p.1 p.2.1 p.2.2 = (b.rd p.1 p.2.1 p.2.2 - Nat.land (b.rd p.1 p.2.1 p.2.2) (fieldPart w p.1)) % 2 ^ p.1.w
  | .rws => d.lastWritten p.1 p.2.1 p.2.2 = fieldPart w p.1
  | .rwl => if b.enabled n (elemOf n a) then d.rd p.1 p.2.1 p.2.2 = b.rd p.1 p.2.1 p.2.2 ∧ d.rd (lockedFld n) = 1
      else d.rd p.1 p.2.1 p.2.2 = fieldPart w p.1

/-- A field's part of a word fits the field. -/
@[simp] theorem fieldPart_mod (w : Nat) (f : Fld) : fieldPart w f % 2 ^ f.w = fieldPart w f := Nat.mod_mod _ _

/-- No command stands behind a plain field, so its access code says all the bus does (R7). -/
theorem busField_plain {p : Fld × Nat × Nat} (hp : plainField p.1 = true) (x : Aux) (b : Dev) (w : Nat) (d : Dev) (m : Memory) :
    busField x b w p (d, m) = (b.plainWrite w p d, m) := by
  simp only [plainField, Bool.and_eq_true, Option.isNone_iff_eq_none, Bool.not_eq_true'] at hp
  obtain ⟨⟨⟨⟨⟨-, hhook⟩, hmem⟩, hpart⟩, -⟩, -⟩ := hp
  unfold busField Dev.plainWrite
  simp only [hhook, hmem, hpart]
  by_cases hq : b.queueUnbuilt p.1 p.2.1 = true
  · simp [hq]
  cases p.1.acc with
  | rwl => simp [hq]; split <;> rfl
  | _ => simp [hq]

theorem plainWrite_writesOnly {n : Nat} (b : Dev) (w : Nat) (p : Fld × Nat × Nat) (d : Dev)
    (hn : keyBlock (p.1.key p.2.1 p.2.2) = n) (hl : (lockedFld n).key 0 0 ≠ p.1.key p.2.1 p.2.2) :
    WritesOnly n [p.1.key p.2.1 p.2.2] d (b.plainWrite w p d) := by
  unfold Dev.plainWrite
  simp only [hn]
  by_cases hq : b.queueUnbuilt p.1 p.2.1 = true
  · rw [if_pos hq]; exact .refl ..
  rw [if_neg hq]
  cases p.1.acc with
  | ro => exact .refl ..
  | wo => exact .refl ..
  | rw => exact .wr d _ _ _ _ hl
  | pw => exact .wr d _ _ _ _ hl
  | w1c => exact ⟨(WritesOnly.wr d _ _ _ _ hl).regs, fun _ _ => rfl, rfl, (WritesOnly.wr d _ _ _ _ hl).locked⟩
  | rws => exact .shadow d _ _ _ _ hl
  | rwl =>
    dsimp only
    split
    · exact .lockedWrite ..
    · exact .wr d _ _ _ _ hl

/-- A plain field that stands as before the write takes its part of the word. -/
theorem plainWrite_taken {n a : Nat} (b : Dev) (w : Nat) (p : Fld × Nat × Nat) (d : Dev)
    (hn : keyBlock (p.1.key p.2.1 p.2.2) = n) (ha : p.1.addr p.2.1 p.2.2 = a) (hl : (lockedFld n).key 0 0 ≠ p.1.key p.2.1 p.2.2)
    (hrd : d.rd p.1 p.2.1 p.2.2 = b.rd p.1 p.2.1 p.2.2)
    (hlast : d.lastWritten p.1 p.2.1 p.2.2 = b.lastWritten p.1 p.2.1 p.2.2) :
    fieldTaken b n a w p (b.plainWrite w p d) := by
  unfold Dev.plainWrite fieldTaken
  simp only [hn, ha]
  by_cases hq : b.queueUnbuilt p.1 p.2.1 = true
  · simp only [if_pos hq, hlast]
  simp only [if_neg hq]
  cases p.1.acc with
  | ro => exact hrd
  | wo => exact hrd
  | rw => simp
  | pw => simp
  | w1c => simp [hrd]
  | rws => simp
  | rwl =>
    by_cases he : b.enabled n (elemOf n a) = true
    · simp only [if_pos he]
      exact ⟨by rw [Dev.lockedWrite, Dev.rd_wr_ne _ _ _ _ _ _ _ _ hl.symm, hrd], d.lockedWrite_rd n⟩
    · simp [if_neg he]

/-- What a field has taken, writes to other fields leave. -/
theorem fieldTaken.kept {n a w : Nat} {b d e : Dev} {p : Fld × Nat × Nat} {ks : List Nat} (h : fieldTaken b n a w p d)
    (hw : WritesOnly n ks d e) (hk : p.1.key p.2.1 p.2.2 ∉ (lockedFld n).key 0 0 :: ks) : fieldTaken b n a w p e := by
  unfold fieldTaken at h ⊢
  rw [hw.rd_eq _ _ _ hk, hw.lastWritten_eq _ _ _ hk]
  by_cases hq : b.queueUnbuilt p.1 p.2.1 = true
  · simpa only [if_pos hq] using h
  simp only [if_neg hq] at h ⊢
  cases hacc : p.1.acc with
  | rwl =>
    simp only [hacc] at h ⊢
    by_cases he : b.enabled n (elemOf n a) = true
    · simp only [if_pos he] at h ⊢
      exact ⟨h.1, hw.locked h.2⟩
    · simpa only [if_neg he] using h
  | _ => simpa only [hacc] using h

/-! Every field of a register. -/

/-- Fields with distinct keys take their parts one after the other, each as if alone. -/
theorem plainWrites_taken {n a : Nat} (b : Dev) (w : Nat) (fs : List (Fld × Nat × Nat))
    (hfs : ∀ p ∈ fs, keyBlock (p.1.key p.2.1 p.2.2) = n ∧ p.1.addr p.2.1 p.2.2 = a ∧ (lockedFld n).key 0 0 ≠ p.1.key p.2.1 p.2.2)
    (hnodup : (fs.map fun p => p.1.key p.2.1 p.2.2).Nodup) :
    ∀ d : Dev, (∀ p ∈ fs, d.rd p.1 p.2.1 p.2.2 = b.rd p.1 p.2.1 p.2.2 ∧ d.lastWritten p.1 p.2.1 p.2.2 = b.lastWritten p.1 p.2.1 p.2.2) →
      WritesOnly n (fs.map fun p => p.1.key p.2.1 p.2.2) d (forAll fs (b.plainWrite w) d)
      ∧ ∀ p ∈ fs, fieldTaken b n a w p (forAll fs (b.plainWrite w) d) := by
  induction fs with
  | nil => exact fun d _ => ⟨.refl .., by simp⟩
  | cons p fs ih =>
    intro d hd
    obtain ⟨⟨hn, ha, hl⟩, htail⟩ := List.forall_mem_cons.mp hfs
    obtain ⟨⟨hrd, hlast⟩, hdtail⟩ := List.forall_mem_cons.mp hd
    obtain ⟨hnot, hnodup⟩ := List.nodup_cons.mp hnodup
    have hstep := plainWrite_writesOnly b w p d hn hl
    have hrest : ∀ q ∈ fs, q.1.key q.2.1 q.2.2 ∉ [(lockedFld n).key 0 0, p.1.key p.2.1 p.2.2] := by
      intro q hq hmem
      rcases List.mem_cons.mp hmem with h | h
      · exact (htail q hq).2.2 h.symm
      · exact hnot (List.mem_map.mpr ⟨q, hq, List.mem_singleton.mp h⟩)
    obtain ⟨hwrites, htaken⟩ := ih htail hnodup (b.plainWrite w p d) fun q hq =>
      ⟨(hstep.rd_eq _ _ _ (hrest q hq)).trans (hdtail q hq).1, (hstep.lastWritten_eq _ _ _ (hrest q hq)).trans (hdtail q hq).2⟩
    refine ⟨hstep.trans hwrites, List.forall_mem_cons.mpr ⟨?_, htaken⟩⟩
    refine (plainWrite_taken b w p d hn ha hl hrd hlast).kept hwrites ?_
    exact fun hmem => (List.mem_cons.mp hmem).elim (fun h => hl h.symm) hnot

/-- A limit of R89 bears on none but the fields listed. -/
theorem limits_plain {f : Fld} (hp : plainField f = true) (d : Dev) (i j : Nat) : (d.limitsA f i j).limitsB f i = d := by
  simp only [plainField, Bool.and_eq_true, Bool.not_eq_true'] at hp
  obtain ⟨⟨-, hlimited⟩, -⟩ := hp
  simp only [limitedFields, List.any_cons, List.any_nil, Bool.or_false, Bool.or_eq_false_iff] at hlimited
  simp [Dev.limitsA, Dev.limitsB, hlimited]

theorem slotLimits_plain {f : Fld} (hp : plainField f = true) (b d : Dev) (i : Nat) : Dev.slotLimits b d f i = d := by
  simp only [plainField, Bool.and_eq_true, Bool.not_eq_true'] at hp
  have hslot : f.ofSlot = false := by
    rw [Fld.ofSlot, Bool.decide_and]
    exact hp.2
  simp [Dev.slotLimits, hslot]

theorem regLimits_plain {fs : List (Fld × Nat × Nat)} (hfs : ∀ p ∈ fs, plainField p.1 = true) (b d : Dev) :
    Dev.regLimits b d fs = d := by
  have hheld : forAll fs (fun p d => (d.limitsA p.1 p.2.1 p.2.2).limitsB p.1 p.2.1) d = d :=
    forAll_keeps (· = d) fs _ (fun p hp e he => by rw [limits_plain (hfs p hp), he]) d rfl
  unfold Dev.regLimits
  simp only [hheld]
  cases fs with
  | nil => rfl
  | cons p fs => exact slotLimits_plain (hfs p List.mem_cons_self) b d p.2.1

theorem isSelector_plain {p : Fld × Nat × Nat} (hp : plainField p.1 = true) : isSelector p = false := by
  simp only [plainField, Bool.and_eq_true, Option.isNone_iff_eq_none] at hp
  obtain ⟨⟨⟨⟨⟨hsel, -⟩, -⟩, -⟩, -⟩, -⟩ := hp
  simp [isSelector, hsel]

/-- Steps that leave DRAM alone leave it alone together. -/
theorem forAll_pair {α : Type} (m : Memory) (f : α → Dev × Memory → Dev × Memory) (g : α → Dev → Dev) (l : List α)
    (h : ∀ a ∈ l, ∀ d, f a (d, m) = (g a d, m)) : ∀ d, forAll l f (d, m) = (forAll l g d, m) := by
  induction l with
  | nil => exact fun _ => rfl
  | cons a l ih =>
    intro d
    rw [forAll_cons, h a List.mem_cons_self, ih fun b hb => h b (List.mem_cons_of_mem _ hb), forAll_cons]

/-- A register of plain fields: no selector expands, no limit bears, and each field takes its part. -/
theorem busFields_plain {fs : List (Fld × Nat × Nat)} (hfs : ∀ p ∈ fs, plainField p.1 = true) (x : Aux) (w : Nat) (m : Memory) (b : Dev) :
    busFields x fs w m b = (forAll fs (b.plainWrite w) b, m) := by
  have hsel : fs.filter isSelector = [] := List.filter_eq_nil_iff.mpr fun p hp => by simp [isSelector_plain (hfs p hp)]
  have hany : fs.any isSelector = false := List.any_eq_false.mpr fun p hp => by simp [isSelector_plain (hfs p hp)]
  have hrest : fs.filter (fun p => !isSelector p) = fs := List.filter_eq_self.mpr fun p hp => by simp [isSelector_plain (hfs p hp)]
  have hchanged : b.busChanged false w fs = fs := rfl
  unfold busFields
  simp only [hsel, hany, hrest, hchanged, forAll_nil]
  rw [forAll_pair m (busField x b w) (b.plainWrite w) fs fun p hp d => busField_plain (hfs p hp) x b w d m, regLimits_plain hfs]

/-- The bus write of a plain register of a live block by an admitted master (R4, R18, R37). -/
theorem busWrite_plain {mst : Master} {a : Nat} {b : Dev} (ha : plainRegister a) (hlive : b.live ((a - 0x40000000) / 0x10000))
    (hmst : busAdmits (fieldsAt a) mst = true) (w : Nat) (x : Aux) (m : Memory) :
    busWrite mst a 32 w x m b = ((forAll (fieldsAt a) (b.plainWrite (w % 2 ^ 32)) b).busOk, m) := by
  obtain ⟨hlo, hhi, halign, hpreg, hqueue, hmap, hplain, -⟩ := ha
  obtain ⟨hon, hopen⟩ := hlive
  have hport : ¬ ((a - 0x40000000) / 0x10000 = 16 ∧ 0x1000 ≤ a % 0x10000 ∧ a % 0x10000 < 0x2000
      ∧ 0x24 ≤ a % 0x10000 % 0x40 ∧ a % 0x10000 % 0x40 ≤ 0x34) :=
    fun h => hqueue ⟨h.1, h.2.1, h.2.2.1⟩
  have hword : busWord x a (w % 2 ^ 32) m b = (forAll (fieldsAt a) (b.plainWrite (w % 2 ^ 32)) b, m) := by
    simp only [busWord, mapWritten, hmap, busFields_plain hplain, Bool.false_and, Bool.false_eq_true, if_false]
  unfold busWrite
  rw [if_pos ⟨hlo, hhi⟩, if_neg (by omega)]
  unfold busRegister
  simp only [hon, hmst, hopen, hpreg, hport, hword, Bool.not_true, Bool.false_eq_true, if_false]
  split
  · rename_i hnone
    rw [hnone.1, forAll_nil]
  · rfl

/-- The fields of a register lie in its block, at its address, and not in the register of LOCKED_WRITE. -/
theorem fieldsAt_placed {a : Nat} (ha : a < 0x40150000) (hoff : a % 0x10000 ≠ 4) : ∀ p ∈ fieldsAt a,
    keyBlock (p.1.key p.2.1 p.2.2) = (a - 0x40000000) / 0x10000 ∧ p.1.addr p.2.1 p.2.2 = a
      ∧ (lockedFld ((a - 0x40000000) / 0x10000)).key 0 0 ≠ p.1.key p.2.1 p.2.2 := by
  intro p hp
  have hkey := key_of_mem_fieldsAt ha hp
  refine ⟨by rw [keyBlock, hkey], (mem_fieldsAt hp).2, fun h => hoff ?_⟩
  rw [← h] at hkey
  simp only [lockedFld, Fld.key, Fld.addr] at hkey
  omega

theorem onlyKeys.busOk {ks : List Nat} {b d : Dev} (h : onlyKeys ks b d) : onlyKeys ks b d.busOk := h

@[simp] theorem Dev.busOk_lastWritten (d : Dev) (f : Fld) (i j : Nat) : d.busOk.lastWritten f i j = d.lastWritten f i j := rfl

theorem fieldTaken.busOk {n a w : Nat} {b d : Dev} {p : Fld × Nat × Nat} (h : fieldTaken b n a w p d) : fieldTaken b n a w p d.busOk := by
  simpa only [fieldTaken, Dev.busOk_rd, Dev.busOk_lastWritten] using h

/-- A bus write that leaves DRAM alone. -/
theorem exec_registerWrite {mst : Master} {a width w : Nat} {x : Aux} {s : State} {d : Dev}
    (h : busWrite mst a width w x s.dram s.dev.begin = (d, s.dram)) :
    exec (.registerWrite mst a width w x) s = .next { s with dev := d.finish } :=
  calc exec (.registerWrite mst a width w x) s
      = onBoth (busWrite mst a width w x) s := rfl
    _ = _ := by rw [onBoth, h]

/-- Settles O10: the fields of the register take their parts by `plainWrites_taken`. -/
theorem registerWriteByAccessCode : Obligations.RegisterWriteByAccessCode := by
  unfold Obligations.RegisterWriteByAccessCode
  intro mst a w x s b ha hoff hlive hmst
  obtain ⟨-, hhi, -, -, -, -, -, hnodup⟩ := id ha
  obtain ⟨hwrites, htaken⟩ := plainWrites_taken b (w % 2 ^ 32) (fieldsAt a) (fieldsAt_placed hhi hoff) hnodup b fun _ _ => ⟨rfl, rfl⟩
  refine ⟨(forAll (fieldsAt a) (b.plainWrite (w % 2 ^ 32)) b).busOk, exec_registerWrite (busWrite_plain ha hlive hmst w x s.dram),
    hwrites.regs.busOk, ?_, fun p hp => (htaken p hp).busOk⟩
  exact congrArg (· ++ [Emission.busResponse 0]) hwrites.out

end Sys2Proof.Machine
end

section
/-! Preset expansions (R9, R90): the cells of a table written one after the other, where the image replaces none. -/

namespace Sys2Proof.Machine

/-! Lists. -/

theorem cons_congr {α : Type} {a b : α} {l m : List α} (h : a = b) (h' : l = m) : a :: l = b :: m := by rw [h, h']

/-- Distinct numbers under a map that tells them apart. -/
theorem nodup_map_of_inj {l : List Nat} {f : Nat → Nat} (hl : l.Nodup) (hf : ∀ a b, f a = f b → a = b) : (l.map f).Nodup :=
  List.Pairwise.map f (fun a b hne heq => hne (hf a b heq)) hl

/-! One cell. -/

/-- A write of an expansion leaves the entries of other fields. -/
theorem Dev.presetTo_entry_ne (d : Dev) (f : Fld) (v i j k : Nat) (h : k ≠ f.key i j) :
    tget? k (d.presetTo f v i j).regs = tget? k d.regs := by
  unfold Dev.presetTo
  split
  · exact d.shadow_entry_ne f v i j k h
  · exact d.wr_entry_ne f v i j k h

/-- A write of an expansion leaves what waits for other fields. -/
theorem Dev.presetTo_wait_ne (d : Dev) (f : Fld) (v i j k : Nat) (h : k ≠ f.key i j) :
    tget? k (d.presetTo f v i j).wait = tget? k d.wait := by
  unfold Dev.presetTo
  split
  · exact d.shadow_wait_ne f v i j k h
  · rfl

/-- A field that is not Shadowed is in force at once. -/
theorem Dev.presetTo_rd (d : Dev) (f : Fld) (v i j : Nat) (h : f.acc ≠ .rws) : (d.presetTo f v i j).rd f i j = v % 2 ^ f.w := by
  unfold Dev.presetTo
  rw [if_neg h, Dev.rd_wr]

/-- The value an expansion gave, in force or waiting, where none waited before. -/
theorem Dev.presetTo_lastWritten (d : Dev) (f : Fld) (v i j : Nat) (h : tget? (f.key i j) d.wait = none) :
    (d.presetTo f v i j).lastWritten f i j = v % 2 ^ f.w := by
  unfold Dev.presetTo
  split
  · exact d.lastWritten_shadow f v i j
  · unfold Dev.lastWritten
    rw [Dev.wr_wait, h, Option.getD_none, Dev.rd_wr]

@[simp] theorem Dev.presetTo_built (d : Dev) (f : Fld) (v i j : Nat) : (d.presetTo f v i j).built = d.built := by
  unfold Dev.presetTo
  split
  · rcases d.shadow_cases f v i j with h | h <;> rw [h]
    rfl
  · rfl

/-- Nothing waits for a field: what was last written to it is in force. -/
theorem Dev.lastWritten_of_none (d : Dev) (f : Fld) (i j : Nat) (h : tget? (f.key i j) d.wait = none) :
    d.lastWritten f i j = d.rd f i j := by
  unfold Dev.lastWritten; rw [h]; rfl

/-! The image replaces no cell (R90). -/

theorem Dev.itemsOf_congr {d e : Dev} (h : e.built = d.built) (r : Nat) : e.itemsOf r = d.itemsOf r := by
  unfold Dev.itemsOf; rw [h]

theorem Dev.expand_unreplaced {d : Dev} (h : d.itemsOf 15 = []) (sel : Fld) (si v : Nat) (f : Fld) (i j : Nat) (x : Option Nat) :
    d.expand sel si v f i j x = x.elim d (fun y => d.presetTo f y i j) := by
  have hnone : d.override? sel si v f i j = none := by unfold Dev.override?; rw [h]; rfl
  unfold Dev.expand
  rw [hnone]
  cases x <;> rfl

theorem Dev.definesPreset_unreplaced {d : Dev} (h : d.itemsOf 15 = []) (sel : Fld) (si v : Nat) : d.definesPreset sel si v = false := by
  unfold Dev.definesPreset; rw [h]; rfl

/-- An expansion with no cell replaced is held to no limit. -/
theorem Dev.presetHeld_unreplaced {d : Dev} (h : d.itemsOf 15 = []) (sel : Fld) (si v : Nat) (f : Dev → Dev) :
    d.presetHeld sel si v f = f d := by
  have hnone : d.cellKeys sel si v = [] := by unfold Dev.cellKeys; rw [h]; rfl
  unfold Dev.presetHeld
  rw [hnone, forAll_nil]

/-! The cells of a table. -/

/-- A cell of an expansion table: a field's element and its value, none where the table defines none. -/
structure TableCell where
  fld : Fld
  i : Nat
  j : Nat
  value : Option Nat

def TableCell.key (c : TableCell) : Nat := c.fld.key c.i c.j

theorem TableCell.rd_congr {c : TableCell} {d e : Dev} (h : tget? c.key e.regs = tget? c.key d.regs) :
    e.rd c.fld c.i c.j = d.rd c.fld c.i c.j := congrArg (Option.getD · (c.fld.resetAt c.i c.j)) h

/-- What a cell's field holds after the expansion, `b` being the device before it. -/
def TableCell.result (c : TableCell) (b : Dev) : Nat := c.value.elim (b.rd c.fld c.i c.j) (· % 2 ^ c.fld.w)

/-- The expansion of a selector's value into cells. -/
def Dev.expandAll (d : Dev) (sel : Fld) (si v : Nat) (cs : List TableCell) : Dev :=
  forAll cs (fun c d => d.expand sel si v c.fld c.i c.j c.value) d

@[simp] theorem Dev.expandAll_nil (d : Dev) (sel : Fld) (si v : Nat) : d.expandAll sel si v [] = d := rfl

@[simp] theorem Dev.expandAll_cons (d : Dev) (sel : Fld) (si v : Nat) (c : TableCell) (cs : List TableCell) :
    d.expandAll sel si v (c :: cs) = (d.expand sel si v c.fld c.i c.j c.value).expandAll sel si v cs := rfl

/-- A selector takes its value and expands. -/
def Dev.presetTaken (d : Dev) (sel : Fld) (si v : Nat) (cs : List TableCell) : Dev := (d.wr sel v si).expandAll sel si v cs

/-- From `d` to `e` the cells took their values, and no other register changed. -/
structure Expanded (cs : List TableCell) (d e : Dev) : Prop where
  last : ∀ c ∈ cs, e.lastWritten c.fld c.i c.j = c.result d
  inForce : ∀ c ∈ cs, c.fld.acc ≠ .rws → e.rd c.fld c.i c.j = c.result d
  regs : onlyKeys (cs.map TableCell.key) d e
  wait : ∀ k, k ∉ cs.map TableCell.key → tget? k e.wait = tget? k d.wait
  built : e.built = d.built

/-- One cell of an expansion. -/
theorem Dev.expand_expanded {d : Dev} (h : d.itemsOf 15 = []) (sel : Fld) (si v : Nat) (c : TableCell) (hw : tget? c.key d.wait = none) :
    Expanded [c] d (d.expand sel si v c.fld c.i c.j c.value) := by
  rw [Dev.expand_unreplaced h]
  unfold TableCell.key at hw
  rcases hx : c.value with _ | y
  · refine ⟨?_, ?_, fun _ _ => rfl, fun _ _ => rfl, rfl⟩
    · simpa [TableCell.result, hx] using d.lastWritten_of_none _ _ _ hw
    · simp [TableCell.result, hx]
  · refine ⟨?_, ?_, fun k hk => ?_, fun k hk => ?_, ?_⟩
    · simpa [TableCell.result, hx] using d.presetTo_lastWritten c.fld y c.i c.j hw
    · simpa [TableCell.result, hx] using d.presetTo_rd c.fld y c.i c.j
    · exact d.presetTo_entry_ne _ _ _ _ k (by simpa [TableCell.key] using hk)
    · exact d.presetTo_wait_ne _ _ _ _ k (by simpa [TableCell.key] using hk)
    · exact d.presetTo_built ..

theorem TableCell.result_congr {c : TableCell} {d e : Dev} (h : tget? c.key e.regs = tget? c.key d.regs) : c.result e = c.result d := by
  unfold TableCell.result
  rw [c.rd_congr h]

/-- Expansions into distinct fields, one after the other. -/
theorem Expanded.append {cs ls : List TableCell} {d e g : Dev} (h : Expanded cs d e) (h' : Expanded ls e g)
    (hdisj : ∀ c ∈ ls, c.key ∉ cs.map TableCell.key) : Expanded (cs ++ ls) d g := by
  have hkeep : ∀ c ∈ cs, c.key ∉ ls.map TableCell.key := by
    intro c hc hmem
    obtain ⟨l, hl, heq⟩ := List.mem_map.mp hmem
    exact hdisj l hl (heq ▸ List.mem_map_of_mem hc)
  have hread : ∀ c ∈ cs, g.rd c.fld c.i c.j = e.rd c.fld c.i c.j := fun c hc =>
    c.rd_congr (h'.regs _ (hkeep c hc))
  refine ⟨fun c hc => ?_, fun c hc hacc => ?_, fun k hk => ?_, fun k hk => ?_, h'.built.trans h.built⟩
  · rcases List.mem_append.mp hc with hc | hc
    · rw [← h.last c hc, Dev.lastWritten, hread c hc]
      exact congrArg (Option.getD · _) (h'.wait _ (hkeep c hc))
    · rw [h'.last c hc, TableCell.result_congr (h.regs _ (hdisj c hc))]
  · rcases List.mem_append.mp hc with hc | hc
    · rw [hread c hc, h.inForce c hc hacc]
    · rw [h'.inForce c hc hacc, TableCell.result_congr (h.regs _ (hdisj c hc))]
  · rw [List.map_append, List.mem_append, not_or] at hk
    rw [h'.regs k hk.2, h.regs k hk.1]
  · rw [List.map_append, List.mem_append, not_or] at hk
    rw [h'.wait k hk.2, h.wait k hk.1]

/-- Every cell of a table whose fields are distinct takes its value. -/
theorem expandAll_expanded (sel : Fld) (si v : Nat) (cs : List TableCell) (hnodup : (cs.map TableCell.key).Nodup) :
    ∀ d : Dev, d.itemsOf 15 = [] → (∀ c ∈ cs, tget? c.key d.wait = none) → Expanded cs d (d.expandAll sel si v cs) := by
  induction cs with
  | nil => exact fun d _ _ => ⟨by simp, by simp, fun _ _ => rfl, fun _ _ => rfl, rfl⟩
  | cons c cs ih =>
    intro d hitems hwait
    obtain ⟨hw, hwtail⟩ := List.forall_mem_cons.mp hwait
    obtain ⟨hnot, hnodup⟩ := List.nodup_cons.mp hnodup
    have hdisj : ∀ l ∈ cs, l.key ∉ [c].map TableCell.key := by
      intro l hl hmem
      exact hnot (List.mem_map.mpr ⟨l, hl, List.mem_singleton.mp hmem⟩)
    have hone := Dev.expand_expanded hitems sel si v c hw
    have hrest := ih hnodup (d.expand sel si v c.fld c.i c.j c.value) (by rw [Dev.itemsOf_congr hone.built, hitems]) fun l hl => by
      rw [hone.wait _ (hdisj l hl), hwtail l hl]
    exact hone.append hrest hdisj

/-! A selector and its cells. -/

/-- No Shadowed write waits and the image replaces no cell of an expansion table. -/
structure Unreplaced (b : Dev) : Prop where
  wait : b.wait = []
  items : b.itemsOf 15 = []

/-- From `b` to `e` a selector took the value `v` and its cells theirs; no register but these changed. -/
structure Preset (sel : Fld) (si v : Nat) (cs : List TableCell) (b e : Dev) : Prop where
  selector : e.rd sel si = v % 2 ^ sel.w
  last : ∀ c ∈ cs, e.lastWritten c.fld c.i c.j = c.result b
  inForce : ∀ c ∈ cs, c.fld.acc ≠ .rws → e.rd c.fld c.i c.j = c.result b
  regs : onlyKeys (sel.key si 0 :: cs.map TableCell.key) b e

theorem presetTaken_preset {b : Dev} (hb : Unreplaced b) (sel : Fld) (si v : Nat) (cs : List TableCell)
    (hnodup : (sel.key si 0 :: cs.map TableCell.key).Nodup) : Preset sel si v cs b (b.presetTaken sel si v cs) := by
  obtain ⟨hnot, hnodup⟩ := List.nodup_cons.mp hnodup
  have hx := expandAll_expanded sel si v cs hnodup (b.wr sel v si) hb.items fun c _ => by rw [Dev.wr_wait, hb.wait]; rfl
  have hresult : ∀ c ∈ cs, c.result (b.wr sel v si) = c.result b := fun c hc =>
    TableCell.result_congr (b.wr_entry_ne _ _ _ _ _ fun h => hnot (h ▸ List.mem_map_of_mem hc))
  refine ⟨?_, fun c hc => ?_, fun c hc hacc => ?_, fun k hk => ?_⟩
  · rw [Dev.presetTaken, Dev.rd, hx.regs _ hnot]
    exact b.rd_wr sel v si 0
  · rw [← hresult c hc]; exact hx.last c hc
  · rw [← hresult c hc]; exact hx.inForce c hc hacc
  · rw [List.mem_cons, not_or] at hk
    rw [Dev.presetTaken, hx.regs k hk.2, b.wr_entry_ne _ _ _ _ k hk.1]

/-! A row of a table: one element's fields with their values. -/

/-- The cells of a row for element `n`. -/
def rowCells (n : Nat) (fs : List Fld) (xs : List (Option Nat)) : List TableCell := (fs.zip xs).map fun p => ⟨p.1, n, 0, p.2⟩

@[simp] theorem rowCells_nil (n : Nat) : rowCells n [] [] = [] := rfl

@[simp] theorem rowCells_cons (n : Nat) (f : Fld) (fs : List Fld) (x : Option Nat) (xs : List (Option Nat)) :
    rowCells n (f :: fs) (x :: xs) = ⟨f, n, 0, x⟩ :: rowCells n fs xs := rfl

/-- What a row's fields hold after the expansion. -/
def rowResults (b : Dev) (n : Nat) (fs : List Fld) (xs : List (Option Nat)) : List Nat :=
  List.zipWith (fun f x => x.elim (b.rd f n) (· % 2 ^ f.w)) fs xs

/-- Reading the fields of a row, cell by cell. -/
theorem map_row {b : Dev} {n : Nat} (read : Fld → Nat → Nat → Nat) : ∀ (fs : List Fld) (xs : List (Option Nat)), fs.length = xs.length →
    (∀ c ∈ rowCells n fs xs, read c.fld c.i c.j = c.result b) → (fs.map fun g => read g n 0) = rowResults b n fs xs
  | [], _, _, _ => by simp [rowResults]
  | _ :: _, [], hlen, _ => by simp at hlen
  | f :: fs, x :: xs, hlen, h => by
    obtain ⟨hhead, htail⟩ := List.forall_mem_cons.mp h
    exact cons_congr hhead (map_row read fs xs (Nat.succ.inj hlen) htail)

/-- The keys of a row are those of its fields. -/
theorem rowCells_keys (n : Nat) : ∀ (fs : List Fld) (xs : List (Option Nat)), fs.length = xs.length →
    (rowCells n fs xs).map TableCell.key = fs.map fun f => f.key n 0
  | [], _, _ => rfl
  | _ :: _, [], hlen => by simp at hlen
  | f :: fs, x :: xs, hlen => congrArg (f.key n 0 :: ·) (rowCells_keys n fs xs (Nat.succ.inj hlen))

/-- An expansion over the pairs of a row. -/
theorem forAll_row (d : Dev) (sel : Fld) (si v n : Nat) (fs : List Fld) (xs : List (Option Nat)) :
    forAll (fs.zip xs) (fun p d => d.expand sel si v p.1 n 0 p.2) (d.wr sel v si) = d.presetTaken sel si v (rowCells n fs xs) := by
  simp only [Dev.presetTaken, Dev.expandAll, rowCells, forAll, List.foldl_map]

/-- The same over pairs whose values the table all defines. -/
theorem forAll_row_some (d : Dev) (sel : Fld) (si v n : Nat) (fs : List Fld) (xs : List Nat) :
    forAll (fs.zip xs) (fun p d => d.expand sel si v p.1 n 0 (some p.2)) (d.wr sel v si)
      = d.presetTaken sel si v (rowCells n fs (xs.map some)) := by
  rw [← forAll_row]
  simp only [forAll, List.zip_map_right, List.foldl_map, Prod.map]
  rfl

/-! The commands. -/

/-- A preset write completes, what `f` reads afterwards is `l`, and only registers of block `blk` change. -/
def PresetHolds (s : State) (c : Instr) (blk : Nat) (f : Dev → List Nat) (l : List Nat) : Prop :=
  ∃ d : Dev, exec c s = .next { s with dev := d.busOk.finish } ∧ f d = l ∧ onlyBlocks [blk] s.dev.begin d

/-- A preset write completes and does nothing. -/
def PresetIgnored (s : State) (c : Instr) : Prop := exec c s = .next { s with dev := s.dev.begin.busOk.finish }

/-- A command that is a register write of a live block. -/
theorem exec_onReg {s : State} {c : Instr} {blk : Nat} {g : Dev → Dev} (hexec : exec c s = onDev (onReg blk g) s)
    (hlive : s.dev.begin.live blk) : exec c s = .next { s with dev := (g s.dev.begin).busOk.finish } := by
  rw [hexec, onDev, onReg_live g hlive]

theorem presetIgnored_of {s : State} {c : Instr} {blk : Nat} {g : Dev → Dev} (hexec : exec c s = onDev (onReg blk g) s)
    (hlive : s.dev.begin.live blk) (hg : g s.dev.begin = s.dev.begin) : PresetIgnored s c := by
  unfold PresetIgnored
  rw [exec_onReg hexec hlive, hg]

theorem onlyBlocks_of_keys {ks : List Nat} {blk : Nat} {b d : Dev} (h : onlyKeys ks b d) (hks : ∀ k ∈ ks, keyBlock k = blk) :
    onlyBlocks [blk] b d := fun k hk => h k fun hmem => hk (List.mem_singleton.mpr (hks k hmem))

/-- A preset write that is an expansion. -/
theorem presetHolds_of {s : State} {c : Instr} {blk : Nat} {g : Dev → Dev} {sel : Fld} {si v : Nat} {cs : List TableCell}
    {f : Dev → List Nat} {l : List Nat} (hb : Unreplaced s.dev.begin) (hexec : exec c s = onDev (onReg blk g) s)
    (hlive : s.dev.begin.live blk) (hg : g s.dev.begin = s.dev.begin.presetTaken sel si v cs)
    (hnodup : (sel.key si 0 :: cs.map TableCell.key).Nodup) (hblk : ∀ k ∈ sel.key si 0 :: cs.map TableCell.key, keyBlock k = blk)
    (hf : ∀ e, Preset sel si v cs s.dev.begin e → f e = l) : PresetHolds s c blk f l := by
  have hp := presetTaken_preset hb sel si v cs hnodup
  exact ⟨_, by rw [exec_onReg hexec hlive, hg], hf _ hp, onlyBlocks_of_keys hp.regs hblk⟩

/-- A selector and the fields of its row are distinct registers of one block. -/
def rowPlaced (blk : Nat) (sel : Fld) (n : Nat) (fs : List Fld) : Bool :=
  decide ((sel.key n 0 :: fs.map fun f => f.key n 0).Nodup) && (sel :: fs).all fun f => decide (keyBlock (f.key n 0) = blk)

theorem rowCells_placed {blk n : Nat} {sel : Fld} {fs : List Fld} {xs : List (Option Nat)} (h : rowPlaced blk sel n fs = true)
    (hlen : fs.length = xs.length) : (sel.key n 0 :: (rowCells n fs xs).map TableCell.key).Nodup
      ∧ ∀ k ∈ sel.key n 0 :: (rowCells n fs xs).map TableCell.key, keyBlock k = blk := by
  simp only [rowPlaced, Bool.and_eq_true, decide_eq_true_eq, List.all_eq_true] at h
  obtain ⟨hnodup, hblk⟩ := h
  rw [rowCells_keys n fs xs hlen]
  exact ⟨hnodup, (List.forall_mem_map (l := sel :: fs) (f := fun f : Fld => f.key n 0)).mpr hblk⟩

/-- A preset write that expands into a row: what the fields then hold, last written and, where none is Shadowed, in force. -/
theorem presetHolds_row {s : State} {c : Instr} {blk : Nat} {g : Dev → Dev} {sel : Fld} {n v : Nat} {fs : List Fld}
    {xs : List (Option Nat)} (hb : Unreplaced s.dev.begin) (hexec : exec c s = onDev (onReg blk g) s) (hlive : s.dev.begin.live blk)
    (hg : g s.dev.begin = s.dev.begin.presetTaken sel n v (rowCells n fs xs)) (hlen : fs.length = xs.length)
    (hplaced : rowPlaced blk sel n fs = true) :
    PresetHolds s c blk (fun d => d.rd sel n :: fs.map fun g => d.lastWritten g n) (v % 2 ^ sel.w :: rowResults s.dev.begin n fs xs)
    ∧ ((∀ f ∈ fs, f.acc ≠ .rws) →
      PresetHolds s c blk (fun d => d.rd sel n :: fs.map fun g => d.rd g n) (v % 2 ^ sel.w :: rowResults s.dev.begin n fs xs)) := by
  obtain ⟨hnodup, hblk⟩ := rowCells_placed hplaced hlen
  refine ⟨presetHolds_of hb hexec hlive hg hnodup hblk fun e he => ?_,
    fun hacc => presetHolds_of hb hexec hlive hg hnodup hblk fun e he => ?_⟩
  · exact cons_congr he.selector (map_row (fun f i j => e.lastWritten f i j) fs xs hlen he.last)
  · refine cons_congr he.selector (map_row (fun f i j => e.rd f i j) fs xs hlen fun c hc => he.inForce c hc (hacc _ ?_))
    obtain ⟨p, hp, rfl⟩ := List.mem_map.mp hc
    exact (List.of_mem_zip hp).1

end Sys2Proof.Machine
end

section
/-! Every preset selector by its table (R9, R90): each expansion as the cells of its table, and what the preset's write then does. -/

namespace Sys2Proof.Machine

section
variable {s : State}

/-! Each preset's command is a register write of its block; an expansion that bears on a limit is held to it (R89). -/

theorem exec_mdPresetWrite (v : Nat) : exec (.mdPresetWrite v) s = onDev (onReg 3 (mdPreset v)) s := rfl
theorem exec_overlapPresetWrite (v : Nat) : exec (.overlapPresetWrite v) s
    = onDev (onReg 4 fun d => d.presetHeld LAH.OVERLAP_PRESET 0 v (overlapPreset v)) s := rfl
theorem exec_carsilPresetWrite (v : Nat) : exec (.carsilPresetWrite v) s = onDev (onReg 5 (carsilPreset v)) s := rfl
theorem exec_supPresetWrite (n v : Nat) : exec (.supPresetWrite n v) s
    = onDev (onReg 6 fun d => d.presetHeld CTL.S_SUP_PRESET n v (supPreset n v)) s := rfl
theorem exec_fusePresetWrite (v : Nat) : exec (.fusePresetWrite v) s = onDev (onReg 7 (fusePreset v)) s := rfl
theorem exec_dpcPresetWrite (c v : Nat) : exec (.dpcPresetWrite c v) s = onDev (onReg 8 (dpcPreset c v)) s := rfl
theorem exec_tonePresetWrite (c v : Nat) : exec (.tonePresetWrite c v) s
    = onDev (onReg 8 fun d => d.presetHeld ISP.C_TONE_PRESET c v (tonePreset c v)) s := rfl
theorem exec_gnssPresetWrite (v : Nat) : exec (.gnssPresetWrite v) s
    = onDev (onReg 9 fun d => d.presetHeld GNS.GNSS_PRESET 0 v (gnssPreset v)) s := rfl
theorem exec_loadPresetWrite (n v : Nat) : exec (.loadPresetWrite n v) s = onDev (onReg 10 (loadPreset n v)) s := rfl
theorem exec_valvePresetWrite (n v : Nat) : exec (.valvePresetWrite n v) s
    = onDev (onReg 11 fun d => d.presetHeld VDR.CH_VALVE_PRESET n v (valvePreset n v)) s := rfl
theorem exec_blwPresetWrite (c v : Nat) : exec (.blwPresetWrite c v) s
    = onDev (onReg 13 fun d => d.presetHeld BLW.CH_BLW_PRESET c v (blwPreset c v)) s := rfl
theorem exec_canPresetWrite (p v : Nat) : exec (.canPresetWrite p v) s = onDev (onReg 14 (canPreset p v)) s := rfl
theorem exec_wmPresetWrite (q v : Nat) : exec (.wmPresetWrite q v) s
    = onDev (onReg 16 fun d => d.presetHeld QUE.Q_WM_PRESET q v (wmPreset q v)) s := rfl
theorem exec_thmPresetWrite (v : Nat) : exec (.thmPresetWrite v) s = onDev (onReg 18 (thmPreset v)) s := rfl
theorem exec_sevPresetWrite (v : Nat) : exec (.sevPresetWrite v) s = onDev (onReg 19 (sevPreset v)) s := rfl

/-! Tables that give a row to one element: loop slots, load switches, valve channels, CAN ports. -/

theorem supPreset_taken (n v : Nat) (d : Dev) : supPreset n v d
    = d.presetTaken CTL.S_SUP_PRESET n (v % 4) (rowCells n supPresetFields ((supPresetRow (v % 4)).map some)) := forAll_row_some ..

theorem supFields_placed : ∀ n < 256, rowPlaced 6 CTL.S_SUP_PRESET n supPresetFields = true := by decide +kernel

theorem supPresetRow_length (v : Nat) : supPresetFields.length = ((supPresetRow v).map some).length := by
  unfold supPresetRow; split <;> rfl

/-- Table 7.5 (R207). -/
theorem supPreset_holds (hb : Unreplaced s.dev.begin) (hlive : s.dev.begin.live 6) (n v : Nat) (hn : n < 256) :
    PresetHolds s (.supPresetWrite n v) 6 (fun d => d.rd CTL.S_SUP_PRESET n :: supPresetFields.map fun g => d.lastWritten g n)
      (v % 4 % 2 ^ CTL.S_SUP_PRESET.w :: rowResults s.dev.begin n supPresetFields ((supPresetRow (v % 4)).map some)) :=
  (presetHolds_row hb (exec_supPresetWrite n v) hlive
    ((Dev.presetHeld_unreplaced hb.items ..).trans (supPreset_taken n v _)) (supPresetRow_length _)
    (supFields_placed n hn)).1

theorem loadPreset_taken (n v : Nat) (d : Dev) : loadPreset n v d
    = d.presetTaken LSW.CH_LOAD_PRESET n (v % 4) (rowCells n loadPresetFields ((loadPresetRow (v % 4)).map some)) := forAll_row_some ..

theorem loadFields_placed : ∀ n < 64, rowPlaced 10 LSW.CH_LOAD_PRESET n loadPresetFields = true := by decide +kernel

theorem loadPresetRow_length (v : Nat) : loadPresetFields.length = ((loadPresetRow v).map some).length := by
  unfold loadPresetRow; split <;> rfl

/-- Table 11.5 (R293). -/
theorem loadPreset_holds (hb : Unreplaced s.dev.begin) (hlive : s.dev.begin.live 10) (n v : Nat) (hn : n < 64) :
    PresetHolds s (.loadPresetWrite n v) 10 (fun d => d.rd LSW.CH_LOAD_PRESET n :: loadPresetFields.map fun g => d.lastWritten g n)
      (v % 4 % 2 ^ LSW.CH_LOAD_PRESET.w :: rowResults s.dev.begin n loadPresetFields ((loadPresetRow (v % 4)).map some)) :=
  (presetHolds_row hb (exec_loadPresetWrite n v) hlive (loadPreset_taken n v _) (loadPresetRow_length _) (loadFields_placed n hn)).1

theorem valvePreset_taken (n v : Nat) (d : Dev) : valvePreset n v d
    = d.presetTaken VDR.CH_VALVE_PRESET n (v % 4) (rowCells n valvePresetFields ((valvePresetRow (v % 4)).map some)) :=
  forAll_row_some ..

theorem valveFields_placed : ∀ n < 32, rowPlaced 11 VDR.CH_VALVE_PRESET n valvePresetFields = true := by decide +kernel

theorem valvePresetRow_length (v : Nat) : valvePresetFields.length = ((valvePresetRow v).map some).length := by
  unfold valvePresetRow; split <;> rfl

/-- Table 12.6 (R324). -/
theorem valvePreset_holds (hb : Unreplaced s.dev.begin) (hlive : s.dev.begin.live 11) (n v : Nat) (hn : n < 32) :
    PresetHolds s (.valvePresetWrite n v) 11 (fun d => d.rd VDR.CH_VALVE_PRESET n :: valvePresetFields.map fun g => d.lastWritten g n)
      (v % 4 % 2 ^ VDR.CH_VALVE_PRESET.w :: rowResults s.dev.begin n valvePresetFields ((valvePresetRow (v % 4)).map some)) :=
  (presetHolds_row hb (exec_valvePresetWrite n v) hlive
    ((Dev.presetHeld_unreplaced hb.items ..).trans (valvePreset_taken n v _)) (valvePresetRow_length _)
    (valveFields_placed n hn)).1

theorem canExpand_taken (p v : Nat) (d : Dev) : canExpand p v d
    = d.presetTaken CAN.P_CAN_PRESET p (v % 4) (rowCells p canFields ((canRow (v % 4)).map some)) := forAll_row_some ..

theorem canFields_placed : ∀ p < 8, rowPlaced 14 CAN.P_CAN_PRESET p canFields = true := by decide +kernel

/-- The bit timing of a port is Locked, not Shadowed (R350). -/
theorem canFields_locked : ∀ f ∈ canFields, f.acc ≠ .rws := by decide

theorem canRow_length (v : Nat) : canFields.length = ((canRow v).map some).length := by
  unfold canRow; split <;> rfl

/-- Table 14.2 for a port that is not enabled (R350). -/
theorem canPreset_holds (hb : Unreplaced s.dev.begin) (hlive : s.dev.begin.live 14) (p v : Nat) (hp : p < 8)
    (hoff : (s.dev.begin.rd CAN.EN).testBit p = false) :
    PresetHolds s (.canPresetWrite p v) 14 (fun d => d.rd CAN.P_CAN_PRESET p :: canFields.map fun g => d.rd g p)
      (v % 4 % 2 ^ CAN.P_CAN_PRESET.w :: rowResults s.dev.begin p canFields ((canRow (v % 4)).map some)) := by
  have hg : canPreset p v s.dev.begin = canExpand p v s.dev.begin := by simp [canPreset, hoff]
  exact (presetHolds_row hb (exec_canPresetWrite p v) hlive (hg.trans (canExpand_taken p v _))
    (canRow_length _) (canFields_placed p hp)).2 canFields_locked

/-- CAN_PRESET of an enabled port is refused (R350, R87). -/
theorem canPreset_refused (hlive : s.dev.begin.live 14) (p v : Nat) (hon : (s.dev.begin.rd CAN.EN).testBit p = true) :
    ∃ d : Dev, exec (.canPresetWrite p v) s = .next { s with dev := d.busOk.finish }
      ∧ d.flag CAN.LOCKED_WRITE = true ∧ onlyKeys [CAN.LOCKED_WRITE.key 0 0] s.dev.begin d := by
  refine ⟨s.dev.begin.wr CAN.LOCKED_WRITE 1, ?_, ?_, fun k hk => Dev.wr_entry_ne _ _ _ _ _ k (by simpa using hk)⟩
  · have hg : canPreset p v s.dev.begin = s.dev.begin.wr CAN.LOCKED_WRITE 1 := by simp [canPreset, hon]
    rw [exec_onReg (g := canPreset p v) rfl hlive, hg]
  · simp [Dev.flag, CAN.LOCKED_WRITE]

/-! Tables with an undefined row: the limits of sections, transactions, fusion, blowers and temperatures, and the baseband. -/

/-- The fields of Table 5.3. -/
def overlapFields : List Fld := [LAH.ON_UNCOV_PCT, LAH.OFF_COV_PCT, LAH.BND_OFF_PCT]

theorem overlapPreset_taken {v : Nat} {r : Nat × Nat × Nat} (h : overlapRow (v % 4) = some r) (d : Dev) : overlapPreset v d
    = d.presetTaken LAH.OVERLAP_PRESET 0 (v % 4) (rowCells 0 overlapFields [some r.1, some r.2.1, some r.2.2]) := by
  simp [overlapPreset, h, Dev.presetTaken, overlapFields]

/-- Table 5.3 (R138). -/
theorem overlapPreset_holds (hb : Unreplaced s.dev.begin) (hlive : s.dev.begin.live 4) {v : Nat} {r : Nat × Nat × Nat}
    (h : overlapRow (v % 4) = some r) :
    PresetHolds s (.overlapPresetWrite v) 4 (fun d => d.rd LAH.OVERLAP_PRESET :: overlapFields.map fun g => d.lastWritten g)
      (v % 4 % 2 ^ LAH.OVERLAP_PRESET.w :: rowResults s.dev.begin 0 overlapFields [some r.1, some r.2.1, some r.2.2]) :=
  (presetHolds_row hb (exec_overlapPresetWrite v) hlive
    ((Dev.presetHeld_unreplaced hb.items ..).trans (overlapPreset_taken h _)) rfl (by decide)).1

theorem overlapPreset_ignored (hb : Unreplaced s.dev.begin) (hlive : s.dev.begin.live 4) : PresetIgnored s (.overlapPresetWrite 3) := by
  refine presetIgnored_of (exec_overlapPresetWrite 3) hlive ((Dev.presetHeld_unreplaced hb.items ..).trans ?_)
  simp [overlapPreset, overlapRow, Dev.definesPreset_unreplaced hb.items]

/-- The fields of Table 6.7. -/
def carsilFields : List Fld := [SLU.GRACE_US, SLU.DECIDE_MARGIN_US, SLU.VOTE_WINDOWS, SLU.OUTCOME_TRIES]

theorem carsilPreset_taken {v : Nat} {r : Nat × Nat × Nat × Nat} (h : carsilRow (v % 4) = some r) (d : Dev) : carsilPreset v d
    = d.presetTaken SLU.CARSIL_PRESET 0 (v % 4) (rowCells 0 carsilFields [some r.1, some r.2.1, some r.2.2.1, some r.2.2.2]) := by
  simp [carsilPreset, h, Dev.presetTaken, carsilFields]

/-- Table 6.7 (R182). -/
theorem carsilPreset_holds (hb : Unreplaced s.dev.begin) (hlive : s.dev.begin.live 5) {v : Nat} {r : Nat × Nat × Nat × Nat}
    (h : carsilRow (v % 4) = some r) :
    PresetHolds s (.carsilPresetWrite v) 5 (fun d => d.rd SLU.CARSIL_PRESET :: carsilFields.map fun g => d.lastWritten g)
      (v % 4 % 2 ^ SLU.CARSIL_PRESET.w
        :: rowResults s.dev.begin 0 carsilFields [some r.1, some r.2.1, some r.2.2.1, some r.2.2.2]) :=
  (presetHolds_row hb (exec_carsilPresetWrite v) hlive (carsilPreset_taken h _) rfl (by decide)).1

theorem carsilPreset_ignored (hb : Unreplaced s.dev.begin) (hlive : s.dev.begin.live 5) : PresetIgnored s (.carsilPresetWrite 3) := by
  refine presetIgnored_of (exec_carsilPresetWrite 3) hlive ?_
  simp [carsilPreset, carsilRow, Dev.definesPreset_unreplaced hb.items]

/-- The fields of Table 8.7. -/
def fuseFields : List Fld := [FUS.MIN_CAMERAS, FUS.EGO_EN, FUS.EGO_MIN_Q]

theorem fusePreset_taken {v : Nat} {r : Nat × Nat × Nat} (h : fuseRow (v % 4) = some r) (d : Dev) : fusePreset v d
    = d.presetTaken FUS.FUSE_PRESET 0 (v % 4) (rowCells 0 fuseFields [some r.1, some r.2.1, some r.2.2]) := by
  simp [fusePreset, h, Dev.presetTaken, fuseFields]

/-- Table 8.7 (R234). -/
theorem fusePreset_holds (hb : Unreplaced s.dev.begin) (hlive : s.dev.begin.live 7) {v : Nat} {r : Nat × Nat × Nat}
    (h : fuseRow (v % 4) = some r) :
    PresetHolds s (.fusePresetWrite v) 7 (fun d => d.rd FUS.FUSE_PRESET :: fuseFields.map fun g => d.lastWritten g)
      (v % 4 % 2 ^ FUS.FUSE_PRESET.w :: rowResults s.dev.begin 0 fuseFields [some r.1, some r.2.1, some r.2.2]) :=
  (presetHolds_row hb (exec_fusePresetWrite v) hlive (fusePreset_taken h _) rfl (by decide)).1

theorem fusePreset_ignored (hb : Unreplaced s.dev.begin) (hlive : s.dev.begin.live 7) : PresetIgnored s (.fusePresetWrite 3) := by
  refine presetIgnored_of (exec_fusePresetWrite 3) hlive ?_
  simp [fusePreset, fuseRow, Dev.definesPreset_unreplaced hb.items]

/-- The fields of Table 10.9, and the constellations and bands in use. -/
def gnssFields : List Fld := [GNS.RATE_HZ, GNS.ELEV_MASK, GNS.CN0_MASK, GNS.CONST_EN, GNS.BAND_EN]

theorem gnssPreset_taken (v : Nat) (d : Dev) : let r := gnssRow (v % 4)
    gnssPreset v d = d.presetTaken GNS.GNSS_PRESET 0 (v % 4)
      (rowCells 0 gnssFields [some r.1, some r.2.1, some r.2.2, some 7, some 3]) := by
  simp [gnssPreset, Dev.presetTaken, gnssFields]

/-- Table 10.9 (R277). -/
theorem gnssPreset_holds (hb : Unreplaced s.dev.begin) (hlive : s.dev.begin.live 9) (v : Nat) : let r := gnssRow (v % 4)
    PresetHolds s (.gnssPresetWrite v) 9 (fun d => d.rd GNS.GNSS_PRESET :: gnssFields.map fun g => d.lastWritten g)
      (v % 4 % 2 ^ GNS.GNSS_PRESET.w
        :: rowResults s.dev.begin 0 gnssFields [some r.1, some r.2.1, some r.2.2, some 7, some 3]) :=
  (presetHolds_row hb (exec_gnssPresetWrite v) hlive
    ((Dev.presetHeld_unreplaced hb.items ..).trans (gnssPreset_taken v _)) rfl (by decide)).1

theorem blwPreset_taken {c v : Nat} {r : List Nat} (h : blwPresetRow (v % 4) = some r) (d : Dev) : blwPreset c v d
    = d.presetTaken BLW.CH_BLW_PRESET c (v % 4) (rowCells c blwPresetFields (r.map some)) := by
  unfold blwPreset
  simp only [h]
  exact forAll_row ..

theorem blwPresetRow_length {v : Nat} {r : List Nat} (h : blwPresetRow v = some r) : blwPresetFields.length = (r.map some).length := by
  unfold blwPresetRow at h
  split at h <;> cases h <;> rfl

theorem blwFields_placed : ∀ c < 4, rowPlaced 13 BLW.CH_BLW_PRESET c blwPresetFields = true := by decide

/-- Table 13.6 (R345). -/
theorem blwPreset_holds (hb : Unreplaced s.dev.begin) (hlive : s.dev.begin.live 13) {c v : Nat} (hc : c < 4) {r : List Nat}
    (h : blwPresetRow (v % 4) = some r) :
    PresetHolds s (.blwPresetWrite c v) 13 (fun d => d.rd BLW.CH_BLW_PRESET c :: blwPresetFields.map fun g => d.lastWritten g c)
      (v % 4 % 2 ^ BLW.CH_BLW_PRESET.w :: rowResults s.dev.begin c blwPresetFields (r.map some)) :=
  (presetHolds_row hb (exec_blwPresetWrite c v) hlive
    ((Dev.presetHeld_unreplaced hb.items ..).trans (blwPreset_taken h _)) (blwPresetRow_length h)
    (blwFields_placed c hc)).1

theorem blwPreset_ignored (hb : Unreplaced s.dev.begin) (hlive : s.dev.begin.live 13) (c : Nat) :
    PresetIgnored s (.blwPresetWrite c 3) := by
  refine presetIgnored_of (exec_blwPresetWrite c 3) hlive ((Dev.presetHeld_unreplaced hb.items ..).trans ?_)
  simp [blwPreset, blwPresetRow, Dev.definesPreset_unreplaced hb.items]

theorem thmPreset_taken {v : Nat} {r : List Nat} (h : thmRow (v % 4) = some r) (d : Dev) : thmPreset v d
    = d.presetTaken THM.THM_PRESET 0 (v % 4) (rowCells 0 thmFields (r.map some)) := by
  unfold thmPreset
  simp only [h]
  exact forAll_row ..

theorem thmRow_length {v : Nat} {r : List Nat} (h : thmRow v = some r) : thmFields.length = (r.map some).length := by
  unfold thmRow at h
  split at h <;> cases h <;> rfl

/-- Table 16.4 (R414). -/
theorem thmPreset_holds (hb : Unreplaced s.dev.begin) (hlive : s.dev.begin.live 18) {v : Nat} {r : List Nat}
    (h : thmRow (v % 4) = some r) :
    PresetHolds s (.thmPresetWrite v) 18 (fun d => d.rd THM.THM_PRESET :: thmFields.map fun g => d.lastWritten g)
      (v % 4 % 2 ^ THM.THM_PRESET.w :: rowResults s.dev.begin 0 thmFields (r.map some)) :=
  (presetHolds_row hb (exec_thmPresetWrite v) hlive (thmPreset_taken h _) (thmRow_length h) (by decide)).1

theorem thmPreset_ignored (hb : Unreplaced s.dev.begin) (hlive : s.dev.begin.live 18) : PresetIgnored s (.thmPresetWrite 3) := by
  refine presetIgnored_of (exec_thmPresetWrite 3) hlive ?_
  simp [thmPreset, thmRow, Dev.definesPreset_unreplaced hb.items]

end

end Sys2Proof.Machine
end

section
/-! The preset tables of several elements or with steps of their own: MD sources, defective pixels, tone curves, watermarks and
severities; and the statement about every preset (R9, R90). -/

namespace Sys2Proof.Machine

section
variable {s : State}

/-! Table 4.5: every MD source. -/

/-- The fields of a source, in the order of Table 4.5. -/
def mdFields : List Fld := [TMB.SRC_WEIGHT, TMB.SRC_GATE_ABS, TMB.SRC_GATE_REL, TMB.SRC_READMIT, TMB.SRC_STALE_MS]

/-- The values of a source. -/
def mdValues (v i : Nat) : List (Option Nat) :=
  let r := mdPresetRow v i
  [some r.1, some r.2.1, some r.2.2.1, some r.2.2.2, some (mdStaleMs i)]

/-- Every cell of MD_PRESET. -/
def mdCells (v : Nat) : List TableCell :=
  (mdSources.flatMap fun i => rowCells i mdFields (mdValues v i)) ++ rowCells 0 [TMB.HOLD_MS] [some 200]

theorem mdPreset_taken {v : Nat} (hv : v < 3) (d : Dev) : mdPreset v d = d.presetTaken TMB.MD_PRESET 0 v (mdCells v) := by
  simp [mdPreset, hv, mdSources, mdCells, mdFields, mdValues, Dev.presetTaken]

theorem mdCells_placed : ∀ v < 3, (TMB.MD_PRESET.key 0 0 :: (mdCells v).map TableCell.key).Nodup
    ∧ ∀ k ∈ TMB.MD_PRESET.key 0 0 :: (mdCells v).map TableCell.key, keyBlock k = 3 := by decide

/-- Table 4.5 (R113). -/
theorem mdPreset_holds (hb : Unreplaced s.dev.begin) (hlive : s.dev.begin.live 3) {v i : Nat} (hv : v < 3) (hi : i < 4) :
    PresetHolds s (.mdPresetWrite v) 3 (fun d => d.rd TMB.MD_PRESET :: d.lastWritten TMB.HOLD_MS :: mdFields.map fun g => d.lastWritten g i)
      (v % 2 ^ TMB.MD_PRESET.w :: 200 % 2 ^ TMB.HOLD_MS.w :: rowResults s.dev.begin i mdFields (mdValues v i)) := by
  obtain ⟨hnodup, hblk⟩ := mdCells_placed v hv
  refine presetHolds_of hb (exec_mdPresetWrite v) hlive (mdPreset_taken hv _) hnodup hblk fun e he => ?_
  have hhold : e.lastWritten TMB.HOLD_MS = 200 % 2 ^ TMB.HOLD_MS.w :=
    he.last ⟨TMB.HOLD_MS, 0, 0, some 200⟩ (List.mem_append_right _ List.mem_cons_self)
  have hrow : ∀ c ∈ rowCells i mdFields (mdValues v i), e.lastWritten c.fld c.i c.j = c.result s.dev.begin := fun c hc =>
    he.last c (List.mem_append_left _ (List.mem_flatMap.mpr ⟨i, List.mem_range.mpr hi, hc⟩))
  exact cons_congr he.selector (cons_congr hhold (map_row (fun f i j => e.lastWritten f i j) mdFields _ rfl hrow))

theorem mdPreset_ignored (hb : Unreplaced s.dev.begin) (hlive : s.dev.begin.live 3) : PresetIgnored s (.mdPresetWrite 3) := by
  refine presetIgnored_of (exec_mdPresetWrite 3) hlive ?_
  simp [mdPreset, Dev.definesPreset_unreplaced hb.items]

/-! Defective pixels: STATIC-ONLY leaves the limits. -/

/-- The fields of DPC_PRESET. -/
def dpcFields : List Fld := [ISP.C_DPC_STATIC_EN, ISP.C_DPC_DYN_EN, ISP.C_DPC_HI, ISP.C_DPC_LO]

/-- The values of DPC_PRESET that R250 defines. -/
def dpcValues (v : Nat) : List (Option Nat) :=
  let lim : Option Nat := if v = 1 then some 0x1000 else if v = 2 then some 0x600 else none
  [some 1, some (bit (v ≠ 0)), lim, lim]

theorem dpcPreset_taken {v : Nat} (hv : v < 3) (c : Nat) (d : Dev) : dpcPreset c v d
    = d.presetTaken ISP.C_DPC_PRESET c v (rowCells c dpcFields (dpcValues v)) := by
  have hmod : v % 4 = v := by omega
  have hne : v ≠ 3 := by omega
  simp [dpcPreset, hmod, hne, Dev.presetTaken, dpcFields, dpcValues]

theorem dpcFields_placed : ∀ c < 8, rowPlaced 8 ISP.C_DPC_PRESET c dpcFields = true := by decide

/-- DPC_PRESET (R250). -/
theorem dpcPreset_holds (hb : Unreplaced s.dev.begin) (hlive : s.dev.begin.live 8) {c v : Nat} (hc : c < 8) (hv : v < 3) :
    PresetHolds s (.dpcPresetWrite c v) 8 (fun d => d.rd ISP.C_DPC_PRESET c :: dpcFields.map fun g => d.lastWritten g c)
      (v % 2 ^ ISP.C_DPC_PRESET.w :: rowResults s.dev.begin c dpcFields (dpcValues v)) :=
  (presetHolds_row hb (exec_dpcPresetWrite c v) hlive (dpcPreset_taken hv c _) rfl (dpcFields_placed c hc)).1

theorem dpcPreset_ignored (hb : Unreplaced s.dev.begin) (hlive : s.dev.begin.live 8) (c : Nat) : PresetIgnored s (.dpcPresetWrite c 3) := by
  refine presetIgnored_of (exec_dpcPresetWrite c 3) hlive ?_
  simp [dpcPreset, Dev.definesPreset_unreplaced hb.items]

/-! Tone curves: 257 entries, even and odd. -/

/-- Every cell of TONE_PRESET of a camera. -/
def toneCells (c v : Nat) : List TableCell :=
  ((List.range 129).map fun k => ⟨ISP.C_T_EVEN, c, k, toneEntry v (2 * k)⟩)
    ++ (List.range 128).map fun k => ⟨ISP.C_T_ODD, c, k, toneEntry v (2 * k + 1)⟩

theorem tonePreset_taken {v : Nat} (hv : v < 3) (c : Nat) (d : Dev) : tonePreset c v d
    = d.presetTaken ISP.C_TONE_PRESET c v (toneCells c v) := by
  have hmod : v % 4 = v := by omega
  have hne : v ≠ 3 := by omega
  simp only [tonePreset, hmod, hne, false_and, if_false]
  simp only [Dev.presetTaken, Dev.expandAll, toneCells, forAll, List.foldl_append, List.foldl_map]

theorem toneCells_keys (c v : Nat) : (toneCells c v).map TableCell.key
    = ((List.range 129).map fun k => ISP.C_T_EVEN.key c k) ++ (List.range 128).map fun k => ISP.C_T_ODD.key c k := by
  simp only [toneCells, List.map_append, List.map_map]
  rfl

theorem toneEven_key (c k : Nat) : ISP.C_T_EVEN.key c k = (0x40081200 + c * 0x1000 + k * 4) * 32 := rfl

theorem toneOdd_key (c k : Nat) : ISP.C_T_ODD.key c k = (0x40081200 + c * 0x1000 + k * 4) * 32 + 16 := rfl

theorem tonePreset_key (c : Nat) : ISP.C_TONE_PRESET.key c 0 = (0x40081000 + c * 0x1000 + 0 * 0) * 32 + 3 := rfl

theorem toneCells_nodup (c v : Nat) : (ISP.C_TONE_PRESET.key c 0 :: (toneCells c v).map TableCell.key).Nodup := by
  rw [toneCells_keys, List.nodup_cons, List.nodup_append]
  refine ⟨?_, nodup_map_of_inj List.nodup_range ?_, nodup_map_of_inj List.nodup_range ?_, ?_⟩
  · simp only [List.mem_append, List.mem_map, toneEven_key, toneOdd_key, tonePreset_key]
    rintro (⟨k, -, h⟩ | ⟨k, -, h⟩) <;> omega
  · intro k l h
    simp only [toneEven_key] at h
    omega
  · intro k l h
    simp only [toneOdd_key] at h
    omega
  · simp only [List.mem_map, toneEven_key, toneOdd_key]
    rintro _ ⟨k, -, rfl⟩ _ ⟨l, -, rfl⟩
    omega

theorem toneCells_block {c : Nat} (hc : c < 8) (v : Nat) :
    ∀ k ∈ ISP.C_TONE_PRESET.key c 0 :: (toneCells c v).map TableCell.key, keyBlock k = 8 := by
  rw [toneCells_keys]
  simp only [List.mem_cons, List.mem_append, List.mem_map, List.mem_range, toneEven_key, toneOdd_key, tonePreset_key, keyBlock]
  rintro _ (rfl | ⟨k, hk, rfl⟩ | ⟨k, hk, rfl⟩) <;> omega

/-- Two entries of a tone curve (Table 9.4, R250). -/
theorem tonePreset_holds (hb : Unreplaced s.dev.begin) (hlive : s.dev.begin.live 8) {c v k x y : Nat} (hc : c < 8) (hv : v < 3)
    (hk : k ≤ 128) (hx : toneEntry v (2 * k) = some x) (hy : k < 128 → toneEntry v (2 * k + 1) = some y) (hx16 : x < 65536)
    (hy16 : y < 65536) :
    PresetHolds s (.tonePresetWrite c v) 8 (fun d => [d.rd ISP.C_TONE_PRESET c, d.lastWritten ISP.C_T_EVEN c k,
      if k < 128 then d.lastWritten ISP.C_T_ODD c k else 0]) [v, x, if k < 128 then y else 0] := by
  refine presetHolds_of hb (exec_tonePresetWrite c v) hlive ((Dev.presetHeld_unreplaced hb.items ..).trans (tonePreset_taken hv c _))
    (toneCells_nodup c v) (toneCells_block hc v) fun e he => ?_
  have hsel : e.rd ISP.C_TONE_PRESET c = v := he.selector.trans (Nat.mod_eq_of_lt (Nat.lt_of_lt_of_le hv (by decide)))
  have heven : e.lastWritten ISP.C_T_EVEN c k = x := by
    have hcell := he.last ⟨ISP.C_T_EVEN, c, k, toneEntry v (2 * k)⟩
      (List.mem_append_left _ (List.mem_map.mpr ⟨k, List.mem_range.mpr (by omega), rfl⟩))
    rw [TableCell.result, hx] at hcell
    exact hcell.trans (Nat.mod_eq_of_lt hx16)
  have hodd (h : k < 128) : e.lastWritten ISP.C_T_ODD c k = y := by
    have hcell := he.last ⟨ISP.C_T_ODD, c, k, toneEntry v (2 * k + 1)⟩
      (List.mem_append_right _ (List.mem_map.mpr ⟨k, List.mem_range.mpr h, rfl⟩))
    rw [TableCell.result, hy h] at hcell
    exact hcell.trans (Nat.mod_eq_of_lt hy16)
  by_cases h : k < 128 <;> simp [hsel, heven, hodd, h]

theorem tonePreset_ignored (hb : Unreplaced s.dev.begin) (hlive : s.dev.begin.live 8) (c : Nat) :
    PresetIgnored s (.tonePresetWrite c 3) := by
  refine presetIgnored_of (exec_tonePresetWrite c 3) hlive ((Dev.presetHeld_unreplaced hb.items ..).trans ?_)
  simp [tonePreset, Dev.definesPreset_unreplaced hb.items]

/-! Watermarks: the queue's level follows the expansion. -/

/-- The registers in which the fabric shows a queue's level: the summaries and pins before the queues' own, and each queue's status
word. -/
def levelKey (k : Nat) : Prop :=
  0x40100000 ≤ k / 32 ∧ k / 32 < 0x40100900 ∧ (k / 32 < 0x40100100 ∨ k / 32 % 32 = 16)

/-- From `d` to `e` only registers that show a level change, and no Shadowed write comes or goes. -/
structure LevelShown (d e : Dev) : Prop where
  regs : ∀ k, ¬ levelKey k → tget? k e.regs = tget? k d.regs
  wait : e.wait = d.wait

theorem LevelShown.refl (d : Dev) : LevelShown d d := ⟨fun _ _ => rfl, rfl⟩

theorem LevelShown.trans {d e g : Dev} (h : LevelShown d e) (h' : LevelShown e g) : LevelShown d g :=
  ⟨fun k hk => (h'.regs k hk).trans (h.regs k hk), h'.wait.trans h.wait⟩

theorem LevelShown.wr (d : Dev) (f : Fld) (v i j : Nat) (h : levelKey (f.key i j)) : LevelShown d (d.wr f v i j) :=
  ⟨fun k hk => d.wr_entry_ne f v i j k fun heq => hk (heq ▸ h), rfl⟩

theorem levelKey_status {q : Nat} (hq : q < 64) : levelKey (QUE.Q_OCC.key q 0) ∧ levelKey (QUE.Q_OPEN_ITEM.key q 0)
    ∧ levelKey (QUE.Q_WAITING.key q 0) ∧ levelKey (QUE.Q_BACKP.key q 0) := by
  simp only [levelKey, Fld.key, Fld.addr, QUE.Q_OCC, QUE.Q_OPEN_ITEM, QUE.Q_WAITING, QUE.Q_BACKP]
  omega

theorem levelKey_summary : levelKey (QUE.BACKP_LO.key 0 0) ∧ levelKey (QUE.BACKP_HI.key 0 0) ∧ levelKey (QUE.EVT_BACKP.key 0 0) := by
  simp only [levelKey, Fld.key, Fld.addr, QUE.BACKP_LO, QUE.BACKP_HI, QUE.EVT_BACKP]
  omega

theorem levelKey_pin {k : Nat} (hk : k < 16) : levelKey (QUE.FC_ASSERTED.key k 0) := by
  simp only [levelKey, Fld.key, Fld.addr, QUE.FC_ASSERTED]
  omega

theorem driveFcOf_shown (d : Dev) (q : Nat) : LevelShown d (d.driveFcOf q) := by
  refine forAll_keeps (LevelShown d) (List.range 16) _ (fun k hk e he => ?_) d (.refl d)
  split
  · unfold Dev.driveFc
    split
    · exact he.trans (.wr _ _ _ _ _ (levelKey_pin (List.mem_range.mp hk)))
    · exact he
  · exact he

theorem wrPair_shown (d : Dev) (q : Nat) (b : Bool) : LevelShown d (d.wrPair QUE.BACKP_LO QUE.BACKP_HI q b) := by
  unfold Dev.wrPair Dev.wrBit
  split
  · exact .wr _ _ _ _ _ levelKey_summary.1
  · exact .wr _ _ _ _ _ levelKey_summary.2.1

theorem causeBackp_shown (d : Dev) : LevelShown d (d.cause QUE.EVT_BACKP) :=
  ⟨fun k hk => d.cause_entry_ne _ _ k fun heq => hk (heq ▸ levelKey_summary.2.2), rfl⟩

/-- Showing a queue's level (R391). -/
theorem queueLevel_shown (d : Dev) {q : Nat} (hq : q < 64) : LevelShown d (d.queueLevel q) := by
  obtain ⟨hocc, hitem, hwaiting, hbackp⟩ := levelKey_status hq
  have hstatus (a b c : Nat) : LevelShown d (((d.wr QUE.Q_OCC a q).wr QUE.Q_OPEN_ITEM b q).wr QUE.Q_WAITING c q) :=
    ((LevelShown.wr _ _ _ _ _ hocc).trans (.wr _ _ _ _ _ hitem)).trans (.wr _ _ _ _ _ hwaiting)
  unfold Dev.queueLevel
  dsimp only
  split
  · exact hstatus ..
  · exact ((((hstatus ..).trans (.wr _ _ _ _ _ hbackp)).trans (wrPair_shown ..)).trans (driveFcOf_shown ..)).trans (causeBackp_shown _)

theorem LevelShown.rd_eq {d e : Dev} (h : LevelShown d e) (f : Fld) (i j : Nat) (hf : ¬ levelKey (f.key i j)) :
    e.rd f i j = d.rd f i j := by
  unfold Dev.rd; rw [h.regs _ hf]

theorem LevelShown.lastWritten_eq {d e : Dev} (h : LevelShown d e) (f : Fld) (i j : Nat) (hf : ¬ levelKey (f.key i j)) :
    e.lastWritten f i j = d.lastWritten f i j := by
  unfold Dev.lastWritten; rw [h.wait, h.rd_eq f i j hf]

/-- The watermarks of Table 15.3 for a capacity. -/
def wmRow (v c : Nat) : Nat × Nat :=
  match v with | 1 => (c / 2, c / 4) | 2 => (7 * c / 8, c / 2) | 3 => (c / 4, c / 16) | _ => (0, 0)

/-- The cells of WM_PRESET. -/
def wmCells (q v c : Nat) : List TableCell := rowCells q [QUE.Q_HIGH_WM, QUE.Q_LOW_WM] [some (wmRow v c).1, some (wmRow v c).2]

theorem wmPreset_taken {q v : Nat} {d : Dev} (hq : d.rd QUE.Q_CLASS q ≠ 0) : wmPreset q v d
    = (d.presetTaken QUE.Q_WM_PRESET q (v % 4) (wmCells q (v % 4) (d.capacity q))).queueLevel q := by
  unfold wmPreset
  rw [if_neg hq]
  have hlt : v % 4 < 4 := Nat.mod_lt _ (by decide)
  generalize v % 4 = u at hlt ⊢
  obtain rfl | rfl | rfl | rfl : u = 0 ∨ u = 1 ∨ u = 2 ∨ u = 3 := by omega
  all_goals simp [wmCells, wmRow, Dev.presetTaken]

theorem wmFields_placed : ∀ q < 64, rowPlaced 16 QUE.Q_WM_PRESET q [QUE.Q_HIGH_WM, QUE.Q_LOW_WM] = true := by decide +kernel

theorem wmFields_noLevel (q : Nat) : ¬ levelKey (QUE.Q_WM_PRESET.key q 0) ∧ ¬ levelKey (QUE.Q_HIGH_WM.key q 0)
    ∧ ¬ levelKey (QUE.Q_LOW_WM.key q 0) := by
  simp only [levelKey, Fld.key, Fld.addr, QUE.Q_WM_PRESET, QUE.Q_HIGH_WM, QUE.Q_LOW_WM]
  omega

theorem levelKey_block {k : Nat} (hk : keyBlock k ≠ 16) : ¬ levelKey k := by
  unfold levelKey keyBlock at *
  omega

/-- Table 15.3 (R391). -/
theorem wmPreset_holds (hb : Unreplaced s.dev.begin) (hlive : s.dev.begin.live 16) {q v : Nat} (hq : q < 64)
    (hbuilt : s.dev.begin.rd QUE.Q_CLASS q ≠ 0) : let r := wmRow (v % 4) (s.dev.begin.capacity q)
    PresetHolds s (.wmPresetWrite q v) 16 (fun d => d.rd QUE.Q_WM_PRESET q :: [QUE.Q_HIGH_WM, QUE.Q_LOW_WM].map fun g => d.lastWritten g q)
      [v % 4 % 2 ^ QUE.Q_WM_PRESET.w, r.1 % 2 ^ 21, r.2 % 2 ^ 21] := by
  intro r
  obtain ⟨hnodup, hblk⟩ := rowCells_placed (wmFields_placed q hq) (xs := [some r.1, some r.2]) rfl
  have hpreset := presetTaken_preset hb QUE.Q_WM_PRESET q (v % 4) (wmCells q (v % 4) (s.dev.begin.capacity q)) hnodup
  have hshown := queueLevel_shown
    (s.dev.begin.presetTaken QUE.Q_WM_PRESET q (v % 4) (wmCells q (v % 4) (s.dev.begin.capacity q))) hq
  obtain ⟨hsel, hhigh, hlow⟩ := wmFields_noLevel q
  obtain ⟨hhighLast, hrest⟩ := List.forall_mem_cons.mp hpreset.last
  obtain ⟨hlowLast, -⟩ := List.forall_mem_cons.mp hrest
  refine ⟨_, exec_onReg (exec_wmPresetWrite q v) hlive, ?_, ?_⟩ <;>
    rw [Dev.presetHeld_unreplaced hb.items, wmPreset_taken hbuilt]
  · exact cons_congr ((hshown.rd_eq _ _ _ hsel).trans hpreset.selector)
      (cons_congr ((hshown.lastWritten_eq _ _ _ hhigh).trans hhighLast)
        (congrArg (fun y => [y]) ((hshown.lastWritten_eq _ _ _ hlow).trans hlowLast)))
  · intro k hk
    rw [hshown.regs k (levelKey_block fun h => hk (List.mem_singleton.mpr h)), onlyBlocks_of_keys hpreset.regs hblk k hk]

theorem wmPreset_ignored (hb : Unreplaced s.dev.begin) (hlive : s.dev.begin.live 16) (q v : Nat)
    (hunbuilt : s.dev.begin.rd QUE.Q_CLASS q = 0) : PresetIgnored s (.wmPresetWrite q v) := by
  refine presetIgnored_of (exec_wmPresetWrite q v) hlive ((Dev.presetHeld_unreplaced hb.items ..).trans ?_)
  simp [wmPreset, hunbuilt]

/-! Severities. -/

/-- The faults whose severity is not fixed. -/
def sevCodes : List Nat := (List.range 336).filter fun i => decide ((faultRow i).built = 1 ∧ (faultRow i).fixed = 0)

/-- Every cell of SEV_PRESET. -/
def sevCells (v : Nat) : List TableCell := sevCodes.map fun i => ⟨FLT.F_SEV, i, 0, sevPresetRow v i⟩

theorem sevPreset_taken {v : Nat} {d : Dev} (hv : v < 2) (hmode : d.mode = 4) : sevPreset v d
    = d.presetTaken FLT.SEV_PRESET 0 v (sevCells v) := by
  have hmod : v % 4 = v := by omega
  have hle : ¬ 2 ≤ v := by omega
  simp only [sevPreset, hmode, ne_eq, not_true_eq_false, if_false, sevExpand, hmod, hle, false_and]
  simp only [Dev.presetTaken, Dev.expandAll, sevCells, sevCodes, forAll, List.foldl_map]

theorem sevCells_keys (v : Nat) : (sevCells v).map TableCell.key = sevCodes.map fun i => FLT.F_SEV.key i 0 := by
  simp only [sevCells, List.map_map]
  rfl

theorem sev_key (i : Nat) : FLT.F_SEV.key i 0 = (0x40131000 + i * 4 + 0 * 0) * 32 := rfl

theorem sevCells_nodup (v : Nat) : (FLT.SEV_PRESET.key 0 0 :: (sevCells v).map TableCell.key).Nodup := by
  rw [sevCells_keys, List.nodup_cons]
  refine ⟨?_, nodup_map_of_inj (List.Pairwise.filter _ List.nodup_range) ?_⟩
  · simp only [List.mem_map, sev_key]
    rintro ⟨i, -, h⟩
    simp only [FLT.SEV_PRESET, Fld.key, Fld.addr] at h
    omega
  · intro i j h
    simp only [sev_key] at h
    omega

theorem sevCells_block (v : Nat) : ∀ k ∈ FLT.SEV_PRESET.key 0 0 :: (sevCells v).map TableCell.key, keyBlock k = 19 := by
  rw [sevCells_keys, List.forall_mem_cons]
  refine ⟨rfl, ?_⟩
  simp only [List.mem_map, sevCodes, List.mem_filter, List.mem_range]
  rintro _ ⟨i, ⟨hi, -⟩, rfl⟩
  rw [sev_key, keyBlock]
  omega

/-- Table 18.5 (R446). -/
theorem sevPreset_holds (hb : Unreplaced s.dev.begin) (hlive : s.dev.begin.live 19) (hmode : s.dev.begin.mode = 4) {v i x : Nat}
    (hv : v < 2) (hi : i < 336) (hbuilt : (faultRow i).built = 1) (hfixed : (faultRow i).fixed = 0) (hx : sevPresetRow v i = some x) :
    PresetHolds s (.sevPresetWrite v) 19 (fun d => [d.rd FLT.SEV_PRESET, d.lastWritten FLT.F_SEV i]) [v % 4, x % 4] := by
  refine presetHolds_of hb (exec_sevPresetWrite v) hlive (sevPreset_taken hv hmode) (sevCells_nodup v) (sevCells_block v) fun e he => ?_
  have hcell := he.last ⟨FLT.F_SEV, i, 0, sevPresetRow v i⟩
    (List.mem_map.mpr ⟨i, List.mem_filter.mpr ⟨List.mem_range.mpr hi, decide_eq_true ⟨hbuilt, hfixed⟩⟩, rfl⟩)
  rw [TableCell.result, hx] at hcell
  exact cons_congr he.selector (congrArg (fun y => [y]) hcell)

theorem sevPreset_ignored_mode (hlive : s.dev.begin.live 19) (hmode : s.dev.begin.mode ≠ 4) (v : Nat) :
    PresetIgnored s (.sevPresetWrite v) :=
  presetIgnored_of (exec_sevPresetWrite v) hlive (if_pos hmode)

theorem sevPreset_ignored (hb : Unreplaced s.dev.begin) (hlive : s.dev.begin.live 19) (hmode : s.dev.begin.mode = 4) {v : Nat}
    (hv : v = 2 ∨ v = 3) : PresetIgnored s (.sevPresetWrite v) := by
  refine presetIgnored_of (exec_sevPresetWrite v) hlive ?_
  rcases hv with rfl | rfl <;> simp [sevPreset, hmode, sevExpand, Dev.definesPreset_unreplaced hb.items]

end

/-! Every preset. -/

/-- Settles O60: each selector by its table. -/
theorem presetWrites : Obligations.PresetWrites := by
  unfold Obligations.PresetWrites
  intro s b hwait hitems holds ignored
  have hb : Unreplaced s.dev.begin := ⟨hwait, hitems⟩
  refine ⟨fun hl => ⟨fun i hi => ?_, mdPreset_ignored hb hl⟩, fun hl => ⟨?_, overlapPreset_ignored hb hl⟩,
    fun hl => ⟨?_, carsilPreset_ignored hb hl⟩, fun hl n hn => ?_, fun hl => ⟨?_, fusePreset_ignored hb hl⟩, fun hl c hc => ?_,
    fun _ => rfl, fun hl => ?_, fun hl n hn => ?_, fun hl n hn => ?_, fun hl c hc => ⟨?_, blwPreset_ignored hb hl c⟩,
    fun hl p hp => ⟨fun hoff => ?_, fun hon v => canPreset_refused hl p v hon⟩, fun hl q _ hq v => wmPreset_ignored hb hl q v hq,
    fun hl q hq hbuilt => ?_, fun hl => ⟨?_, thmPreset_ignored hb hl⟩, fun hl => ⟨fun hmode => ?_, fun hmode v =>
      sevPreset_ignored_mode hl hmode v⟩⟩
  · have h (v : Nat) (hv : v < 3) := mdPreset_holds hb hl hv hi
    obtain rfl | rfl | rfl | rfl : i = 0 ∨ i = 1 ∨ i = 2 ∨ i = 3 := by omega
    all_goals exact ⟨h 0 (by decide), h 1 (by decide), h 2 (by decide)⟩
  · exact ⟨overlapPreset_holds (v := 0) hb hl rfl, overlapPreset_holds (v := 1) hb hl rfl, overlapPreset_holds (v := 2) hb hl rfl⟩
  · exact ⟨carsilPreset_holds (v := 0) hb hl rfl, carsilPreset_holds (v := 1) hb hl rfl, carsilPreset_holds (v := 2) hb hl rfl⟩
  · exact ⟨supPreset_holds hb hl n 0 hn, supPreset_holds hb hl n 1 hn, supPreset_holds hb hl n 2 hn, supPreset_holds hb hl n 3 hn⟩
  · exact ⟨fusePreset_holds (v := 0) hb hl rfl, fusePreset_holds (v := 1) hb hl rfl, fusePreset_holds (v := 2) hb hl rfl⟩
  · exact ⟨⟨dpcPreset_holds (v := 0) hb hl hc (by decide), dpcPreset_holds (v := 1) hb hl hc (by decide),
      dpcPreset_holds (v := 2) hb hl hc (by decide)⟩, dpcPreset_ignored hb hl c, tonePreset_ignored hb hl c,
      fun v hv k hk x y => tonePreset_holds hb hl hc hv hk⟩
  · exact ⟨gnssPreset_holds hb hl 0, gnssPreset_holds hb hl 1, gnssPreset_holds hb hl 2, gnssPreset_holds hb hl 3⟩
  · exact ⟨loadPreset_holds hb hl n 0 hn, loadPreset_holds hb hl n 1 hn, loadPreset_holds hb hl n 2 hn, loadPreset_holds hb hl n 3 hn⟩
  · exact ⟨valvePreset_holds hb hl n 0 hn, valvePreset_holds hb hl n 1 hn, valvePreset_holds hb hl n 2 hn,
      valvePreset_holds hb hl n 3 hn⟩
  · exact ⟨blwPreset_holds (v := 0) hb hl hc rfl, blwPreset_holds (v := 1) hb hl hc rfl, blwPreset_holds (v := 2) hb hl hc rfl⟩
  · exact ⟨canPreset_holds hb hl p 0 hp hoff, canPreset_holds hb hl p 1 hp hoff, canPreset_holds hb hl p 2 hp hoff,
      canPreset_holds hb hl p 3 hp hoff⟩
  · exact ⟨wmPreset_holds (v := 0) hb hl hq hbuilt, wmPreset_holds (v := 1) hb hl hq hbuilt, wmPreset_holds (v := 2) hb hl hq hbuilt,
      wmPreset_holds (v := 3) hb hl hq hbuilt⟩
  · exact ⟨thmPreset_holds (v := 0) hb hl rfl, thmPreset_holds (v := 1) hb hl rfl, thmPreset_holds (v := 2) hb hl rfl⟩
  · refine ⟨sevPreset_ignored hb hl hmode (.inl rfl), sevPreset_ignored hb hl hmode (.inr rfl), fun i hi hbuilt hfixed => ?_⟩
    exact ⟨sevPreset_holds (v := 0) hb hl hmode (by decide) hi hbuilt hfixed rfl,
      sevPreset_holds (v := 1) hb hl hmode (by decide) hi hbuilt hfixed rfl⟩

end Sys2Proof.Machine
end

section
/-! What register writes and records leave of the device: frames by the keys written, one bit of a field, and the recorder's block
(R396, R399). -/

namespace Sys2Proof.Machine

/-! Frames by key. -/

theorem onlyKeys.of_regs {ks : List Nat} {d e : Dev} (h : e.regs = d.regs) : onlyKeys ks d e := fun _ _ => by rw [h]

theorem onlyKeys.wr {ks : List Nat} {d e : Dev} (h : onlyKeys ks d e) (f : Fld) (v i j : Nat) (hf : f.key i j ∈ ks) :
    onlyKeys ks d (e.wr f v i j) := fun k hk =>
  (e.wr_entry_ne f v i j k fun heq => hk (heq ▸ hf)).trans (h k hk)

theorem onlyKeys.rd_eq {ks : List Nat} {d e : Dev} (h : onlyKeys ks d e) (f : Fld) (i j : Nat) (hf : f.key i j ∉ ks) :
    e.rd f i j = d.rd f i j := by
  unfold Dev.rd; rw [h _ hf]

/-! One bit of a field. -/

theorem testBit_putBit_self (k : Nat) (b : Bool) (v : Nat) : (putBit k b v).testBit k = b := by
  unfold putBit
  by_cases h : v.testBit k = b
  · rw [if_pos h, h]
  rw [if_neg h]
  cases b with
  | true =>
    rw [if_pos rfl, Nat.add_comm, Nat.testBit_two_pow_add_eq]
    simpa using h
  | false =>
    have hset : v.testBit k = true := by simpa using h
    have hsum : (2 ^ k + (v - 2 ^ k)).testBit k = !(v - 2 ^ k).testBit k := Nat.testBit_two_pow_add_eq ..
    rw [Nat.add_sub_cancel' (Nat.ge_two_pow_of_testBit hset), hset] at hsum
    simpa using hsum.symm

/-- Where bit `k` is clear, adding it carries nothing into the bits above. -/
theorem add_two_pow_div_of_clear {k v : Nat} (h : v.testBit k = false) : (v + 2 ^ k) / 2 ^ k / 2 = v / 2 ^ k / 2 := by
  rw [Nat.add_div_right v (Nat.two_pow_pos k)]
  rw [Nat.testBit_eq_decide_div_mod_eq, decide_eq_false_iff_not] at h
  omega

/-- Setting a bit clears none. -/
theorem testBit_putBit_true {k l v : Nat} (h : v.testBit l = true) : (putBit k true v).testBit l = true := by
  unfold putBit
  by_cases hk : v.testBit k = true
  · rwa [if_pos hk]
  rw [if_neg hk, if_pos rfl]
  rw [Bool.not_eq_true] at hk
  rcases Nat.lt_trichotomy l k with hlt | rfl | hgt
  · rw [Nat.add_comm, Nat.testBit_two_pow_add_gt hlt, h]
  · rw [h] at hk; cases hk
  · obtain ⟨m, rfl⟩ : ∃ m, l = m + 1 + k := ⟨l - k - 1, by omega⟩
    rw [Nat.testBit_add, Nat.testBit_add_one] at h ⊢
    rwa [add_two_pow_div_of_clear hk]

/-- The bit just written of a field that has it. -/
theorem Dev.rd_wrBit_testBit {f : Fld} {k : Nat} (hk : k < f.w) (d : Dev) (b : Bool) (i : Nat) :
    ((d.wrBit f k b i).rd f i).testBit k = b := by
  rw [Dev.wrBit, Dev.rd_wr, Nat.testBit_mod_two_pow, testBit_putBit_self]
  simp [hk]

/-- Setting one bit of a field leaves another set. -/
theorem Dev.rd_wrBit_true_testBit {f : Fld} {l : Nat} (hl : l < f.w) {d : Dev} {i : Nat} (h : (d.rd f i).testBit l = true) (k : Nat) :
    ((d.wrBit f k true i).rd f i).testBit l = true := by
  rw [Dev.wrBit, Dev.rd_wr, Nat.testBit_mod_two_pow, testBit_putBit_true h]
  simp [hl]

/-! The recorder. -/

/-- From `d` to `e` no register outside the recorder's block changes, and nothing of the structure or the loader. -/
structure RecordsOnly (d e : Dev) : Prop where
  regs : onlyBlocks [17] d e
  built : e.built = d.built
  cfg : e.cfg = d.cfg

theorem RecordsOnly.refl (d : Dev) : RecordsOnly d d := ⟨fun _ _ => rfl, rfl, rfl⟩

theorem RecordsOnly.trans {d e g : Dev} (h : RecordsOnly d e) (h' : RecordsOnly e g) : RecordsOnly d g :=
  ⟨fun k hk => (h'.regs k hk).trans (h.regs k hk), h'.built.trans h.built, h'.cfg.trans h.cfg⟩

/-- What the recorder holds beside its registers. -/
theorem RecordsOnly.hold {d e : Dev} (h : RecordsOnly d e) (r : RecH) : RecordsOnly d { e with recd := r } := ⟨h.regs, h.built, h.cfg⟩

theorem RecordsOnly.wr {d e : Dev} (h : RecordsOnly d e) (f : Fld) (v i j : Nat) (hf : keyBlock (f.key i j) = 17) :
    RecordsOnly d (e.wr f v i j) where
  regs k hk := (e.wr_entry_ne f v i j k fun heq => hk (List.mem_singleton.mpr (heq ▸ hf))).trans (h.regs k hk)
  built := h.built
  cfg := h.cfg

theorem RecordsOnly.note {d e : Dev} (h : RecordsOnly d e) (r : Raised) : RecordsOnly d (e.note r) := ⟨h.regs, h.built, h.cfg⟩

theorem RecordsOnly.event {d e : Dev} (h : RecordsOnly d e) (k : Nat) : RecordsOnly d (e.cause REC.EVT k) := (h.wr REC.EVT _ 0 0 rfl).note _

/-- What the recorder's block leaves out reads as before. -/
theorem RecordsOnly.rd_eq {d e : Dev} (h : RecordsOnly d e) (f : Fld) (i j : Nat) (hf : keyBlock (f.key i j) ≠ 17) :
    e.rd f i j = d.rd f i j := by
  unfold Dev.rd; rw [h.regs _ fun hmem => hf (List.mem_singleton.mp hmem)]

theorem loseRecord_recordsOnly (d : Dev) : RecordsOnly d d.loseRecord := ((RecordsOnly.refl d).hold _).wr REC.LOST _ 0 0 rfl |>.event 1

theorem formRecord_recordsOnly (d : Dev) (kind code severity flags ref : Nat) (data : List Nat) :
    RecordsOnly d (d.formRecord kind code severity flags ref data) := by
  unfold Dev.formRecord
  split
  · exact .refl d
  split
  · exact loseRecord_recordsOnly d
  · exact ((RecordsOnly.refl d).hold _).wr REC.BACKLOG _ 0 0 rfl

theorem keepRecord_recordsOnly (d : Dev) (r : Rec) : RecordsOnly d (d.keepRecord r) :=
  ((RecordsOnly.refl d).hold _).wr REC.REC_NEXT _ 0 0 rfl |>.event 0

theorem dropOldest_recordsOnly (d : Dev) : RecordsOnly d d.dropOldest := ((RecordsOnly.refl d).hold _).wr REC.REC_TIDE_OLDEST _ 0 0 rfl

/-- Into the single area, into Crust, or into Tide (R400, R401). -/
theorem storeRecord_recordsOnly (d : Dev) (r : Rec) : RecordsOnly d (d.storeRecord r) := by
  have hkeep := keepRecord_recordsOnly d r
  have hcrust (n oldest : Nat) := (hkeep.wr REC.REC_CRUST_N n 0 0 rfl).wr REC.REC_TIDE_OLDEST oldest 0 0 rfl
  unfold Dev.storeRecord
  split
  · split
    · exact loseRecord_recordsOnly d
    dsimp only
    split
    · exact (((hkeep.hold _).wr REC.FULL 1 0 0 rfl).event 2).note _
    · exact hkeep
  split
  · dsimp only
    split
    · exact (hcrust _ _).hold _
    · exact hcrust _ _
  split
  · exact (dropOldest_recordsOnly d).trans (keepRecord_recordsOnly _ r)
  · exact hkeep

theorem crustFirst_recordsOnly (d : Dev) : RecordsOnly d d.crustFirst := by
  unfold Dev.crustFirst
  split
  · exact (RecordsOnly.refl d).wr REC.REC_CRUST_FIRST _ 0 0 rfl
  · exact .refl d

theorem lostRecord_recordsOnly (d : Dev) : RecordsOnly d d.lostRecord := by
  unfold Dev.lostRecord
  split
  · exact .refl d
  · exact (formRecord_recordsOnly d _ _ _ _ _ _).hold _

theorem storeOldest_recordsOnly (d : Dev) (t : Nat) : RecordsOnly d (d.storeOldest t) := by
  unfold Dev.storeOldest
  split
  · exact .refl d
  · exact ((((RecordsOnly.refl d).hold _).wr REC.BACKLOG _ 0 0 rfl).trans (crustFirst_recordsOnly _)).trans
      (storeRecord_recordsOnly _ _) |>.trans (crustFirst_recordsOnly _) |>.trans (lostRecord_recordsOnly _)

theorem storesDue_recordsOnly (n : Nat) (d : Dev) : RecordsOnly d (storesDue n d) := by
  induction n generalizing d with
  | zero => exact .refl d
  | succ n ih =>
    unfold storesDue
    split
    · exact .refl d
    dsimp only
    split
    · exact (storeOldest_recordsOnly d _).trans (ih _)
    · exact .refl d

theorem record_recordsOnly (d : Dev) (kind code severity flags ref : Nat) (data : List Nat) :
    RecordsOnly d (d.record kind code severity flags ref data) :=
  (storesDue_recordsOnly _ d).trans (formRecord_recordsOnly _ _ _ _ _ _ _)

/-- The records of a load (R474). -/
theorem loadRecords_recordsOnly (d : Dev) (i : Image) (accepted : Bool) (result : Nat) : RecordsOnly d (d.loadRecords i accepted result) := by
  unfold Dev.loadRecords
  split
  · exact record_recordsOnly ..
  split
  · exact forAll_keeps (RecordsOnly d) _ _ (fun _ _ _ he => he.trans (record_recordsOnly ..)) d (.refl d)
  · exact record_recordsOnly ..

end Sys2Proof.Machine
end

section
/-! What every command ends with, and a Shadowed write (R87). -/

namespace Sys2Proof.Machine

/-- With nothing raised the fault manager has nothing to do. -/
theorem Dev.settle_quiet {d : Dev} (h : d.raised = []) : d.settle = d := if_pos h

theorem Dev.standing_quiet {d : Dev} (h : d.wait = []) : d.standing = d := if_pos h

/-- The network blocks do nothing of themselves while their domain is off. -/
theorem Dev.netSettle_off {d : Dev} (hcan : d.powered 14 = false) (heth : d.powered 15 = false) : d.netSettle = d := by
  simp [Dev.netSettle, hcan, heth]

/-- Where no class L queue has a void entry in front, none leaves (R384). -/
theorem Dev.chainShow_quiet {d : Dev} (h : ∀ q ∈ [60, 61, 62, 63], ∀ e ∈ (d.queue q).head.head?, e.void = false) : d.chainShow = d := by
  refine forAll_keeps (· = d) _ _ (fun q hq e he => ?_) d rfl
  subst he
  split
  · next x _ hx => rw [h q hq x (by simp [hx])]; rfl
  · rfl

/-- The update gate and the CFG sums are all that a command's end shows where nothing is left to do. -/
theorem Dev.finish_calm {d : Dev} (hraised : d.raised = []) (hwait : d.wait = []) (hcan : d.powered 14 = false)
    (heth : d.powered 15 = false) (hvoid : ∀ q ∈ [60, 61, 62, 63], ∀ e ∈ (d.queue q).head.head?, e.void = false) :
    d.finish = d.gateShow.cfgShow := by
  unfold Dev.finish
  rw [d.chainShow_quiet hvoid, Dev.standing_quiet hwait, Dev.settle_quiet hraised, Dev.netSettle_off hcan heth, Dev.settle_quiet hraised]

/-- GATE_OPEN is shown while PD2 is on. -/
theorem Dev.gateShow_cases (d : Dev) : (∃ v, d.gateShow = d.wr UPD.GATE_OPEN v) ∨ d.gateShow = d := by
  unfold Dev.gateShow
  split
  · exact .inl ⟨_, rfl⟩
  · exact .inr rfl

/-- Settles O4: by `Dev.finish_calm`. -/
theorem finishCalm : Obligations.FinishCalm := by
  unfold Obligations.FinishCalm
  intro d hraised hwait hcan heth hvoid
  rw [Dev.finish_calm hraised hwait hcan heth hvoid]
  have hshow {g : Dev} (hg : onlyKeys [UPD.GATE_OPEN.key 0 0, CFG.SHADOW.key 0 0, CFG.LOCKED.key 0 0] d g) :
      onlyKeys [UPD.GATE_OPEN.key 0 0, CFG.SHADOW.key 0 0, CFG.LOCKED.key 0 0] d g.cfgShow :=
    (hg.wr CFG.SHADOW _ 0 0 (by simp)).wr CFG.LOCKED _ 0 0 (by simp)
  have hsame : onlyKeys [UPD.GATE_OPEN.key 0 0, CFG.SHADOW.key 0 0, CFG.LOCKED.key 0 0] d d := .of_regs rfl
  rcases d.gateShow_cases with ⟨v, h⟩ | h <;> rw [h]
  · exact ⟨hshow (hsame.wr UPD.GATE_OPEN v 0 0 (by simp)), hraised, rfl, rfl, rfl⟩
  · exact ⟨hshow hsame, hraised, rfl, rfl, rfl⟩

theorem Dev.shadow_now {d : Dev} {f : Fld} {i j : Nat}
    (h : d.boundaryNow (keyBlock (f.key i j)) (elemOf (keyBlock (f.key i j)) (f.addr i j)) = true) (v : Nat) :
    d.shadow f v i j = { d.wr f v i j with wait := tdel (f.key i j) d.wait } := if_pos h

theorem Dev.shadow_waits {d : Dev} {f : Fld} {i j : Nat}
    (h : ¬ d.boundaryNow (keyBlock (f.key i j)) (elemOf (keyBlock (f.key i j)) (f.addr i j)) = true) (v : Nat) :
    d.shadow f v i j = { d with wait := tset (f.key i j) (v % 2 ^ f.w) d.wait } := if_neg h

/-- Settles O11: the boundary stands, or it does not. -/
theorem shadowedWriteWaits : Obligations.ShadowedWriteWaits := by
  unfold Obligations.ShadowedWriteWaits
  intro d f v i j
  refine ⟨d.lastWritten_shadow f v i j, fun k hk => d.shadow_entry_ne f v i j k fun heq => hk (heq ▸ List.mem_singleton_self _), ?_⟩
  split
  · next h =>
    rw [Dev.shadow_now h]
    exact d.rd_wr f v i j
  · next h =>
    rw [Dev.shadow_waits h]
    exact ⟨rfl, tget?_tset_self ..⟩

end Sys2Proof.Machine
end

section
/-! The P-register that no CR14 entry assigns may still have a writer: the baseline of a built blower (R93, R344). -/

namespace Sys2Proof.Machine

/-- Out of reset with blower 0 built; its CH_AGE_PREG reads 0, so its baseline is P-register 0. -/
def blowerBaseline : State := { State.reset with dev := State.reset.dev.wr BLW.CH_BUILT 1 }

/-- CR14 assigns nothing there, and yet the field cores may not write P-register 0. -/
theorem blowerBaseline_denies : blowerBaseline.dev.begin.powered 2 = true ∧ blowerBaseline.dev.begin.itemsOf 14 = []
    ∧ blowerBaseline.dev.begin.pregMay 0 .core = false := by decide +kernel

/-- Refutes O26: the last clause gives every P-register below 4,032 that CR14 assigns to no one to the field cores, but the baseline
of a built blower has BLW as its writer (R344). -/
theorem not_pregWrites : ¬ Obligations.PregWrites := by
  unfold Obligations.PregWrites
  intro h
  obtain ⟨hpowered, hitems, hdenied⟩ := blowerBaseline_denies
  obtain ⟨-, -, -, -, hfree⟩ := h .core 0 0 none none blowerBaseline (by decide) hpowered
  have hmay := hfree (by decide) (by simp [hitems])
  rw [hdenied] at hmay
  cases hmay

end Sys2Proof.Machine
end

section
/-! The loader: a load command and its checks (R77, R82, R474), the acceptance of live regions and their swap (R78, R81, R83), and the
end of a static build (R79, R84, R85). -/

namespace Sys2Proof.Machine

/-! A load command. -/

/-- No region builds CFG, so no static build disables it (Table 3.3). -/
theorem cfg_not_regionBlock (r : Nat) : 1 ∉ regionBlocks r := by
  unfold regionBlocks
  split <;> decide

theorem Dev.live_cfg {d : Dev} (h : d.powered 1 = true) : d.live 1 := by
  refine ⟨h, ?_⟩
  simp only [Dev.shutBlocks, List.contains_eq_mem, List.mem_eraseDups, List.mem_filter, List.mem_flatMap, decide_eq_false_iff_not]
  rintro ⟨⟨r, -, hr⟩, -⟩
  exact cfg_not_regionBlock r hr

/-- A load command of either kind. -/
def loadInstr (x : Reading) (persist : Bool) : Instr := if persist then .loadAndPersist x else .loadCmd x

/-- A load command is a write of CFG_LOAD_CMD on the image that stands in DRAM. -/
theorem exec_loadInstr {s : State} (h : s.dev.begin.powered 1 = true) (x : Reading) (persist : Bool) :
    exec (loadInstr x persist) s
      = .next { s with dev := (s.dev.begin.loadStart (s.dev.begin.imageAt s.dram x) persist).busOk.finish } := by
  have hlive := Dev.live_cfg h
  cases persist with
  | false => exact exec_onReg (g := loadImage x s.dram) rfl hlive
  | true => exact exec_onReg (g := loadAndPersist x s.dram) rfl hlive

/-- LOAD_RESULT and FAIL_OFFSET of a refused load. -/
def Dev.loadFailed (d : Dev) (result offset : Nat) : Dev := (d.wr CFG.LOAD_RESULT result).wr CFG.FAIL_OFFSET offset

theorem Dev.loadRefused_eq (d : Dev) (i : Image) (result offset : Nat) :
    d.loadRefused i result offset = (d.loadFailed result offset).loadRecords i false result := rfl

@[simp] theorem Dev.loadFailed_built (d : Dev) (result offset : Nat) : (d.loadFailed result offset).built = d.built := rfl

@[simp] theorem Dev.loadFailed_cfg (d : Dev) (result offset : Nat) : (d.loadFailed result offset).cfg = d.cfg := rfl

theorem Dev.loadFailed_result (d : Dev) (result offset : Nat) : (d.loadFailed result offset).rd CFG.LOAD_RESULT = result % 16 := by
  rw [Dev.loadFailed, Dev.rd_wr_ne _ _ _ _ _ _ _ _ (by decide)]
  exact d.rd_wr CFG.LOAD_RESULT result 0 0

theorem Dev.loadFailed_offset (d : Dev) (result offset : Nat) : (d.loadFailed result offset).rd CFG.FAIL_OFFSET = offset % 65536 :=
  Dev.rd_wr _ CFG.FAIL_OFFSET offset 0 0

theorem onlyKeys.loadFailed {ks : List Nat} {d e : Dev} (h : onlyKeys ks d e) (result offset : Nat)
    (hresult : CFG.LOAD_RESULT.key 0 0 ∈ ks) (hoffset : CFG.FAIL_OFFSET.key 0 0 ∈ ks) : onlyKeys ks d (e.loadFailed result offset) :=
  (h.wr CFG.LOAD_RESULT result 0 0 hresult).wr CFG.FAIL_OFFSET offset 0 0 hoffset

/-- While an image is checked or built a load is refused with BUSY (R82). -/
theorem Dev.loadStart_busy {d : Dev} (h : d.rd CFG.LOAD_STATE ≠ 0) (i : Image) (persist : Bool) :
    d.loadStart i persist = (d.loadFailed 2 0).loadRecords i false 2 := if_pos h

/-- The image is under check, and LOAD_STATE reads CHECKING. -/
def Dev.checksBegun (d : Dev) (i : Image) (persist : Bool) : Dev :=
  { d with cfg := { d.cfg with checking := some ⟨i, persist, d.now + d.checkTime i⟩ } }.wr CFG.LOAD_STATE 1

theorem Dev.checksBegun_state (d : Dev) (i : Image) (persist : Bool) : (d.checksBegun i persist).rd CFG.LOAD_STATE = 1 :=
  Dev.rd_wr _ CFG.LOAD_STATE 1 0 0

theorem Dev.checksBegun_onlyKeys (d : Dev) (i : Image) (persist : Bool) :
    onlyKeys [CFG.LOAD_STATE.key 0 0] d (d.checksBegun i persist) :=
  (onlyKeys.of_regs rfl).wr CFG.LOAD_STATE 1 0 0 (by simp)

@[simp] theorem Dev.checksBegun_built (d : Dev) (i : Image) (persist : Bool) : (d.checksBegun i persist).built = d.built := rfl

@[simp] theorem Dev.checksBegun_cfg (d : Dev) (i : Image) (persist : Bool) : (d.checksBegun i persist).cfg
    = { d.cfg with checking := some ⟨i, persist, d.now + d.checkTime i⟩ } := rfl

theorem Dev.loadStart_idle {d : Dev} (h : d.rd CFG.LOAD_STATE = 0) (i : Image) (persist : Bool) :
    d.loadStart i persist = d.checksBegun i persist := if_neg (not_not_intro h)

/-! The end of the checks. -/

/-- LOAD_STATE leaves CHECKING. -/
def Dev.checksOver (d : Dev) : Dev := { d with cfg := { d.cfg with checking := none } }.wr CFG.LOAD_STATE 0

theorem Dev.loadDue_before {d : Dev} {c : Checking} (h : d.cfg.checking = some c) (hnow : d.now < c.doneAt) : d.loadDue = d := by
  simp [Dev.loadDue, h, Nat.not_le.mpr hnow]

theorem Dev.loadDue_after {d : Dev} {c : Checking} (h : d.cfg.checking = some c) (hnow : c.doneAt ≤ d.now) :
    d.loadDue = d.checksOver.load c.image c.persist := by
  simp [Dev.loadDue, Dev.loadChecked, Dev.checksOver, h, hnow]

theorem Dev.load_accepted {d : Dev} {i : Image} (h : d.loadFault i = none) (persist : Bool) : d.load i persist = d.loadAccept i persist := by
  simp [Dev.load, h]

theorem Dev.load_refused {d : Dev} {i : Image} {r o : Nat} (h : d.loadFault i = some (r, o)) (persist : Bool) :
    d.load i persist = (d.loadFailed r o).loadRecords i false r := by
  simp [Dev.load, h, Dev.loadRefused_eq]

/-- Step 2 of Table 3.4. -/
theorem Dev.loadFault_header {d : Dev} {i : Image} (h : i.headerOk (d.rd CFG.LEN) = false) : d.loadFault i = some (3, 0) := by
  simp [Dev.loadFault, refuseIf, h, lrFormat]

/-- Step 5 of Table 3.4. -/
theorem Dev.loadFault_waiting {d : Dev} {i : Image} (h : i.headerOk (d.rd CFG.LEN) = true) (hfault : d.imageFault i false = none)
    (hwaits : ∃ r ∈ i.numbers, (d.rd CFG.PEND).testBit r = true) : d.loadFault i = some (2, 0) := by
  have hany : (i.numbers.any fun r => (d.rd CFG.PEND).testBit r) = true := List.any_eq_true.mpr hwaits
  simp [Dev.loadFault, refuseIf, h, hfault, hany, lrBusy]

/-- Settles O23: the command by `Dev.loadStart`, the end of the checks by `Dev.loadDue`, the first and the last check by
`Dev.loadFault`. -/
theorem loadChecks : Obligations.LoadChecks := by
  unfold Obligations.LoadChecks
  refine ⟨?_, fun d c hc => ?_, fun d i => ⟨Dev.loadFault_header, Dev.loadFault_waiting⟩⟩
  · intro x s b img hpowered
    refine ⟨fun hbusy => ?_, fun hidle persist => ?_⟩
    · have hexec (persist : Bool) : exec (loadInstr x persist) s
          = .next { s with dev := ((b.loadFailed 2 0).loadRecords img false 2).busOk.finish } := by
        rw [exec_loadInstr hpowered, Dev.loadStart_busy hbusy]
      exact ⟨b.loadFailed 2 0, hexec false, hexec true, b.loadFailed_result 2 0, b.loadFailed_offset 2 0,
        (onlyKeys.of_regs rfl).loadFailed 2 0 (by simp) (by simp), b.loadFailed_built 2 0, b.loadFailed_cfg 2 0⟩
    · have hexec : exec (loadInstr x persist) s = .next { s with dev := (b.checksBegun img persist).busOk.finish } := by
        rw [exec_loadInstr hpowered, Dev.loadStart_idle hidle]
      exact ⟨b.checksBegun img persist, hexec, b.checksBegun_state img persist, b.checksBegun_onlyKeys img persist,
        b.checksBegun_built img persist, b.checksBegun_cfg img persist⟩
  · have hstate {ks : List Nat} (h : CFG.LOAD_STATE.key 0 0 ∈ ks) : onlyKeys ks d d.checksOver :=
      (onlyKeys.of_regs rfl).wr CFG.LOAD_STATE 0 0 0 h
    refine ⟨d.checksOver, Dev.rd_wr _ CFG.LOAD_STATE 0 0 0, hstate (by simp), rfl, rfl, Dev.loadDue_before hc, fun hnow hok => ?_,
      fun hnow r o hfault => ⟨d.checksOver.loadFailed r o, ?_, Dev.loadFailed_result .., Dev.loadFailed_offset ..,
        (hstate (by simp)).loadFailed r o (by simp) (by simp), rfl, rfl⟩⟩
    · rw [Dev.loadDue_after hc hnow, Dev.load_accepted hok]
    · rw [Dev.loadDue_after hc hnow, Dev.load_refused hfault]

end Sys2Proof.Machine
end

section
/-! Live regions (R78, R81, R83, R474): the acceptance of an image of live regions alone, and what ends a region's wait. -/

namespace Sys2Proof.Machine

/-! Acceptance. -/

/-- A partial image of live regions alone, one at least (R78). -/
structure LiveImage (i : Image) : Prop where
  kind : i.kind ≠ 0
  live : ∀ r ∈ i.regions, regionLive r.no = true
  nonempty : i.regions ≠ []

/-- An accepted image is named in ID and VER, and no result of the load stands. -/
def Dev.loadNamed (d : Dev) (i : Image) : Dev :=
  (((d.wr CFG.ID i.imageId).wr CFG.VER i.imageVer).wr CFG.FAIL_OFFSET 0).wr CFG.LOAD_RESULT 0

/-- Regions into their shadow copies. -/
def Dev.shadowRegions (d : Dev) (i : Image) (persist : Bool) (rs : List Region) : Dev :=
  forAll rs (fun r d => d.shadowRegion i persist r) d

/-- Region `r` waits for its swap. -/
def Dev.regionWaits (d : Dev) (r : Nat) : Prop := (d.rd CFG.PEND).testBit r = true ∧ tget? r d.cfg.swaps ≠ none

theorem regionLive_lt {r : Nat} (h : regionLive r = true) : r < 16 := by
  have hbound : ∀ n ∈ liveRegions, n < 16 := by decide
  exact hbound r (by simpa [regionLive] using h)

theorem Dev.shadowRegion_waits (d : Dev) (i : Image) (persist : Bool) {r : Region} (h : regionLive r.no = true) :
    (d.shadowRegion i persist r).regionWaits r.no :=
  ⟨Dev.rd_wrBit_testBit (regionLive_lt h) _ true 0, by simp [Dev.shadowRegion]⟩

theorem Dev.regionWaits.shadowRegion {d : Dev} {n : Nat} (h : d.regionWaits n) (hn : n < 16) (i : Image) (persist : Bool) (r : Region) :
    (d.shadowRegion i persist r).regionWaits n := by
  obtain ⟨hpend, hswap⟩ := h
  refine ⟨Dev.rd_wrBit_true_testBit (f := CFG.PEND) hn hpend r.no, ?_⟩
  by_cases heq : n = r.no
  · simp [Dev.shadowRegion, heq]
  · simpa [Dev.shadowRegion, tget?_tset_ne heq] using hswap

/-- Each region put into its shadow copy waits. -/
theorem Dev.shadowRegions_wait (i : Image) (persist : Bool) (rs : List Region) (hlive : ∀ r ∈ rs, regionLive r.no = true) (d : Dev) :
    ∀ r ∈ rs, (d.shadowRegions i persist rs).regionWaits r.no := by
  induction rs generalizing d with
  | nil => simp
  | cons a rs ih =>
    obtain ⟨ha, hrs⟩ := List.forall_mem_cons.mp hlive
    refine List.forall_mem_cons.mpr ⟨?_, ih hrs (d.shadowRegion i persist a)⟩
    exact forAll_keeps (Dev.regionWaits · a.no) rs _ (fun r _ e he => he.shadowRegion (regionLive_lt ha) i persist r) _
      (d.shadowRegion_waits i persist ha)

/-- From `d` to `e` CFG_RGN_PEND and the shadow copies alone change. -/
structure ShadowsOnly (d e : Dev) : Prop where
  regs : onlyKeys [CFG.PEND.key 0 0] d e
  built : e.built = d.built
  recd : e.recd = d.recd

theorem Dev.shadowRegions_shadowsOnly (d : Dev) (i : Image) (persist : Bool) (rs : List Region) :
    ShadowsOnly d (d.shadowRegions i persist rs) := by
  refine forAll_keeps (ShadowsOnly d) rs _ (fun r _ e he => ?_) d ⟨fun _ _ => rfl, rfl, rfl⟩
  exact ⟨he.regs.wr CFG.PEND _ 0 0 (by simp), he.built, he.recd⟩

/-- An accepted image of live regions alone: its records wait for the patches, or are formed at once (R85, R474). -/
theorem Dev.loadAccept_live {i : Image} (hi : LiveImage i) (d : Dev) (persist : Bool) : d.loadAccept i persist
      = (let e := (d.loadNamed i).shadowRegions i persist i.regions
         if persist then { e with cfg := { e.cfg with unrecorded := e.cfg.unrecorded ++ [⟨i, i.numbers, 1⟩] } }
         else e.loadRecords i true 1).wr CFG.LOAD_RESULT 1 := by
  have hall : i.regions.filter (fun r => regionLive r.no) = i.regions := List.filter_eq_self.mpr hi.live
  have hnone : i.regions.filter (fun r => !regionLive r.no) = [] := List.filter_eq_nil_iff.mpr fun r hr => by simp [hi.live r hr]
  unfold Dev.loadAccept
  simp only [if_neg hi.kind, hall, hnone]
  cases persist with
  | false => rfl
  | true => simp [hi.nonempty, Image.numbers, lrOk, Dev.shadowRegions, Dev.loadNamed]

theorem Dev.loadNamed_id (d : Dev) (i : Image) : (d.loadNamed i).rd CFG.ID = i.imageId % 2 ^ 32 := by
  unfold Dev.loadNamed
  rw [Dev.rd_wr_ne _ _ _ _ _ _ _ _ (by decide), Dev.rd_wr_ne _ _ _ _ _ _ _ _ (by decide), Dev.rd_wr_ne _ _ _ _ _ _ _ _ (by decide)]
  exact d.rd_wr CFG.ID i.imageId 0 0

theorem Dev.loadNamed_ver (d : Dev) (i : Image) : (d.loadNamed i).rd CFG.VER = i.imageVer % 2 ^ 32 := by
  unfold Dev.loadNamed
  rw [Dev.rd_wr_ne _ _ _ _ _ _ _ _ (by decide), Dev.rd_wr_ne _ _ _ _ _ _ _ _ (by decide)]
  exact Dev.rd_wr _ CFG.VER i.imageVer 0 0

/-- What follows the shadow copies leaves everything of CFG but LOAD_RESULT and what waits to be recorded. -/
theorem loadAccept_live_keeps {i : Image} (hi : LiveImage i) (d : Dev) (persist : Bool) :
    let e := (d.loadNamed i).shadowRegions i persist i.regions
    (d.loadAccept i persist).built = e.built ∧ (d.loadAccept i persist).cfg.swaps = e.cfg.swaps
      ∧ ∀ (f : Fld), keyBlock (f.key 0 0) ≠ 17 → f.key 0 0 ≠ CFG.LOAD_RESULT.key 0 0 → (d.loadAccept i persist).rd f = e.rd f := by
  intro e
  rw [Dev.loadAccept_live hi d persist]
  cases persist with
  | true => exact ⟨rfl, rfl, fun f _ hf => Dev.rd_wr_ne _ _ _ _ _ _ _ _ hf⟩
  | false =>
    have hrec := loadRecords_recordsOnly e i true 1
    exact ⟨hrec.built, congrArg CfgH.swaps hrec.cfg, fun f hblk hf =>
      (Dev.rd_wr_ne _ _ _ _ _ _ _ _ hf).trans (hrec.rd_eq f 0 0 hblk)⟩

/-- What an accepted image of live regions alone leaves (R78). -/
theorem loadAccept_live_waits {i : Image} (hi : LiveImage i) (d : Dev) (persist : Bool) : let e := d.loadAccept i persist
    e.built = d.built ∧ e.rd CFG.LOAD_RESULT = 1 ∧ e.rd CFG.ID = i.imageId % 2 ^ 32 ∧ e.rd CFG.VER = i.imageVer % 2 ^ 32
      ∧ (persist = true → e.recd = d.recd ∧ (⟨i, i.numbers, 1⟩ : Unrecorded) ∈ e.cfg.unrecorded)
      ∧ (∀ r ∈ i.regions, (e.rd CFG.PEND).testBit r.no = true ∧ tget? r.no e.cfg.swaps ≠ none) := by
  have hshadow := (d.loadNamed i).shadowRegions_shadowsOnly i persist i.regions
  obtain ⟨hbuilt, hswaps, hrd⟩ := loadAccept_live_keeps hi d persist
  have hnamed (f : Fld) (hf : f.key 0 0 ∉ [CFG.PEND.key 0 0]) (hblk : keyBlock (f.key 0 0) ≠ 17)
      (hres : f.key 0 0 ≠ CFG.LOAD_RESULT.key 0 0) : (d.loadAccept i persist).rd f = (d.loadNamed i).rd f :=
    (hrd f hblk hres).trans (hshadow.regs.rd_eq f 0 0 hf)
  refine ⟨hbuilt.trans hshadow.built, ?_, (hnamed CFG.ID (by decide) (by decide) (by decide)).trans (d.loadNamed_id i),
    (hnamed CFG.VER (by decide) (by decide) (by decide)).trans (d.loadNamed_ver i), ?_, fun r hr => ?_⟩
  · rw [Dev.loadAccept_live hi d persist]
    exact Dev.rd_wr _ CFG.LOAD_RESULT 1 0 0
  · rintro rfl
    rw [Dev.loadAccept_live hi d true]
    exact ⟨hshadow.recd, List.mem_append_right _ (List.mem_singleton_self _)⟩
  · rw [hrd CFG.PEND (by decide) (by decide), hswaps]
    exact (d.loadNamed i).shadowRegions_wait i persist i.regions hi.live r hr

/-! The end of the wait. -/

/-- A region that does not wait has no swap, and no timeout. -/
theorem liveRegionSwap_none {d : Dev} {r : Nat} (h : tget? r d.loadWait.cfg.swaps = none) (flashOk : Bool) (m : Memory) :
    liveRegionSwap r flashOk m d = (d.loadWait, m) := by
  simp [liveRegionSwap, h]

theorem liveSwapTimeout_none {d : Dev} {r : Nat} (h : tget? r d.loadWait.cfg.swaps = none) : liveSwapTimeout r d = d.loadWait := by
  simp [liveSwapTimeout, h]

/-- A held region waits on (Table 3.5). -/
theorem liveRegionSwap_held {d : Dev} {r : Nat} {w : Swap} (h : tget? r d.loadWait.cfg.swaps = some w)
    (hheld : d.loadWait.swapHeld w.content = true) (flashOk : Bool) (m : Memory) : liveRegionSwap r flashOk m d = (d.loadWait, m) := by
  simp [liveRegionSwap, h, hheld]

/-- A region that nothing holds does not time out. -/
theorem liveSwapTimeout_free {d : Dev} {r : Nat} {w : Swap} (h : tget? r d.loadWait.cfg.swaps = some w)
    (hfree : d.loadWait.swapHeld w.content = false) : liveSwapTimeout r d = d.loadWait := by
  simp [liveSwapTimeout, h, hfree]

/-- The swap instant: at once for CR8 or with the timebase stopped, else the next control tick (Table 3.5). -/
def Dev.swapInstant (d : Dev) (r : Nat) : Dev := if r = 8 ∨ d.running = false then d else d.waitMt d.tmb.nextTick

theorem liveRegionSwap_free {d : Dev} {r : Nat} {w : Swap} (h : tget? r d.loadWait.cfg.swaps = some w)
    (hfree : d.loadWait.swapHeld w.content = false) (flashOk : Bool) (m : Memory) :
    let p := ((d.loadWait.swapInstant r).swapGone r).swapAll w.content m
    liveRegionSwap r flashOk m d = ((p.1.rehash.storePatch r w flashOk).note .gates, p.2) := by
  simp [liveRegionSwap, h, hfree, Dev.swapInstant]

/-- The copy is discarded, and the region's bit in CFG_RGN_TMO set (R81). -/
def Dev.swapExpired (d : Dev) (r : Nat) : Dev := (d.swapGone r).wrBit CFG.TMO r true

theorem liveSwapTimeout_held {d : Dev} {r : Nat} {w : Swap} (h : tget? r d.loadWait.cfg.swaps = some w)
    (hheld : d.loadWait.swapHeld w.content = true) :
    let e := (d.loadWait.waitUntil (w.since + d.loadWait.liveTmo)).swapExpired r
    liveSwapTimeout r d = (e.imageRecord w.image.imageId w.image.imageVer 0xF0 r).loadPart r none := by
  simp [liveSwapTimeout, h, hheld, Dev.swapExpired]

theorem Dev.swapInstant_regs (d : Dev) (r : Nat) : (d.swapInstant r).regs = d.regs := by
  unfold Dev.swapInstant; split <;> simp

theorem Dev.swapGone_pend {r : Nat} (hr : r < 16) (d : Dev) : ((d.swapGone r).rd CFG.PEND).testBit r = false :=
  Dev.rd_wrBit_testBit hr _ false 0

theorem Dev.swapGone_swaps (d : Dev) (r : Nat) : tget? r (d.swapGone r).cfg.swaps = none := tget?_tdel_self ..

theorem onlyKeys.swapGone {ks : List Nat} {d e : Dev} (h : onlyKeys ks d e) (r : Nat) (hk : CFG.PEND.key 0 0 ∈ ks) :
    onlyKeys ks d (e.swapGone r) := h.wr CFG.PEND _ 0 0 hk

theorem Dev.swapExpired_pend {r : Nat} (hr : r < 16) (d : Dev) : ((d.swapExpired r).rd CFG.PEND).testBit r = false := by
  rw [Dev.swapExpired, Dev.wrBit, Dev.rd_wr_ne _ _ _ _ _ _ _ _ (by decide)]
  exact Dev.swapGone_pend hr d

theorem Dev.swapExpired_tmo {r : Nat} (hr : r < 16) (d : Dev) : ((d.swapExpired r).rd CFG.TMO).testBit r = true :=
  Dev.rd_wrBit_testBit hr _ true 0

theorem Dev.swapExpired_swaps (d : Dev) (r : Nat) : tget? r (d.swapExpired r).cfg.swaps = none := d.swapGone_swaps r

theorem Dev.swapExpired_built (d : Dev) (r : Nat) : (d.swapExpired r).built = d.built := rfl

theorem Dev.swapExpired_now (d : Dev) (r : Nat) : (d.swapExpired r).now = d.now := rfl

theorem onlyKeys.swapExpired {ks : List Nat} {d e : Dev} (h : onlyKeys ks d e) (r : Nat) (hpend : CFG.PEND.key 0 0 ∈ ks)
    (htmo : CFG.TMO.key 0 0 ∈ ks) : onlyKeys ks d (e.swapExpired r) := (h.swapGone r hpend).wr CFG.TMO _ 0 0 htmo

/-- Settles O24: the acceptance by `loadAccept_live_waits`, the swap and the timeout by whether the region waits and whether it is
held. -/
theorem liveRegions_wait_swap_or_timeOut : Obligations.LiveRegions := by
  unfold Obligations.LiveRegions
  refine ⟨fun i d persist hkind hlive hne => loadAccept_live_waits ⟨hkind, hlive, hne⟩ d persist, ?_⟩
  intro r flashOk s c
  have hswap : exec (.liveRegionSwap r flashOk) s = onBoth (liveRegionSwap r flashOk) s := rfl
  have htimeout : exec (.liveSwapTimeout r) s = onDev (liveSwapTimeout r) s := rfl
  rw [hswap, htimeout, onBoth, onDev]
  refine ⟨fun hnone => ?_, fun w hr hw => ⟨fun hfree => ?_, fun hheld => ?_⟩⟩
  · rw [liveRegionSwap_none hnone, liveSwapTimeout_none hnone]
    exact ⟨rfl, rfl⟩
  · rw [liveRegionSwap_free hw hfree, liveSwapTimeout_free hw hfree]
    exact ⟨rfl, (c.swapInstant r).swapGone r, rfl, rfl, Dev.swapGone_pend hr _, Dev.swapGone_swaps ..,
      (onlyKeys.of_regs (c.swapInstant_regs r)).swapGone r (by simp)⟩
  · rw [liveRegionSwap_held hw hheld, liveSwapTimeout_held hw hheld]
    refine ⟨rfl, _, rfl, Dev.swapExpired_pend hr _, Dev.swapExpired_tmo hr _, Dev.swapExpired_swaps _ r, ?_,
      (onlyKeys.of_regs (c.waitUntil_regs _)).swapExpired r (by simp) (by simp), ?_⟩
    · rw [Dev.swapExpired_built, Dev.waitUntil_built]
    · rw [Dev.swapExpired_now]
      exact (c.waitUntil_now (w.since + c.liveTmo)).1

end Sys2Proof.Machine
end

section
/-! The end of a static build (R79, R84, R85, R471). -/

namespace Sys2Proof.Machine

/-- A finished build is no longer in progress. -/
theorem Dev.builtNow_building (d : Dev) (cs : List Content) : (d.builtNow cs).cfg.building = none := by
  unfold Dev.builtNow; dsimp only; split <;> rfl

/-- No region of a finished build stays unbuilt (R80). -/
theorem Dev.builtNow_unbuilt (d : Dev) (cs : List Content) : ∀ c ∈ cs, c.no ∉ (d.builtNow cs).cfg.unbuilt := by
  have hleft : (d.builtNow cs).cfg.unbuilt = d.cfg.unbuilt.filter fun r => !cs.any fun c => decide (c.no = r) := by
    unfold Dev.builtNow; dsimp only; split <;> rfl
  intro c hc
  rw [hleft, List.mem_filter]
  rintro ⟨-, hno⟩
  have hany : (cs.any fun x => decide (x.no = c.no)) = true := List.any_eq_true.mpr ⟨c, hc, by simp⟩
  simp [hany] at hno

/-- What a full image leads to once its structure stands: its header is in force, its keys are enrolled (R76, R93). -/
def Dev.fullTaken (d : Dev) (i : Image) : Dev := ((d.headerIn i).enrolKeys i).recLatch

/-- What the end of a build makes of the image: nothing of a partial one, the header and the store of a full one (R84, R85). -/
def Dev.imageTaken (d : Dev) (i : Image) (persist flashOk : Bool) : Dev :=
  if i.kind ≠ 0 then d else if persist ∧ flashOk then (d.fullTaken i).storeFull i else d.fullTaken i

theorem Dev.imageTaken_partial {i : Image} (h : i.kind ≠ 0) (d : Dev) (persist flashOk : Bool) : d.imageTaken i persist flashOk = d :=
  if_pos h

theorem Dev.imageTaken_full {i : Image} {persist flashOk : Bool} (h : i.kind = 0) (hkept : persist = false ∨ flashOk = false) (d : Dev) :
    d.imageTaken i persist flashOk = d.fullTaken i := by
  rcases hkept with rfl | rfl <;> simp [Dev.imageTaken, h]

theorem Dev.imageTaken_stored {i : Image} {persist flashOk : Bool} (h : i.kind = 0) (hpersist : persist = true) (hflash : flashOk = true)
    (d : Dev) : d.imageTaken i persist flashOk = (d.fullTaken i).storeFull i := by
  simp [Dev.imageTaken, h, hpersist, hflash]

/-- LOAD_STATE reads IDLE, and LOAD_RESULT the result. -/
def Dev.loadEnded (d : Dev) (result : Nat) : Dev := (d.wr CFG.LOAD_STATE 0).wr CFG.LOAD_RESULT result

theorem Dev.loadEnded_state (d : Dev) (result : Nat) : (d.loadEnded result).rd CFG.LOAD_STATE = 0 := by
  rw [Dev.loadEnded, Dev.rd_wr_ne _ _ _ _ _ _ _ _ (by decide)]
  exact d.rd_wr CFG.LOAD_STATE 0 0 0

theorem buildResult_lt (i : Image) (persist flashOk : Bool) : buildResult i persist flashOk < 16 := by
  unfold buildResult
  split
  · decide
  split
  · decide
  split <;> decide

theorem Dev.loadEnded_result {result : Nat} (h : result < 16) (d : Dev) : (d.loadEnded result).rd CFG.LOAD_RESULT = result :=
  (Dev.rd_wr _ CFG.LOAD_RESULT result 0 0).trans (Nat.mod_eq_of_lt h)

theorem Dev.loadEnded_cfg (d : Dev) (result : Nat) : (d.loadEnded result).cfg = d.cfg := rfl

theorem Dev.loadEnded_onlyKeys (d : Dev) (result : Nat) :
    onlyKeys [CFG.LOAD_STATE.key 0 0, CFG.LOAD_RESULT.key 0 0] d (d.loadEnded result) :=
  ((onlyKeys.of_regs rfl).wr CFG.LOAD_STATE 0 0 0 (by simp)).wr CFG.LOAD_RESULT result 0 0 (by simp)

theorem staticBuildComplete_none {d : Dev} (h : d.loadWait.cfg.building = none) (flashOk : Bool) (m : Memory) :
    staticBuildComplete flashOk m d = (d.loadWait, m) := by
  simp [staticBuildComplete, h]

theorem staticBuildComplete_some {d : Dev} {w : Build} (h : d.loadWait.cfg.building = some w) (flashOk : Bool) (m : Memory) :
    let r := d.loadWait.rebuildAll w.contents m
    let res := buildResult w.image w.persist flashOk
    staticBuildComplete flashOk m d
      = (((((r.1.builtNow w.contents).imageTaken w.image w.persist flashOk).loadEnded res).loadPart 16 (some res)).note .gates, r.2) := by
  by_cases hkind : w.image.kind = 0
  · simp [staticBuildComplete, h, hkind, Dev.imageTaken, Dev.fullTaken, Dev.loadEnded, buildPart]
  · simp [staticBuildComplete, h, hkind, Dev.imageTaken, Dev.loadEnded, buildPart]

theorem buildResult_eq (i : Image) (persist flashOk : Bool) : buildResult i persist flashOk
    = if persist = false then 1 else if i.kind = 1 then 12 else if flashOk then 1 else 11 := by
  cases persist <;> rfl

/-- Settles O25: by `staticBuildComplete_some`, `raw` being the device with the rebuilt structure. -/
theorem staticBuildEnds : Obligations.StaticBuildEnds := by
  unfold Obligations.StaticBuildEnds
  intro flashOk s
  have hexec : exec (.staticBuildComplete flashOk) s = onBoth (staticBuildComplete flashOk) s := rfl
  dsimp only
  rw [hexec, onBoth]
  refine ⟨fun hnone => by rw [staticBuildComplete_none hnone], fun w hw => ?_⟩
  rw [staticBuildComplete_some hw, ← buildResult_eq]
  generalize Dev.rebuildAll s.dev.begin.loadWait w.contents s.dram = p
  obtain ⟨raw, m⟩ := p
  let taken := (raw.builtNow w.contents).imageTaken w.image w.persist flashOk
  exact ⟨taken.loadEnded _, taken, rfl, taken.loadEnded_state _, taken.loadEnded_result (buildResult_lt ..), taken.loadEnded_cfg _,
    taken.loadEnded_onlyKeys _, raw.builtNow_building w.contents, raw.builtNow_unbuilt w.contents,
    fun hpart => Dev.imageTaken_partial hpart .., fun hfull hkept => Dev.imageTaken_full hfull hkept _,
    fun hfull hpersist hflash => Dev.imageTaken_stored hfull hpersist hflash _⟩

end Sys2Proof.Machine
end

section
/-! What a loop run computes (R185, R191 to R203). -/

namespace Sys2Proof.Machine

/-! The arithmetic (R193 to R195). -/

theorem clampI_mem {lo hi : Int} (h : lo ≤ hi) (x : Int) : lo ≤ clampI lo hi x ∧ clampI lo hi x ≤ hi := by
  unfold clampI
  split
  · omega
  · split <;> omega

theorem clampI_of_mem {lo hi x : Int} (hlo : lo ≤ x) (hhi : x ≤ hi) : clampI lo hi x = x := by
  unfold clampI
  split
  · omega
  · split <;> omega

/-- A quotient of a whole multiple is exact. -/
theorem divAway_mul_self (a : Int) {b : Nat} (hb : 0 < b) : divAway (a * b) b = a := by
  have hpos : (0 : Int) < 2 * b := by omega
  -- twice the multiple and the half added in, over twice the divisor
  have hround (x : Int) : (2 * (x * b) + b) / ((2 * b : Nat) : Int) = x := by
    push_cast
    rw [show 2 * (x * (b : Int)) + b = b + x * (2 * b) by rw [Int.mul_left_comm, Int.add_comm], Int.add_mul_ediv_right _ _ (by omega),
      Int.ediv_eq_zero_of_lt (by omega) (by omega), Int.zero_add]
  unfold divAway
  split
  · rw [← Int.neg_mul, hround, Int.neg_neg]
  · exact hround a

/-- Division to nearest misses by at most half the divisor. -/
theorem divAway_32768_near (a : Int) : 2 * (divAway a 32768 * 32768 - a).natAbs ≤ 32768 := by
  unfold divAway; split <;> omega

theorem sat40_range (x : Int) : -(2 ^ 39) ≤ (sat40 x).1 ∧ (sat40 x).1 < 2 ^ 39 := by
  have h := clampI_mem (lo := -(2 ^ 39 : Nat)) (hi := (2 ^ 39 : Nat) - 1) (by decide) x
  simp only [sat40]
  omega

theorem sat40_of_fits {x : Int} (hlo : -(2 ^ 39) ≤ x) (hhi : x < 2 ^ 39) : sat40 x = (x, false) := by
  have hin : ¬ (x < -((2 ^ 39 : Nat) : Int) ∨ ((2 ^ 39 : Nat) : Int) ≤ x) := by omega
  rw [sat40, decide_eq_false hin, clampI_of_mem (by omega) (by omega)]

theorem sat15_range (x : Int) : -32768 ≤ sat15 x ∧ sat15 x ≤ 32767 := clampI_mem (by decide) x

/-- Within the Q15 span a Q30 value is missed by at most half a unit (R194). -/
theorem round15_near {a : Int} (hlo : -(2 ^ 30) + 2 ^ 14 ≤ a) (hhi : a < 2 ^ 30 - 2 ^ 14) :
    2 * (round15 a * 32768 - a).natAbs ≤ 32768 := by
  have hnear := divAway_32768_near a
  have hfits : round15 a = divAway a 32768 := by
    apply clampI_of_mem <;> unfold divAway <;> split <;> omega
  rwa [hfits]

theorem moveToward_zero (x y : Int) : moveToward x y 0 = y := if_pos rfl

theorem moveToward_of_pos (x y : Int) {r : Nat} (hr : 0 < r) : moveToward x y r = clampI (x - r) (x + r) y :=
  if_neg (by omega)

theorem moveToward_within (x y : Int) {r : Nat} (hr : 0 < r) : (moveToward x y r - x).natAbs ≤ r := by
  have h := clampI_mem (lo := x - r) (hi := x + r) (by omega) y
  rw [moveToward_of_pos x y hr]
  omega

theorem moveToward_reaches {x y : Int} {r : Nat} (hr : 0 < r) (h : (y - x).natAbs ≤ r) : moveToward x y r = y := by
  rw [moveToward_of_pos x y hr]
  exact clampI_of_mem (by omega) (by omega)

/-- At run BLEND_N the weight is 1 and the new set stands alone (R200). -/
theorem blendTerm_last (x y : Q30) {n : Nat} (hn : 0 < n) : (blendTerm x y n n).1 = (sat40 y.1).1 := by
  have hw : divAway (32768 * (n : Int)) n = 32768 := divAway_mul_self 32768 hn
  have hd : divAway ((y.1 - x.1) * 32768) 32768 = y.1 - x.1 := divAway_mul_self (y.1 - x.1) (by decide)
  have hsum : x.1 + (y.1 - x.1) = y.1 := by omega
  simp only [blendTerm, hw, hd, hsum]

/-! When a slot is due, its region, its following error (R185, R199, R203). -/

theorem Dev.loopDue_iff {d : Dev} {n : Nat} (k : Nat) (hdiv : 1 ≤ d.rd CTL.S_DIV n) (hphase : d.rd CTL.S_PHASE n < d.rd CTL.S_DIV n) :
    d.loopDue n k = true ↔ ((d.rd CTL.S_DIV n : Nat) : Int) ∣ (k : Int) - (d.rd CTL.S_PHASE n : Nat) := by
  have hmax : Nat.max 1 (d.rd CTL.S_DIV n) = d.rd CTL.S_DIV n := Nat.max_eq_right hdiv
  rw [Dev.loopDue, hmax, decide_eq_true_iff, ← Nat.dvd_iff_mod_eq_zero, ← Int.natCast_dvd_natCast]
  generalize d.rd CTL.S_DIV n = div at *
  generalize d.rd CTL.S_PHASE n = phase at *
  -- the whole periods that keep the model's subtraction from running out change nothing
  have hshift : ((k + 1024 * div - phase : Nat) : Int) = (k - phase) + div * 1024 := by omega
  rw [hshift, Int.dvd_add_left (Int.dvd_mul_right ..)]

theorem regionUp_le (bound : Nat → Int) (h v : Int) (n : Nat) {r : Nat} (hr : r ≤ 7) : regionUp bound h v n r ≤ 7 := by
  induction n generalizing r with
  | zero => exact hr
  | succ n ih =>
    rw [regionUp]
    split
    · exact ih (by omega)
    · exact hr

/-- Going up stops where it began, or in a region whose bound plus HYST has been reached. -/
theorem regionUp_reached (bound : Nat → Int) (h v : Int) (n r : Nat) :
    regionUp bound h v n r = r ∨ bound (regionUp bound h v n r) + h ≤ v := by
  induction n generalizing r with
  | zero => exact .inl rfl
  | succ n ih =>
    rw [regionUp]
    split
    next hup =>
      rcases ih (r + 1) with hstay | hreach
      · rw [hstay]; exact .inr hup.2
      · exact .inr hreach
    next => exact .inl rfl

theorem regionDown_le (bound : Nat → Int) (h v : Int) (r : Nat) : regionDown bound h v r ≤ r := by
  induction r with
  | zero => exact Nat.le_refl _
  | succ r ih =>
    rw [regionDown]
    split
    · exact Nat.le_succ_of_le ih
    · exact Nat.le_refl _

/-- A region whose bound has been reached is not left downward. -/
theorem regionDown_of_reached {bound : Nat → Int} {h v : Int} {r : Nat} (hh : 0 ≤ h) (hr : bound r + h ≤ v) :
    regionDown bound h v r = r := by
  cases r with
  | zero => rfl
  | succ r => exact if_neg (by omega)

theorem targetRegion_le (bound : Nat → Int) (h v : Int) {r : Nat} (hr : r ≤ 7) : targetRegion bound h v r ≤ 7 :=
  Nat.le_trans (regionDown_le ..) (regionUp_le bound h v 7 hr)

theorem targetRegion_reached {bound : Nat → Int} {h v : Int} {r : Nat} (hh : 0 ≤ h) (hup : r < targetRegion bound h v r) :
    bound (targetRegion bound h v r) + h ≤ v := by
  rcases regionUp_reached bound h v 7 r with hstay | hreach
  · have hdown := regionDown_le bound h v r
    rw [targetRegion, hstay] at hup
    omega
  · rwa [targetRegion, regionDown_of_reached hh hreach]

theorem Dev.loopFe_clear {d : Dev} {n : Nat} {e : Int} (fe : Nat) (h : d.rd CTL.S_FE_LIMIT n = 0 ∨ e.natAbs ≤ d.rd CTL.S_FE_LIMIT n) :
    d.loopFe n fe e = (0, false) := if_neg (by omega)

/-! The integrator through the parts of a run (R195), and what a run leaves (R202). -/

theorem LoopCh.notches_i (c : LoopCh) (preset1 preset2 : Bool) (x : Int) : (c.notches preset1 preset2 x).1.i = c.i := rfl

theorem LoopCh.begin_i (c : LoopCh) (n r : Nat) (g : Gains) : (c.begin n r g).i = c.i := rfl

theorem Dev.loopRegion_i (d : Dev) (s : Nat) (c : LoopCh) (start : Bool) : (d.loopRegion s c start).1.i = c.i := by
  simp only [Dev.loopRegion, apply_ite Prod.fst, apply_ite LoopCh.i, LoopCh.begin_i, ite_self]

theorem Dev.loopF_i (d : Dev) (s : Nat) (c : LoopCh) : (d.loopF s c).1.i = c.i := by
  simp only [Dev.loopF, apply_ite Prod.fst, apply_ite LoopCh.i, ite_self]

/-- Behind a closed gate a run that does not start keeps the integrator, limited output or not (R191). -/
theorem loopSum_gated (c : LoopCh) (p ii dd f : Q30) :
    (loopSum false true c p ii dd f).1 = (c.i, false) ∧ (loopSum false true c p ii dd f).2.1 = (c.i, false) := ⟨rfl, rfl⟩

theorem Dev.loopCompute_e (d d0 : Dev) (n : Nat) (start gated : Bool) : ∃ x, (d.loopCompute d0 n start gated).e = sat15 x := ⟨_, rfl⟩

theorem Dev.loopCompute_outPrev (d d0 : Dev) (n : Nat) (start gated : Bool) :
    (d.loopCompute d0 n start gated).c.outPrev = (d.loopCompute d0 n start gated).ul := rfl

theorem Dev.loopCompute_ul (d d0 : Dev) (n : Nat) (start gated : Bool) : ∃ prev u, (d.loopCompute d0 n start gated).ul
    = moveToward prev (clampI (d.rdS CTL.S_OUT_MIN n) (d.outMax n) u) (d.rd CTL.S_OUT_RATE n) := ⟨_, _, rfl⟩

theorem Dev.loopBegin_i (d : Dev) (s : Nat) (c : LoopCh) : (d.loopBegin s c).i = c.i := rfl

/-- A choice is one of its two branches. -/
theorem ite_eq_either {α : Type} (p : Prop) [Decidable p] (a b : α) : (if p then a else b) = a ∨ (if p then a else b) = b := by
  split
  · exact .inl rfl
  · exact .inr rfl

theorem Dev.loopCompute_i (d d0 : Dev) (n : Nat) (start gated : Bool) : ∃ (c : LoopCh) (p ii dd f : Q30), c.i = (d.lp n).i
    ∧ ((d.loopCompute d0 n start gated).c.i = (loopSum start gated c p ii dd f).1.1
      ∨ (d.loopCompute d0 n start gated).c.i = (loopSum start gated c p ii dd f).2.1.1) := by
  unfold Dev.loopCompute
  dsimp only
  refine ⟨_, _, _, _, _, ?_, ite_eq_either _ _ _⟩
  simp only [Dev.loopF_i, Dev.loopRegion_i, apply_ite Prod.fst, apply_ite LoopCh.i, LoopCh.notches_i, Dev.loopBegin_i, ite_self]

theorem Dev.loopCompute_i_gated (d d0 : Dev) (n : Nat) : (d.loopCompute d0 n false true).c.i = (d.lp n).i := by
  obtain ⟨c, p, ii, dd, f, hc, hprev | hnew⟩ := d.loopCompute_i d0 n false true
  · rw [hprev, (loopSum_gated c p ii dd f).1, hc]
  · rw [hnew, (loopSum_gated c p ii dd f).2, hc]

theorem Dev.loopAfter_run (d : Dev) (n : Nat) (gated lost : Bool) (c : LoopCh) (o : LoopOut) : let r := d.loopAfter n lpRun gated lost c o
    r.st = lpRun ∧ r.i = o.c.i ∧ r.out = some (o.ul, if gated then stValid + stGated else stValid) := ⟨rfl, rfl, rfl⟩

theorem Dev.loopAfter_parked (d : Dev) (n : Nat) {st : Nat} (hst : st ≠ lpRun) (gated lost : Bool) (c : LoopCh) (o : LoopOut) :
    let r := d.loopAfter n st gated lost c o
    r.st = st ∧ r.i = c.i ∧ r.out = some (d.loopParked n st c.outPrev, if gated then stValid + stGated else stValid) := by
  simp only [Dev.loopAfter, if_neg hst, and_self]

theorem Dev.loopParked_hold (d : Dev) (n : Nat) (outPrev : Int) : d.loopParked n lpHold outPrev = outPrev := if_pos rfl

/-- The bounds of an output (R195, chapter 7 +0x0C). -/
theorem Dev.loopCompute_ul_range (d d0 : Dev) (n : Nat) (start gated : Bool) (h : d.rd CTL.S_OUT_RATE n = 0) :
    d.rdS CTL.S_OUT_MIN n ≤ (d.loopCompute d0 n start gated).ul ∧ (d.loopCompute d0 n start gated).ul ≤ d.outMax n := by
  obtain ⟨prev, u, hul⟩ := d.loopCompute_ul d0 n start gated
  rw [hul, h, moveToward_zero]
  exact clampI_mem (Int.le_max_left ..) u

/-- The worked example of chapter 7: its terms, its output and a term of its blend. -/
theorem loop_worked_example : (gmul 16384 0 (-1639)).1 = -26853376 ∧ (gmul 131 0 (-1639)).1 = -214709
    ∧ (limitF 12288 (gmul (-16384) 0 20480)).1 = -335544320 ∧ round15 (sat40 (-26853376 + 751404568 + 0 - 335544320)).1 = 11872
    ∧ (limitF 12288 (gmul (-16384) 0 32767)).1 = -402653184 ∧ (blendTerm (-26853376, false) (-16111370, false) 4 16).1 = -24167874 := by
  decide

/-- Settles O38: each clause by the lemma about the function it speaks of. -/
theorem loopComputation : Obligations.LoopComputation := by
  unfold Obligations.LoopComputation
  refine ⟨fun d n k => Dev.loopDue_iff k, fun x => ⟨(sat40_range x).1, (sat40_range x).2, sat40_of_fits⟩,
    fun a => ⟨(sat15_range _).1, (sat15_range _).2, round15_near⟩, loop_worked_example,
    fun x y r hr => ⟨moveToward_within x y hr, moveToward_reaches hr, moveToward_zero x y⟩, fun d d0 n start gated => ?run,
    fun d n st gated lost c o => ?after, fun d n fe e => Dev.loopFe_clear fe, fun x y n => blendTerm_last x y,
    fun bound h v r hr => ⟨targetRegion_le bound h v hr, targetRegion_reached⟩⟩
  case run =>
    obtain ⟨x, he⟩ := d.loopCompute_e d0 n start gated
    obtain ⟨hlo, hhi⟩ := sat15_range x
    refine ⟨he ▸ hhi, he ▸ hlo, d.loopCompute_outPrev d0 n start gated, ?_, d.loopCompute_ul_range d0 n start gated⟩
    rintro rfl rfl
    exact d.loopCompute_i_gated d0 n
  case after =>
    by_cases hst : st = lpRun
    · subst hst
      obtain ⟨hstate, hi, hout⟩ := d.loopAfter_run n gated lost c o
      exact ⟨fun hne => absurd rfl hne, fun _ => hi, hstate, fun _ => hout, fun h => absurd h (by decide)⟩
    · obtain ⟨hstate, hi, hout⟩ := d.loopAfter_parked n hst gated lost c o
      refine ⟨fun _ => hi, fun h => absurd h hst, hstate, fun h => absurd h hst, ?_⟩
      rintro rfl
      rw [hout, Dev.loopParked_hold]

end Sys2Proof.Machine
end

section
/-! The arithmetic of the grid and of ego-motion (R221 to R223, R230). -/

namespace Sys2Proof.Machine

/-! The accumulator (R221, R222). -/

/-- An accumulator holds a signed 16-bit value. -/
def Held16 (a : Int × Bool) : Prop := -32768 ≤ a.1 ∧ a.1 ≤ 32767

theorem sat16_held (v : Int) (was : Bool) : Held16 (sat16 v was) := clampI_mem (by decide) v

/-- A weight is the top byte of a table entry. -/
theorem weight_zero {e : Nat} (h : e < 2 ^ 24) : bitsOf 31 24 e = 0 := by
  rw [bitsOf, Nat.div_eq_of_lt h, Nat.zero_mod]

/-- Cameras and point sensors each leave the accumulator or saturate a sum. -/
theorem accCell_held {bias : List Int} {k : Nat} (hbias : Held16 (bias.getD k 0, false)) (cams : List CamPart) (pts : List PtPart)
    (g : Nat) : Held16 (accCell bias cams pts g k) := by
  unfold accCell
  refine List.foldlRecOn pts _ (List.foldlRecOn cams _ hbias fun a ha c _ => ?_) fun a ha p _ => ?_
  · exact iteInduction (fun _ => ha) fun _ => sat16_held ..
  · exact iteInduction (fun _ => sat16_held ..) fun _ => ha

/-- A cell that no weight and no footprint reaches holds its bias. -/
theorem accCell_unreached (bias : List Int) {cams : List CamPart} {pts : List PtPart} {g : Nat} (k : Nat)
    (hcams : ∀ c ∈ cams, c.table.getD g 0 < 2 ^ 24)
    (hpts : ∀ p ∈ pts, g / 256 < p.row0 ∨ p.row1 < g / 256 ∨ g % 256 < p.col0 ∨ p.col1 < g % 256) :
    accCell bias cams pts g k = (bias.getD k 0, false) := by
  unfold accCell
  refine List.foldlRecOn (motive := (· = (bias.getD k 0, false))) pts _
    (List.foldlRecOn (motive := (· = (bias.getD k 0, false))) cams _ rfl fun a ha c hc => ?_) fun a ha p hp => ?_
  · exact (if_pos (weight_zero (hcams c hc))).trans ha
  · have hout := hpts p hp
    exact (if_neg (by omega)).trans ha

/-! Grid bytes (R223) and the worked examples. -/

theorem gridByte_range (qm : List Nat) (acc : Int) (k : Nat) : -128 ≤ gridByte qm acc k ∧ gridByte qm acc k ≤ 127 :=
  clampI_mem (by decide) _

/-- The worked examples of R221 and R223. -/
theorem grid_worked_examples : divAway (96 * 80 * 64) 8192 = 60 ∧ divAway (-40 * 48 * 64) 8192 = -15 ∧ gridByte [49152] 35 0 = 26
    ∧ gridByte [49152] 50 0 = 38 ∧ gridByte [49152] (-10) 0 = -8 := by decide

/-! The peak (R230). -/

/-- The best of the first `n` scores, the first on a tie, and its index; score 0 while there is none. -/
def bestScore (s : List Int) (n : Nat) : Nat × Int :=
  (List.range n).foldl (fun b a => if b.2 < s.getD a 0 then (a, s.getD a 0) else b) (0, s.getD 0 0)

theorem egoPeak_eq (s : List Int) : egoPeak s = (bestScore s (49 * 17)).1 := rfl

theorem bestScore_succ (s : List Int) (n : Nat) : bestScore s (n + 1)
    = if (bestScore s n).2 < s.getD n 0 then (n, s.getD n 0) else bestScore s n := by
  rw [bestScore, List.range_succ, List.foldl_append]
  rfl

/-- What the best of the first `n + 1` scores is. -/
structure IsBest (s : List Int) (n : Nat) (b : Nat × Int) : Prop where
  index : b.1 ≤ n
  score : b.2 = s.getD b.1 0
  highest : ∀ a ≤ n, s.getD a 0 ≤ b.2
  first : ∀ a < b.1, s.getD a 0 < b.2

theorem bestScore_isBest (s : List Int) (n : Nat) : IsBest s n (bestScore s (n + 1)) := by
  induction n with
  | zero =>
    have hone : bestScore s 1 = (0, s.getD 0 0) := by simp [bestScore]
    rw [hone]
    refine ⟨Nat.le_refl 0, rfl, fun a ha => ?_, fun a ha => absurd ha (Nat.not_lt_zero a)⟩
    obtain rfl := Nat.le_zero.mp ha
    exact Int.le_refl _
  | succ n ih =>
    rw [bestScore_succ]
    split
    next hmore =>
      refine ⟨Nat.le_refl _, rfl, fun a ha => ?_, fun a ha => Int.lt_of_le_of_lt (ih.highest a (by omega)) hmore⟩
      rcases Nat.le_or_eq_of_le_succ ha with hle | rfl
      · exact Int.le_of_lt (Int.lt_of_le_of_lt (ih.highest a hle) hmore)
      · exact Int.le_refl _
    next hless =>
      refine ⟨Nat.le_succ_of_le ih.index, ih.score, fun a ha => ?_, ih.first⟩
      rcases Nat.le_or_eq_of_le_succ ha with hle | rfl
      · exact ih.highest a hle
      · exact Int.not_lt.mp hless

/-- The peak is the first of the highest scores. -/
theorem egoPeak_spec (s : List Int) : egoPeak s < 49 * 17 ∧ (∀ a < 49 * 17, s.getD a 0 ≤ s.getD (egoPeak s) 0)
    ∧ ∀ a < egoPeak s, s.getD a 0 < s.getD (egoPeak s) 0 := by
  obtain ⟨hindex, hscore, hhighest, hfirst⟩ := bestScore_isBest s (49 * 17 - 1)
  rw [egoPeak_eq, ← hscore]
  exact ⟨Nat.lt_succ_of_le hindex, fun a ha => hhighest a (Nat.le_of_lt_succ ha), hfirst⟩

/-! Quality, refinement and result (R230, R231). -/

theorem egoQuality_of_pos {s1 : Int} (h : 0 < s1) (s2 : Int) : egoQuality s1 s2 = (255 * (s1 - s2) / s1).toNat := by
  rw [egoQuality, if_neg (Int.not_le.mpr h), Int.fdiv_eq_ediv_of_nonneg _ (Int.le_of_lt h)]

theorem egoQuality_nonpos {s1 : Int} (h : s1 ≤ 0) (s2 : Int) : egoQuality s1 s2 = 0 := if_pos h

theorem egoQuality_le {s2 : Int} (h : 0 ≤ s2) (s1 : Int) : egoQuality s1 s2 ≤ 255 := by
  by_cases hs : 0 < s1
  · have hq : 255 * (s1 - s2) / s1 ≤ 255 := Int.ediv_le_of_le_mul hs (by omega)
    rw [egoQuality_of_pos hs]
    omega
  · rw [egoQuality_nonpos (Int.not_lt.mp hs)]
    decide

theorem egoQuality_zero_second {s1 : Int} (h : 0 < s1) : egoQuality s1 0 = 255 := by
  rw [egoQuality_of_pos h, Int.sub_zero, Int.mul_ediv_cancel _ (Int.ne_of_gt h)]
  rfl

theorem egoQuality_self (s : Int) : egoQuality s s = 0 := by
  by_cases hs : 0 < s
  · rw [egoQuality_of_pos hs, Int.sub_self, Int.mul_zero, Int.zero_ediv]
    rfl
  · exact egoQuality_nonpos (Int.not_lt.mp hs) s

theorem egoShown_le (q o : Nat) : egoShown q o ≤ 255 := by
  unfold egoShown
  split <;> omega

theorem egoShown_of_le {q : Nat} (h : q ≤ 255) (o : Nat) : egoShown q o = q := if_pos (Nat.lt_succ_of_le h)

theorem egoRefine_range (lo mid hi : Int) : -32 ≤ egoRefine lo mid hi ∧ egoRefine lo mid hi ≤ 32 := by
  unfold egoRefine
  dsimp only
  split
  · decide
  · exact clampI_mem (by decide) _

/-- The causes of an invalid result in the order the engine takes them: the peak at an edge, too low a quality, too long an interval. -/
theorem egoFrom_valid {s : List Int} {dt minQ o : Nat} (h : (egoFrom s dt minQ o).cause = 0) :
    minQ ≤ egoQuality (scoreAt s (egoPeak s / 17) (egoPeak s % 17)) (egoSecond s (egoPeak s / 17) (egoPeak s % 17)) ∧ dt ≤ 100000000
      ∧ 1 ≤ egoPeak s / 17 ∧ egoPeak s / 17 ≤ 47 ∧ 1 ≤ egoPeak s % 17 ∧ egoPeak s % 17 ≤ 15 := by
  obtain ⟨hpeak, -, -⟩ := egoPeak_spec s
  unfold egoFrom at h
  dsimp only at h
  split at h
  · cases h
  split at h
  · cases h
  split at h
  · cases h
  omega

/-- An invalid result carries no speed. -/
theorem egoFrom_invalid {s : List Int} {dt minQ o : Nat} (h : (egoFrom s dt minQ o).cause ≠ 0) : (egoFrom s dt minQ o).speed = 0 := by
  unfold egoFrom at h ⊢
  dsimp only at h ⊢
  split
  · rfl
  split
  · rfl
  split
  · rfl
  · next hedge hlow hlong =>
    rw [if_neg hedge, if_neg hlow, if_neg hlong] at h
    exact absurd rfl h

/-- Settles O41: each clause by the lemma about the function it speaks of. -/
theorem gridAndEgoArithmetic : Obligations.GridAndEgoArithmetic := by
  unfold Obligations.GridAndEgoArithmetic
  refine ⟨fun bias cams pts g k hlo hhi => ?_, fun qm acc k => (gridByte_range qm acc k).symm, grid_worked_examples, egoPeak_spec,
    fun s1 s2 => ⟨fun h => egoQuality_nonpos h s2, fun h => egoQuality_le h s1, ?_, ?_⟩,
    fun q o => ⟨egoShown_le q o, fun h => egoShown_of_le h o⟩, fun a b c => (egoRefine_range a b c).symm,
    fun s dt minQ o => egoFrom_valid, fun s dt minQ o => egoFrom_invalid⟩
  · obtain ⟨hmin, hmax⟩ := accCell_held (k := k) ⟨hlo, hhi⟩ cams pts g
    exact ⟨hmax, hmin, accCell_unreached bias k⟩
  · rintro hpos rfl
    exact egoQuality_zero_second hpos
  · rintro rfl
    exact egoQuality_self s1

end Sys2Proof.Machine
end

section
/-! A transform table in use for a camera that there is not: dropping it as a frame's build begins writes a register outside FUS (R217,
R224), and the end of the command does not undo that where PD4 alone is on. -/

namespace Sys2Proof.Machine

/-! Registers that the end of a command leaves: a threshold of a load switch, and the domains, mode, enables and gates that see to it. -/

/-- Fields of element 0, and what they read: 60 mA as the open-load threshold of load switch 0, PD4 alone on, BOOT, VDR, BLW and ETH
enabled, EXCLUDED, every gate closed. -/
def steadyReads : List (Fld × Nat) :=
  [(LSW.CH_OL_ON_MA, 60), (SYS.PD_ON, 16), (SYS.MODE, 2), (ETH.EN, 1), (ETH.JOIN_STATE, 3), (VDR.EN, 1), (BLW.EN, 1), (VDR.GATE, 0),
   (BLW.GATE, 0), (LSW.GATE_LO, 0), (LSW.GATE_HI, 0), (FIO.GATE_LO, 0), (FIO.GATE_HI, 0)]

/-- Every field of `steadyReads` reads as listed. -/
def Steady (d : Dev) : Prop := ∀ p ∈ steadyReads, d.rd p.1 = p.2

theorem Steady.read {d : Dev} (h : Steady d) {f : Fld} {v : Nat} (hf : (f, v) ∈ steadyReads := by simp [steadyReads]) : d.rd f = v :=
  h (f, v) hf

/-- The fields of `steadyReads` lie below the queue fabric. -/
theorem steadyReads_low : ∀ p ∈ steadyReads, p.1.key 0 0 < 0x40100000 * 32 := by decide

theorem Fld.base_le_key (f : Fld) (i j : Nat) : f.base * 32 ≤ f.key i j := by
  unfold Fld.key Fld.addr
  omega

/-! What keeps them. -/

theorem Steady.of_entries {d e : Dev} (h : Steady d) (he : ∀ p ∈ steadyReads, tget? (p.1.key 0 0) e.regs = tget? (p.1.key 0 0) d.regs) :
    Steady e := by
  intro p hp
  rw [← h p hp]
  unfold Dev.rd
  rw [he p hp]

theorem Steady.of_regs {d e : Dev} (h : Steady d) (he : e.regs = d.regs) : Steady e := h.of_entries fun _ _ => by rw [he]

theorem Steady.wr {d : Dev} (h : Steady d) {f : Fld} {i j : Nat} (hf : ∀ p ∈ steadyReads, p.1.key 0 0 ≠ f.key i j) (v : Nat) :
    Steady (d.wr f v i j) := h.of_entries fun p hp => d.wr_entry_ne f v i j _ (hf p hp)

/-- A write to a block from the queue fabric on. -/
theorem Steady.wrHigh {d : Dev} (h : Steady d) (f : Fld) (v i j : Nat) (hf : 0x40100000 ≤ f.base) : Steady (d.wr f v i j) := by
  refine h.wr (fun p hp => ?_) v
  have hlow := steadyReads_low p hp
  have hkey := f.base_le_key i j
  omega

/-- A change outside FUS alone leaves them. -/
theorem Steady.of_onlyBlocks {d e : Dev} (h : Steady d) (he : onlyBlocks [7] d e) : Steady e := by
  have hblock : ∀ p ∈ steadyReads, keyBlock (p.1.key 0 0) ∉ [7] := by decide
  exact h.of_entries fun p hp => he _ (hblock p hp)

/-! Queues at a command's end. -/

theorem Steady.wrPair {d : Dev} (h : Steady d) (lo hi : Fld) (q : Nat) (b : Bool) (hlo : 0x40100000 ≤ lo.base)
    (hhi : 0x40100000 ≤ hi.base) : Steady (d.wrPair lo hi q b) :=
  iteInduction (motive := Steady) (fun _ => h.wrHigh _ _ _ _ hlo) fun _ => h.wrHigh _ _ _ _ hhi

theorem Steady.queueBoundary {d : Dev} (h : Steady d) (q : Nat) : Steady (d.queueBoundary q) := by
  have hbase : ∀ f ∈ [QUE.Q_HIGH_WM, QUE.Q_LOW_WM, QUE.Q_STALE_US], 0x40100000 ≤ f.base := by decide
  refine forAll_keeps Steady _ _ (fun f hf e he => ?_) d h
  split
  · exact (he.wrHigh f _ q 0 (hbase f hf)).of_regs rfl
  · exact he

theorem levelKey_high {k : Nat} (hk : levelKey k) : 0x40100000 * 32 ≤ k := by
  unfold levelKey at hk
  omega

theorem Steady.queueLevel {d : Dev} (h : Steady d) {q : Nat} (hq : q < 64) : Steady (d.queueLevel q) :=
  h.of_entries fun p hp => (queueLevel_shown d hq).regs _ fun hlevel =>
    absurd (steadyReads_low p hp) (Nat.not_lt.mpr (levelKey_high hlevel))

theorem Steady.queueWindow {d : Dev} (h : Steady d) (q : Nat) : Steady (d.queueWindow q) := by
  unfold Dev.queueWindow
  refine Steady.wrPair (forAll_keeps Steady _ _ (fun k _ e he => ?_) _ ?_) _ _ _ _ (by decide) (by decide)
  · exact he.wrHigh _ _ _ _ (by decide)
  · exact h.wrHigh _ _ _ _ (by decide)

theorem Steady.queueMove {d : Dev} (h : Steady d) {q : Nat} (hq : q < 64) : Steady (d.queueMove q) := by
  unfold Dev.queueMove
  refine (Steady.queueLevel ?_ hq).queueWindow q
  split
  · exact (h.of_regs (e := d.setQueue q _) rfl).queueBoundary q
  · exact h.of_regs rfl

theorem Steady.chainShow {d : Dev} (h : Steady d) : Steady d.chainShow := by
  have hlt : ∀ q ∈ [60, 61, 62, 63], q < 64 := by decide
  refine forAll_keeps Steady _ _ (fun q hq e he => ?_) d h
  split
  · exact iteInduction (fun _ => he.queueMove (hlt q hq)) fun _ => he
  · exact he

/-! Waiting writes at a command's end (R87). -/

/-- The field of a key has that key. -/
theorem fieldOfKey_key {k : Nat} {q : Fld × Nat × Nat} (h : fieldOfKey k = some q) : q.1.key q.2.1 q.2.2 = k := by
  obtain ⟨-, haddr⟩ := mem_fieldsAt (List.mem_of_find?_eq_some h)
  have hlo : q.1.lo = k % 32 := by simpa using List.find?_some h
  rw [Fld.key, haddr, hlo]
  omega

/-- No safe boundary stands for them: their blocks are enabled, and wait for a boundary of their own. -/
theorem Steady.boundaryNow {d : Dev} (h : Steady d) : ∀ p ∈ steadyReads,
    d.boundaryNow (keyBlock (p.1.key 0 0)) (elemOf (keyBlock (p.1.key 0 0)) (p.1.key 0 0 / 32)) = false := by
  have hvdr : d.rd VDR.EN = 1 := h.read
  have hblw : d.rd BLW.EN = 1 := h.read
  have heth : d.rd ETH.EN = 1 := h.read
  have helem : ∀ p ∈ steadyReads, (keyBlock (p.1.key 0 0), elemOf (keyBlock (p.1.key 0 0)) (p.1.key 0 0 / 32))
      ∈ [(0, 0), (10, 0), (10, 1), (11, 0), (12, 0), (13, 0), (15, 0)] := by decide
  have hnow : ∀ x ∈ [(0, 0), (10, 0), (10, 1), (11, 0), (12, 0), (13, 0), (15, 0)], d.boundaryNow x.1 x.2 = false := by
    simp [Dev.boundaryNow, Dev.enabled, Dev.flag, hvdr, hblw, heth]
  exact fun p hp => hnow _ (helem p hp)

theorem Steady.standing {d : Dev} (h : Steady d) : Steady d.standing := by
  unfold Dev.standing
  split
  · exact h
  refine h.of_entries fun p hp => (applyWaiting_spec d _ fieldOfKey).2 _ fun e _ hpick q hq heq => ?_
  have hkey : p.1.key 0 0 = e.1 := heq.trans (fieldOfKey_key hq)
  rw [← hkey, h.boundaryNow p hp] at hpick
  cases hpick

/-! The fault manager. -/

/-- PD4 alone is on. -/
theorem Steady.pdOn {d : Dev} (h : Steady d) {n : Nat} (hn : n ≠ 4) : d.pdOn n = false := by
  have hpd : d.rd SYS.PD_ON = 2 ^ 4 := h.read
  rw [Dev.pdOn, hpd, Nat.testBit_two_pow]
  exact decide_eq_false hn.symm

/-- An EXCLUDED module opens no gate (R370). -/
theorem Steady.gateWanted {d : Dev} (h : Steady d) (c : Chan) : d.gateWanted c = false := by
  have hjoin : d.rd ETH.JOIN_STATE = 3 := h.read
  simp [Dev.gateWanted, hjoin]

theorem Dev.rdPair_zero {d : Dev} {lo hi : Fld} (hlo : d.rd lo = 0) (hhi : d.rd hi = 0) (n : Nat) : d.rdPair lo hi n = false := by
  simp [Dev.rdPair, hlo, hhi]

theorem Steady.fcGate {d : Dev} (h : Steady d) (k : Nat) (opened : Bool) : Steady (d.fcGate k opened) := by
  have hbit : Steady (d.wrBit QUE.FC_GATE k opened) := h.wrHigh _ _ _ _ (by decide)
  unfold Dev.fcGate Dev.driveFc
  split
  · exact hbit.wrHigh _ _ _ _ (by decide)
  · exact hbit

/-- Only gates of FC pins may still have to close. -/
theorem Steady.refreshGates {d : Dev} (h : Steady d) : Steady d.refreshGates := by
  refine forAll_keeps Steady _ _ (fun c _ e he => ?_) d h
  have hwant := he.gateWanted c
  have hclosed (hopen : e.gateOpen c = false) :
      Steady (if e.gateOpen c = e.gateWanted c then e else e.setGate c (e.gateWanted c)) := by
    rwa [if_pos (hopen.trans hwant.symm)]
  cases c with
  | ls n => exact hclosed (Dev.rdPair_zero he.read he.read n)
  | io n => exact hclosed (Dev.rdPair_zero he.read he.read n)
  | vd n => exact hclosed (by rw [Dev.gateOpen, he.read (v := 0), Nat.zero_testBit])
  | bl n => exact hclosed (by rw [Dev.gateOpen, he.read (v := 0), Nat.zero_testBit])
  | fc n => exact iteInduction (fun _ => he) fun _ => he.fcGate n _

theorem Steady.fltSummary {d : Dev} (h : Steady d) : Steady d.fltSummary :=
  ((h.wrHigh FLT.MAX_SEV _ 0 0 (by decide)).wrHigh FLT.ACTIVE_N _ 0 0 (by decide)).wrHigh FLT.IN_WINDOW _ 0 0 (by decide)

theorem Steady.recovered {d : Dev} (h : Steady d) (code inst : Nat) : Steady (d.recovered code inst) := by
  have hshown {e : Dev} (he : Steady e) : Steady (((e.wr FLT.F_ACTIVE 0 (faultIdx code)).fltSummary).note .gates) :=
    ((he.wrHigh FLT.F_ACTIVE 0 (faultIdx code) 0 (by decide)).fltSummary).of_regs rfl
  unfold Dev.recovered
  split
  · exact h
  dsimp only
  split
  · exact h.of_regs rfl
  split
  · exact hshown (h.of_regs rfl)
  · exact hshown (h.of_regs rfl)

/-- No queue takes a routing item while the queue fabric is off. -/
theorem Steady.routeItem {d : Dev} (h : Steady d) (n sev code : Nat) : d.routeItem n sev code = d := by
  have hoff : d.powered 16 = false := h.pdOn (by decide)
  simp [Dev.routeItem, Dev.queueItem, hoff]

theorem Steady.evRise {d : Dev} (h : Steady d) (n : Nat) : Steady (d.evRise n) := by
  unfold Dev.evRise
  rw [h.routeItem]
  exact iteInduction (fun _ => h.of_regs rfl) fun _ => h

theorem Steady.route {d : Dev} (h : Steady d) : Steady d.route := by
  refine forAll_keeps Steady _ _ (fun n _ e he => he.evRise n) _ ?_
  exact ((h.of_regs (e := { d with flt := { d.flt with pending := d.pendingNow } }) rfl).wrHigh FLT.EV_PEND_LO _ 0 0 (by decide)).wrHigh
    FLT.EV_PEND_HI _ 0 0 (by decide)

/-- In BOOT a SAFE request waits (R442). -/
theorem Steady.safeRequest {d : Dev} (h : Steady d) (why : Nat) : Steady (d.safeRequest why) := by
  have hmode : d.mode = 2 := h.read
  simp only [Dev.safeRequest, Dev.safeNow, hmode, true_or, if_true]
  exact h.of_regs rfl

theorem Steady.takeUp {d : Dev} (h : Steady d) (r : Raised) : Steady (d.takeUp r) := by
  cases r with
  | fault c i => simpa [Dev.takeUp, Dev.detect, h.pdOn (n := 2) (by decide)] using h
  | recover c i => exact h.recovered c i
  | route => exact h.route
  | gates => exact h.refreshGates
  | safe why => exact h.safeRequest why

theorem Steady.settleRounds (n : Nat) {d : Dev} (h : Steady d) : Steady (Dev.settleRounds n d) := by
  induction n generalizing d with
  | zero => exact h.of_regs rfl
  | succ n ih =>
    unfold Dev.settleRounds
    split
    · exact h
    · exact ih (forAll_keeps Steady _ _ (fun r _ e he => he.takeUp r) _ (h.of_regs rfl))

theorem Steady.settle {d : Dev} (h : Steady d) : Steady d.settle := h.settleRounds 32

theorem Steady.netSettle {d : Dev} (h : Steady d) : Steady d.netSettle := by
  rwa [Dev.netSettle_off (h.pdOn (by decide)) (h.pdOn (by decide))]

theorem Steady.gateShow {d : Dev} (h : Steady d) : Steady d.gateShow := by
  rcases d.gateShow_cases with ⟨v, hshow⟩ | hshow <;> rw [hshow]
  · exact h.wrHigh _ _ _ _ (by decide)
  · exact h

theorem Steady.cfgShow {d : Dev} (h : Steady d) : Steady d.cfgShow :=
  (h.wr (f := CFG.SHADOW) (by decide) _).wr (f := CFG.LOCKED) (by decide) _

/-- The end of a command leaves them, whatever it finds. -/
theorem Steady.finish {d : Dev} (h : Steady d) : Steady d.finish :=
  h.chainShow.standing.settle.netSettle.settle.gateShow.cfgShow

/-! The state, and the refutation. -/

/-- Out of reset with the registers of `steadyReads`, the timebase running and FUS enabled with a program and no camera. A transform table
is in use for "camera" 12,528, whose CAM_CAL_ID would stand at the address of CH_OL_ON_MA of load switch 0. No command leads here: the
model lets only cameras 0 to 7 have a table, and the statement does not ask for that. -/
def strayTable : State :=
  let d := forAll ((TMB.RUN, 1) :: (FUS.EN, 1) :: steadyReads) (fun p d => d.wr p.1 p.2) State.reset.dev
  { State.reset with dev := { d with built := [(11, [.headProgram 1])], fus := { d.fus with tables := [(12528, [])] } } }

theorem strayTable_begin : strayTable.dev.begin.powered 7 = true ∧ strayTable.dev.begin.shutBlocks.contains 7 = false
    ∧ strayTable.dev.begin.running = true ∧ ∀ p ∈ steadyReads, strayTable.dev.begin.rd p.1 = p.2 := by decide +kernel

/-- The instant drops the table, and with its CAL_ID the threshold of the load switch. -/
theorem strayTable_threshold : (onBlock 7 fusionInstant strayTable.dev.begin).finish.rd LSW.CH_OL_ON_MA = 50 := by decide +kernel

theorem exec_fusionInstant (s : State) :
    exec .fusionInstant s = .next { s with dev := (onBlock 7 fusionInstant s.dev.begin).finish } := rfl

/-- Refutes O39: FUSION_INSTANT of `strayTable` changes a register of LSW. The statement leaves open which device the command's end starts
from; by `Steady.finish` none that differs from the beginning in FUS alone ends as the command does. -/
theorem not_fusionInstants : ¬ Obligations.FusionInstants := by
  unfold Obligations.FusionInstants
  intro h
  obtain ⟨hpowered, hopen, hrunning, hsteady⟩ := strayTable_begin
  obtain ⟨-, -, hinstant, -⟩ := h
  obtain ⟨d, hexec, -, -, honly, -⟩ := hinstant strayTable ⟨hpowered, hopen⟩ hrunning
  rw [exec_fusionInstant] at hexec
  injection hexec with hstate
  injection hstate with _ _ hend
  have hkept : d.finish.rd LSW.CH_OL_ON_MA = 60 := (Steady.of_onlyBlocks hsteady honly).finish.read
  rw [← hend, strayTable_threshold] at hkept
  cases hkept

end Sys2Proof.Machine
end
